-- ==== Sys2Proof/Word.lean ====
section
/-! DEFINITION. The plain number types of the LB6420 model and the two operations on its fixed tables.

Numbers the manual gives a range (counts, ages, times, speeds, codes) are natural numbers. Bytes of the control
link, pixel components and masks are bit vectors. A fixed number of like things is a `Vector`. -/

namespace Sys2Proof

/-- A byte of the control link, or an 8-bit pixel component (00_scope, Pixel values). -/
abbrev Byte := BitVec 8

/-- A camera, and the port and the stores that serve it: CAM0 to CAM3 (Chapter 1). -/
abbrev Cam := Fin 4

/-- A metering window id, 0 to 15 (Chapter 5). -/
abbrev WindowId := Fin 16

/-- A view id, 0 to 7 (Chapter 4). -/
abbrev ViewId := Fin 8

/-- A pixel or a colour, written (Y, Cb, Cr) in the manual (00_scope, Pixel values). -/
structure Pixel where
  y : Byte
  cb : Byte
  cr : Byte
deriving DecidableEq, Repr, Inhabited

/-- The entry of a fixed table. -/
def look {α : Type} {n : Nat} (t : Vector α n) (i : Fin n) : α := t[i]

/-- A fixed table with one entry replaced. -/
def put {α : Type} {n : Nat} (t : Vector α n) (i : Fin n) (a : α) : Vector α n := t.set i a

/-- A fixed table with every entry changed. -/
def mapTable {α β : Type} {n : Nat} (f : α → β) (t : Vector α n) : Vector β n := Vector.ofFn fun i => f (look t i)

/-- Some entry of a fixed table meets a condition. -/
def anyEntry {α : Type} {n : Nat} (t : Vector α n) (f : α → Bool) : Bool := (List.finRange n).any fun i => f (look t i)

/-- A number as an index below `n`, where it is one. -/
def index? (n k : Nat) : Option (Fin n) := if h : k < n then some ⟨k, h⟩ else none

end Sys2Proof
end

