-- ==== Sys2Proof/Syntax.lean ====
section
/-! DEFINITION. The commands of the LB6420: the events at its pins, links and timers, and the requests of the control
link, one constructor for each row of `spec/opcode_table.json`.

A request's fields are the fields its chapter names. Codes whose numbers the manual does not give are an `Option` of
the named values: `none` stands for a code that is none of them. -/

namespace Sys2Proof

/-- The six camera picture formats, by code 1 to 6 (R1). -/
inductive CamMode where
  | m1 | m2 | m3 | m4 | m5 | m6
deriving DecidableEq, Repr

/-- The roles of a metering window (Chapter 5, 5.1). -/
inductive RoleKind where
  | tone | clarity | seam | watch
deriving DecidableEq, Repr

/-- The two clarity modes (R115). -/
inductive ClarityKind where
  | fixed | paired
deriving DecidableEq, Repr

/-- The kinds of a shape (Chapter 9, 9.1). -/
inductive ShapeKind where
  | polyline | polygon | icon
deriving DecidableEq, Repr

/-- The conditions a shape may carry (R152). -/
inductive Condition where
  | always | hazard | kerbIndicator | reverse | moving | altSource | sourceNotGood
deriving DecidableEq, Repr

/-- The two cadence channels (Chapter 9, 9.4). -/
inductive ChannelId where
  | blink | buzz
deriving DecidableEq, Repr

/-- The two copies of the view table (Chapter 4). -/
inductive TableCopy where
  | edit | live
deriving DecidableEq, Repr

/-- The triggers a cadence channel selects (R153, R155). -/
structure TriggerMask where
  hazard : Bool
  cameraDown : Bool
  obscured : Bool
  noData : Bool
deriving DecidableEq, Repr

/-- A point of a shape (Chapter 9, 9.1). -/
structure Point where
  x : Nat
  y : Nat
deriving DecidableEq, Repr

/-- A node of a mapping grid: 16-bit source position and void flag (Chapter 3, 3.1; R46). -/
structure Node where
  u : BitVec 16
  v : BitVec 16
  void : Bool
deriving DecidableEq, Repr

/-- The pixel body of a SEGMENT record: its lines from the top, each line's pixels from the left (R5). -/
abbrev SegmentBody := List (List Pixel)

/-! ## Records of the camera link (R5) -/

/-- The body of an ANNOUNCE record: type code, maximum exposure index, mode codes in the camera's order. -/
structure AnnounceRecord where
  typeCode : Byte
  maxExposure : Nat
  modes : List Nat
deriving DecidableEq, Repr

/-- The body of a TRAIN SEGMENT record: segment index, and the bytes of the training pattern. -/
structure TrainRecord where
  index : Nat
  pattern : List Byte
deriving DecidableEq, Repr

/-- The body of a FRAME HEADER record: frame number, mode code, exposure index. -/
structure HeaderRecord where
  number : Byte
  mode : Nat
  exposure : Nat
deriving DecidableEq, Repr

/-! ## Bytes of the control link (R161) -/

/-- A byte as it arrives on the control link: its eight data bits, and whether its stop bit came (R161). -/
structure LineByte where
  value : Byte
  stop : Bool
deriving DecidableEq, Repr

/-! ## Bodies of the requests -/

/-- The body of a taken request: of a length its kind does not allow (R165, step 2), or the fields it carries. -/
inductive Body (α : Type) where
  | badLength
  | fields (f : α)
deriving DecidableEq, Repr, Inhabited

/-- Parameter group 0 (R170). -/
structure LinkParams where
  announceWaitMs : Nat
  trainWaitMs : Nat
  trainTolerance : Nat
  retrainThreshold : Nat
  retrainFrames : Nat
deriving DecidableEq, Repr

/-- Parameter group 1 (R170). -/
structure StoreParams where
  holdLimit : Nat
  degradeLimit : Nat
  freezeLimit : Nat
deriving DecidableEq, Repr

/-- Parameter group 2, one camera's tone settings (R101). -/
structure ToneFields where
  camera : Nat
  target : Nat
  black : Nat
deriving DecidableEq, Repr

/-- Parameter group 3 (R170). -/
structure ToneLimits where
  satFrames : Nat
  exposureSettle : Nat
deriving DecidableEq, Repr

/-- Parameter group 4, one camera's clarity settings (R116). -/
structure ClarityFields where
  camera : Nat
  mode : Option ClarityKind
  partner : Nat
  level : Nat
deriving DecidableEq, Repr

/-- Parameter group 5 (R170). -/
structure ClarityLimits where
  clrStep : Nat
  validLo : Nat
  validHi : Nat
  obscureFrames : Nat
  clearFrames : Nat
deriving DecidableEq, Repr

/-- Parameter group 6 (R170). -/
structure ZoneParams where
  actStep : Nat
  actFrames : Nat
  actHold : Nat
deriving DecidableEq, Repr

/-- Parameter group 7 (R139, R170). -/
structure SituationParams where
  vehTimeout : Nat
  turnDwell : Nat
  viewMinDwell : Nat
  liftSpeed : Nat
  turnSpeed : Nat
  creepEnter : Nat
  creepLeave : Nat
deriving DecidableEq, Repr

/-- Parameter group 8, one cadence channel's settings (R154). -/
structure CadenceFields where
  channel : Option ChannelId
  onTime : Nat
  offTime : Nat
  burst : Nat
  mask : TriggerMask
  tone : Nat
deriving DecidableEq, Repr

/-- PORT CONTROL with a preference list (R9). -/
structure PreferenceFields where
  port : Nat
  codes : List Nat
deriving DecidableEq, Repr

/-- WINDOW SET: a window id and a full definition; level and arming mask travel with the role WATCH only (R86). -/
structure WindowFields where
  id : Nat
  camera : Nat
  left : Nat
  top : Nat
  right : Nat
  bottom : Nat
  step : Nat
  role : Option RoleKind
  watch : Option (Nat × BitVec 8)
deriving DecidableEq, Repr

/-- SEAM SET (R109). -/
structure SeamFields where
  pair : Nat
  windowA : Nat
  windowB : Nat
  enabled : Bool
deriving DecidableEq, Repr

/-- GRID BEGIN (R45). -/
structure GridBeginFields where
  id : Nat
  cols : Nat
  rows : Nat
deriving DecidableEq, Repr

/-- GRID NODES (R46). -/
structure GridNodesFields where
  id : Nat
  first : Nat
  nodes : List Node
deriving DecidableEq, Repr

/-- SHAPE SET: a full shape record with its point count; width travels with POLYLINE, glyph with ICON (R147). -/
structure ShapeFields where
  id : Nat
  kind : Option ShapeKind
  count : Nat
  points : List Point
  width : Option Nat
  glyph : Option Nat
  colour : Pixel
  alpha : Nat
  conditions : List (Option Condition)
  blink : Bool
deriving DecidableEq, Repr

/-- SET OVERLAY LIST (R66). -/
structure OverlayListFields where
  list : Nat
  shapes : List Nat
deriving DecidableEq, Repr

/-- VIEW SET (R64). -/
structure ViewSetFields where
  view : Nat
  background : Pixel
  label : Nat
deriving DecidableEq, Repr

/-- The geometry group of a pane record (Chapter 4, 4.1). -/
structure Geometry where
  x : Nat
  y : Nat
  w : Nat
  h : Nat
deriving DecidableEq, Repr

/-- A camera and a grid as a request names them. -/
structure SourceFields where
  camera : Nat
  grid : Nat
deriving DecidableEq, Repr

/-- The dress group of PANE SET; its overlay list field may be NONE (R62). -/
structure DressFields where
  list : Option Nat
  mirror : Bool
  border : Pixel
  label : Nat
deriving DecidableEq, Repr

/-- PANE SET: any subset of the four groups; the alternate group carries a source or NONE (R62). -/
structure PaneSetFields where
  view : Nat
  slot : Nat
  geometry : Option Geometry
  primary : Option SourceFields
  alternate : Option (Option SourceFields)
  dress : Option DressFields
deriving DecidableEq, Repr

/-- PANE DROP (R63). -/
structure PaneDropFields where
  view : Nat
  slot : Nat
deriving DecidableEq, Repr

/-- FORCE VIEW; the timeout in seconds (R141). -/
structure ForceFields where
  view : Nat
  ceiling : Nat
  timeout : Nat
deriving DecidableEq, Repr

/-- The four operations of PORT CONTROL (R17). -/
inductive PortOperation where
  | enable | disable | restart | preference
deriving DecidableEq, Repr

/-- The kinds of item READ TABLE names (R67). -/
inductive ItemKind where
  | view | map | list
deriving DecidableEq, Repr

/-- The item READ TABLE names (R67). -/
inductive TableItem where
  | view (id : Nat)
  | map
  | list (id : Nat)
deriving DecidableEq, Repr

/-- READ TABLE (R67). -/
structure ReadTableFields where
  copy : Option TableCopy
  item : Option TableItem
deriving DecidableEq, Repr

/-- COUNTER SELECT; entry `n` of the mask is camera `n`'s (R175). -/
structure CounterFields where
  counter : Nat
  event : Nat
  mask : BitVec 4
deriving DecidableEq, Repr

/-- The body of SET PARAMETERS: one group's values, or a group code that is none of 0 to 8 (R170). -/
inductive ParameterBody where
  | undefined
  | link (b : Body LinkParams)
  | store (b : Body StoreParams)
  | tone (b : Body ToneFields)
  | toneLimits (b : Body ToneLimits)
  | clarity (b : Body ClarityFields)
  | clarityLimits (b : Body ClarityLimits)
  | zone (b : Body ZoneParams)
  | situation (b : Body SituationParams)
  | cadence (b : Body CadenceFields)
deriving DecidableEq, Repr, Inhabited

/-- The body of PORT CONTROL: one of the four operations, or an operation that is none of them (R17). -/
inductive PortBody where
  | undefined
  | enable (b : Body Nat)
  | disable (b : Body Nat)
  | restart (b : Body Nat)
  | preference (b : Body PreferenceFields)
deriving DecidableEq, Repr, Inhabited

/-- The body of MODE: a mode code, or a code above 2 (R176). -/
inductive ModeBody where
  | undefined
  | badLength
  | config
  | run
  | standby
deriving DecidableEq, Repr, Inhabited

/-- The built-in marks of the output generator (R79). -/
inductive MarkId where
  | setup | frozen | lens | alt | noData
deriving DecidableEq, Repr

/-- The levels the part finds at its inputs at power-on (R3, R84, R161). -/
structure PowerInputs where
  strap1 : Bool
  strap0 : Bool
  carrier : Vector Bool 4
  display : Bool
deriving DecidableEq, Repr

/-- The commands, one constructor for each row of `spec/opcode_table.json`, in the table's order. -/
inductive Instr where
  /-- Supply starts, or RESET is released (R179). -/
  | powerOn (levels : PowerInputs)
  /-- RESET is driven low (R179). -/
  | resetAssert
  /-- The camera's idle fill appears (R13). -/
  | carrierGain (c : Cam)
  /-- The camera's idle fill disappears (R16). -/
  | carrierLoss (c : Cam)
  /-- An ANNOUNCE record arrives, with the 16-bit check that came with it (R5, R11). -/
  | announceArrival (c : Cam) (r : AnnounceRecord) (check : BitVec 16)
  /-- A TRAIN SEGMENT record arrives, with its check (R5, R14). -/
  | trainingSegmentArrival (c : Cam) (r : TrainRecord) (check : BitVec 16)
  /-- A FRAME HEADER record arrives, with its check (R5, R18). -/
  | frameHeaderArrival (c : Cam) (h : HeaderRecord) (check : BitVec 16)
  /-- A SEGMENT record arrives: segment index, pixels, check (R5, R19). -/
  | segmentArrival (c : Cam) (i : Nat) (body : SegmentBody) (check : BitVec 16)
  /-- A FRAME TRAILER record arrives: frame number, check (R5, R20). -/
  | frameTrailerArrival (c : Cam) (number : Byte) (check : BitVec 16)
  /-- A record of none of the six kinds arrives (R7). -/
  | unknownRecordArrival (c : Cam)
  /-- The announce timer of a port expires (R13). -/
  | announceTimerExpiry (c : Cam)
  /-- The train timer of a port expires (R15). -/
  | trainTimerExpiry (c : Cam)
  /-- The back channel of a port ends a record (R6). -/
  | backChannelRecordSent (c : Cam)
  /-- The display timebase starts an output frame (R72). -/
  | outputFrameStart
  /-- The display-present input takes a level (R84). -/
  | displaySenseChange (level : Bool)
  /-- The display sense timer expires (R84). -/
  | displaySenseTimerExpiry
  /-- The hold timer of a window's zone expires (R126). -/
  | holdTimerExpiry (w : WindowId)
  /-- The vehicle timeout expires (R134). -/
  | vehicleTimeoutExpiry
  /-- The turn dwell expires (R136). -/
  | turnDwellExpiry
  /-- The force timer expires (R142). -/
  | forceTimerExpiry
  /-- The view dwell timer expires (R144). -/
  | viewDwellTimerExpiry
  /-- The phase timer of a channel expires in ON (R156). -/
  | onTimeExpiry (ch : ChannelId)
  /-- The phase timer of a channel expires in OFF (R156). -/
  | offTimeExpiry (ch : ChannelId)
  /-- The byte gap timer expires (R163). -/
  | byteGapTimerExpiry
  /-- The second check byte arrives and completes the control frame (R163). -/
  | controlFrameComplete (b : LineByte)
  /-- The transmitter ends a frame (R167). -/
  | frameSendEnd
  /-- A request of no known KIND, or of a KIND whose selector is none of its defined values (R165). -/
  | unknownRequest (kind tag : Byte)
  /-- IDENTIFY (R172). -/
  | identify (tag : Byte) (b : Body Unit)
  /-- STATUS (R172). -/
  | status (tag : Byte) (b : Body Unit)
  /-- SET PARAMETERS, group 0 (R170). -/
  | setParametersLink (tag : Byte) (b : Body LinkParams)
  /-- SET PARAMETERS, group 1 (R30, R38). -/
  | setParametersStore (tag : Byte) (b : Body StoreParams)
  /-- SET PARAMETERS, group 2 (R101). -/
  | setParametersTone (tag : Byte) (b : Body ToneFields)
  /-- SET PARAMETERS, group 3 (R101). -/
  | setParametersToneLimits (tag : Byte) (b : Body ToneLimits)
  /-- SET PARAMETERS, group 4 (R116). -/
  | setParametersClarity (tag : Byte) (b : Body ClarityFields)
  /-- SET PARAMETERS, group 5 (R116). -/
  | setParametersClarityLimits (tag : Byte) (b : Body ClarityLimits)
  /-- SET PARAMETERS, group 6 (R170). -/
  | setParametersZone (tag : Byte) (b : Body ZoneParams)
  /-- SET PARAMETERS, group 7 (R139). -/
  | setParametersSituation (tag : Byte) (b : Body SituationParams)
  /-- SET PARAMETERS, group 8 (R154). -/
  | setParametersCadence (tag : Byte) (b : Body CadenceFields)
  /-- PORT CONTROL, enable a port (R17). -/
  | portEnable (tag : Byte) (b : Body Nat)
  /-- PORT CONTROL, disable a port (R17). -/
  | portDisable (tag : Byte) (b : Body Nat)
  /-- PORT CONTROL, LINK RESTART of a port (R17). -/
  | linkRestart (tag : Byte) (b : Body Nat)
  /-- PORT CONTROL with a preference list (R9). -/
  | portPreferenceList (tag : Byte) (b : Body PreferenceFields)
  /-- WINDOW SET (R86). -/
  | windowSet (tag : Byte) (b : Body WindowFields)
  /-- WINDOW DROP (R88). -/
  | windowDrop (tag : Byte) (b : Body Nat)
  /-- SEAM SET (R109). -/
  | seamSet (tag : Byte) (b : Body SeamFields)
  /-- GRID BEGIN (R45). -/
  | gridBegin (tag : Byte) (b : Body GridBeginFields)
  /-- GRID NODES (R46). -/
  | gridNodes (tag : Byte) (b : Body GridNodesFields)
  /-- GRID END (R47). -/
  | gridEnd (tag : Byte) (b : Body Nat)
  /-- GRID DROP (R48). -/
  | gridDrop (tag : Byte) (b : Body Nat)
  /-- SHAPE SET (R147). -/
  | shapeSet (tag : Byte) (b : Body ShapeFields)
  /-- SHAPE DROP (R148). -/
  | shapeDrop (tag : Byte) (b : Body Nat)
  /-- SET OVERLAY LIST (R66). -/
  | setOverlayList (tag : Byte) (b : Body OverlayListFields)
  /-- VIEW SET (R64). -/
  | viewSet (tag : Byte) (b : Body ViewSetFields)
  /-- PANE SET (R62). -/
  | paneSet (tag : Byte) (b : Body PaneSetFields)
  /-- PANE DROP (R63). -/
  | paneDrop (tag : Byte) (b : Body PaneDropFields)
  /-- VIEW MAP SET: pairs of situation code and view id (R65). -/
  | viewMapSet (tag : Byte) (b : Body (List (Nat × Nat)))
  /-- APPLY TABLES (R68). -/
  | applyTables (tag : Byte) (b : Body Unit)
  /-- VEHICLE STATE: the bytes of the vehicle state record (R132, R169). -/
  | vehicleState (tag : Byte) (record : List Byte)
  /-- FORCE VIEW (R141). -/
  | forceView (tag : Byte) (b : Body ForceFields)
  /-- RELEASE VIEW (R142). -/
  | releaseView (tag : Byte) (b : Body Unit)
  /-- SILENCE (R157). -/
  | silence (tag : Byte) (b : Body Unit)
  /-- READ CAMERA (R173). -/
  | readCamera (tag : Byte) (b : Body Nat)
  /-- READ METER (R98). -/
  | readMeter (tag : Byte) (b : Body Nat)
  /-- READ TABLE (R67). -/
  | readTable (tag : Byte) (b : Body ReadTableFields)
  /-- COUNTER SELECT (R175). -/
  | counterSelect (tag : Byte) (b : Body CounterFields)
  /-- COUNTER READ (R175). -/
  | counterRead (tag : Byte) (b : Body Unit)
  /-- MODE with code 0, CONFIG (R176). -/
  | modeConfig (tag : Byte) (b : Body Unit)
  /-- MODE with code 1, RUN (R176). -/
  | modeRun (tag : Byte) (b : Body Unit)
  /-- MODE with code 2, STANDBY (R176). -/
  | modeStandby (tag : Byte) (b : Body Unit)
  /-- RESTART (R180). -/
  | restart (tag : Byte) (b : Body Unit)
  /-- A byte arrives on the control link (R163). -/
  | byteReceived (b : LineByte)
deriving DecidableEq, Repr

end Sys2Proof
end

