-- ==== Sys2Proof/Decode.lean ====
section
/-! DEFINITION. The words of the opcode table. No row of `spec/opcode_table.json` gives bits: the commands of this part are
events and requests, and a request's frame is read byte by byte by the receiver (R163), not as a word of the table. -/

namespace Sys2Proof

/-- The command a word of the table spells: none. -/
def decodeTableWord (_nbits _w : Nat) : Option Instr := none

end Sys2Proof
end

