-- ==== Sys2Proof/Config.lean ====
section
/-! DEFINITION. What the part fixes for good: the parameter defaults of R170, and the values the manual leaves open.

Each `opaque` constant has no body: nothing can be proved about its value, and what the model says holds for every
value it may have. -/

namespace Sys2Proof.Config

/-- Defaults of parameter group 0 (R170). -/
def linkDefaults : LinkParams := ⟨200, 150, 1, 10, 8⟩

/-- Defaults of parameter group 1 (R170). -/
def storeDefaults : StoreParams := ⟨3, 5, 4⟩

/-- Default TONE_TARGET (R170). -/
def toneTargetDefault : Nat := 110

/-- Default BLACK_OFFSET (R170). -/
def blackOffsetDefault : Nat := 4

/-- Defaults of parameter group 3 (R170). -/
def toneLimitDefaults : ToneLimits := ⟨8, 4⟩

/-- Default CLR_LEVEL (R170). -/
def clrLevelDefault : Nat := 6

/-- Defaults of parameter group 5 (R170). -/
def clarityLimitDefaults : ClarityLimits := ⟨1, 24, 232, 60, 30⟩

/-- Defaults of parameter group 6 (R170). -/
def zoneDefaults : ZoneParams := ⟨2, 2, 1500⟩

/-- Defaults of parameter group 7 (R170). -/
def situationDefaults : SituationParams := ⟨500, 3000, 1000, 5, 30, 12, 18⟩

/-! ## Free values -/

/-- A pixel the manual does not define: bank contents nothing has written since power-on (R25), and a place of a
segment's lines that its record did not fill. The arguments are the count of power-ons, the camera, the bank's key, the
line and the column. -/
opaque undefinedPixel : Nat → Cam → Nat → Nat → Nat → Pixel

/-- The pattern of a glyph, at column and row 0 to 15; the manual names the glyphs and gives no patterns
(Chapter 9, the glyph set). -/
opaque glyphPattern : Nat → Nat → Nat → Bool

/-- The pattern of a built-in mark, at column and row 0 to 15; the manual gives no patterns (R79). -/
opaque markPattern : MarkId → Nat → Nat → Bool

/-- Whether, at a frame close that also changes the clarity state, the segment store's event is taken before the
clarity monitor's: the manual allows either order (R37). The argument counts the choices made. -/
opaque storeActsFirst : Nat → Bool

/-! ## Codes in bodies

The manual names the values of these fields and marks and gives no codes for them. Each has one byte (log 5). -/

/-- The byte of a flag or a truth value, and the mark before a group or a field that may be absent. -/
opaque flagByte : Bool → Byte

opaque roleByte : RoleKind → Byte
opaque clarityByte : ClarityKind → Byte
opaque shapeKindByte : ShapeKind → Byte
opaque conditionByte : Condition → Byte
opaque channelByte : ChannelId → Byte
opaque copyByte : TableCopy → Byte
opaque itemByte : ItemKind → Byte
opaque operationByte : PortOperation → Byte

/-- The byte of a place of SHAPE SET's condition set that holds no condition (log 5). -/
opaque noCondition : Byte

/-- The camera byte of an alternate group that carries NONE (R62). -/
opaque noneSource : Byte

/-- The overlay list byte of a dress group whose list is NONE (R62). -/
opaque noneList : Byte

/-- What stands for an absent slot in READ TABLE's reply (R67). -/
opaque absentSlot : List Byte

end Sys2Proof.Config
end

