-- ==== Sys2Proof/Machine/State.lean ====
section
/-! DEFINITION. The state of the LB6420, block by block, and the state after power-on.

Each structure's docstring names the state table of the manual it holds. A timer is `none` when it is stopped and
`some t` while it runs with `t` ms remaining. -/

namespace Sys2Proof.Machine

/-- Why the part could stop: for nothing. No command ends in a fault; the type has no constructor. -/
inductive Fault where
deriving DecidableEq, Repr

/-- Why a command could have no meaning. -/
inductive Refusal where
  /-- Raised by `exec` alone, for a command without a meaning yet; safe. No arm raises it. -/
  | notModelled (mnemonic : String)
deriving DecidableEq, Repr

/-! ## Camera link ports -/

/-- The link states (1.4). -/
inductive LinkState where
  | off | dark | announceWait | training | streaming | lost | refused
deriving DecidableEq, Repr

/-- The causes of a LINK report (R8). -/
inductive LinkCause where
  | enabled | carrier | announced | trained | downgrade | preference | noAnnounce | noCommonMode | trainFail
  | noLowerMode | hostRestart | disabled | leftRun | restarted
deriving DecidableEq, Repr

/-- The frame phases (1.9). -/
inductive FramePhase where
  | noFrame | opened | ignoring
deriving DecidableEq, Repr

/-- The records of the back channel (R5), each with the fields of its body; TRAIN RESULT is ACCEPT or RETRY, EXPOSURE STEP is
UP or DOWN. Their kinds, bytes and checks are `BackRecord.kind`, `BackRecord.body` and `BackRecord.check`. -/
inductive BackRecord where
  | solicit
  | offer (m : CamMode)
  | accept
  | retry
  | exposureUp
  | exposureDown
  | release
deriving DecidableEq, Repr

/-- One camera link port (R3), with its back channel (R6). An entry of the working result map is `true` when good. -/
structure Port where
  enabled : Bool
  link : LinkState
  carrier : Bool
  preference : List CamMode
  announceList : List CamMode
  common : List CamMode
  typeCode : Option Byte
  maxExposure : Option Nat
  mode : Option CamMode
  exposure : Nat
  announceTimer : Option Nat
  announceCount : Nat
  trainTimer : Option Nat
  attempts : Nat
  trainExpected : Nat
  trainBad : Nat
  phase : FramePhase
  frameNumber : Byte
  expected : Nat
  previous : Option Byte
  resultMap : List Bool
  badFrames : Nat
  backSending : Option BackRecord
  backWaiting : List BackRecord
deriving DecidableEq, Repr

/-- A port after power-on, with carrier as sensed (R3). -/
def Port.initial (carrier : Bool) : Port where
  enabled := true
  link := .off
  carrier := carrier
  preference := [.m1, .m3, .m4, .m5, .m6, .m2]
  announceList := []
  common := []
  typeCode := none
  maxExposure := none
  mode := none
  exposure := 0
  announceTimer := none
  announceCount := 0
  trainTimer := none
  attempts := 0
  trainExpected := 0
  trainBad := 0
  phase := .noFrame
  frameNumber := 0
  expected := 0
  previous := none
  resultMap := []
  badFrames := 0
  backSending := none
  backWaiting := []

/-! ## Segment store -/

/-- The two banks of a segment (2.2). -/
inductive Bank where
  | bank0 | bank1
deriving DecidableEq, Repr

/-- The states of a segment table entry (2.3). -/
inductive SegState where
  | empty | fresh | held | stale
deriving DecidableEq, Repr

/-- A segment table entry (2.3). -/
structure SegEntry where
  state : SegState
  age : Nat
  lastGood : Option Byte
deriving DecidableEq, Repr

/-- Camera health (R36). -/
inductive Health where
  | off | absent | frozen | degraded | obscured | good
deriving DecidableEq, Repr

/-- The contents of one bank of one segment, under the key `2 * segment + bank`. -/
structure BankCell where
  key : Nat
  lines : SegmentBody
deriving DecidableEq, Repr

/-- What the segment store latches of a camera (R40); `contents` holds the shown banks only. -/
structure CamLatch where
  table : List SegEntry
  mode : Option CamMode
  shown : Vector Bank 50
  contents : List BankCell
  health : Health
deriving DecidableEq, Repr

/-- One camera's share of the segment store (R25). `banks` lists what has been written since power-on, keys rising. -/
structure CamStore where
  shown : Vector Bank 50
  banks : List BankCell
  table : List SegEntry
  freeze : Nat
  health : Health
  latch : CamLatch
deriving DecidableEq, Repr

/-- One camera's store after power-on (R25). R25 gives the latched copy an empty table, no mode and health OFF; that its shown
bank is bank 0 for every segment, with no contents, is the model's choice (DESIGN CHOICE, log 4). -/
def CamStore.initial : CamStore where
  shown := Vector.replicate 50 .bank0
  banks := []
  table := []
  freeze := 0
  health := .off
  latch := ⟨[], none, Vector.replicate 50 .bank0, [], .off⟩

/-! ## Grid store -/

/-- A grid (R42). A node of a LOADING grid is `some` once its written mark is set. -/
inductive Grid where
  | empty
  | loading (cols rows : Nat) (nodes : List (Option Node))
  | ready (cols rows : Nat) (nodes : List Node)
deriving DecidableEq, Repr

/-- The grid store (R42). -/
structure GridStore where
  grids : Vector Grid 16
  free : Nat
deriving DecidableEq, Repr

/-- The grid store after power-on (R42). -/
def GridStore.initial : GridStore := ⟨Vector.replicate 16 .empty, 2048⟩

/-! ## View table unit -/

/-- A camera and a grid of a pane. -/
structure PaneSource where
  camera : Cam
  grid : Fin 16
deriving DecidableEq, Repr

/-- A pane record (4.1). -/
structure Pane where
  geometry : Geometry
  primary : PaneSource
  alternate : Option PaneSource
  list : Option (Fin 16)
  mirror : Bool
  border : Pixel
  label : Fin 32
deriving DecidableEq, Repr

/-- A view: background colour, view label glyph, six pane slots (4.1). -/
structure View where
  background : Pixel
  label : Fin 32
  panes : Vector (Option Pane) 6
deriving DecidableEq, Repr

/-- One copy of the view table: views, view map, overlay lists (4.1). -/
structure Tables where
  views : Vector View 8
  map : Vector ViewId 8
  lists : Vector (List (Fin 64)) 16
deriving DecidableEq, Repr

/-- The tables after power-on (R60). -/
def Tables.initial : Tables where
  views := Vector.replicate 8 ⟨⟨0, 128, 128⟩, 0, Vector.replicate 6 none⟩
  map := Vector.replicate 8 0
  lists := Vector.replicate 16 []

/-- A pane's chosen source in the current output frame; `alternate` tells whether ALT_SOURCE holds (R71). -/
structure ChosenSource where
  source : PaneSource
  alternate : Bool
deriving DecidableEq, Repr

/-- The view table unit (R60). A slot's choice is `none` for the source choice none and for an absent pane. -/
structure ViewTable where
  live : Tables
  edit : Tables
  applyPending : Bool
  choice : Vector (Option ChosenSource) 6
deriving DecidableEq, Repr

/-- The view table unit after power-on (R60). -/
def ViewTable.initial : ViewTable := ⟨.initial, .initial, false, Vector.replicate 6 none⟩

/-! ## Metering unit -/

/-- A window's role, with the level and the arming mask of a WATCH window (5.1). -/
inductive Role where
  | tone
  | clarity
  | seam
  | watch (level : Nat) (arming : BitVec 8)
deriving DecidableEq, Repr

/-- A window's definition (5.1). -/
structure WindowDef where
  camera : Cam
  left : Nat
  top : Nat
  right : Nat
  bottom : Nat
  step : Nat
  role : Role
deriving DecidableEq, Repr

/-- A window's pending change (R85). -/
inductive PendingChange where
  | none
  | set (d : WindowDef)
  | drop
deriving DecidableEq, Repr

/-- A window's accumulators (R85). -/
structure Accumulators where
  sum : Nat
  count : Nat
  contrastSum : Nat
  contrastCount : Nat
  blockSums : List Nat
  blockCounts : List Nat
deriving DecidableEq, Repr

/-- Accumulators at 0. -/
def Accumulators.zero : Accumulators := ⟨0, 0, 0, 0, List.replicate 16 0, List.replicate 16 0⟩

/-- A window's pixel ranges in the open frame, the last column and row excluded (R91). -/
structure PixelRanges where
  xa : Nat
  xe : Nat
  ya : Nat
  ye : Nat
deriving DecidableEq, Repr

/-- The measures of a valid result (R93 to R95). -/
structure Measures where
  sum : Nat
  count : Nat
  mean : Nat
  contrastSum : Nat
  contrastCount : Nat
  contrast : Nat
  blocks : List Nat
deriving DecidableEq, Repr

/-- Validity of a result, with the measures of a valid one (R96). -/
inductive Verdict where
  | small
  | errored
  | valid (m : Measures)
deriving DecidableEq, Repr

/-- A window result (R96). -/
structure MeterResult where
  camera : Cam
  frame : Byte
  exposure : Nat
  verdict : Verdict
  first : Bool
deriving DecidableEq, Repr

/-- One metering window (R85). -/
structure Window where
  active : Option WindowDef
  change : PendingChange
  measuring : Bool
  acc : Accumulators
  ranges : Option PixelRanges
  first : Bool
  result : Option MeterResult
deriving DecidableEq, Repr

/-- A window after power-on (R85). -/
def Window.initial : Window := ⟨none, .none, false, .zero, none, false, none⟩

/-! ## Tone controller -/

/-- One camera's share of the tone controller (R100). -/
structure Tone where
  gain : Nat
  black : Nat
  target : Nat
  effective : Nat
  high : Nat
  low : Nat
  settle : Nat
  latchedGain : Nat
  latchedBlack : Nat
deriving DecidableEq, Repr

/-- One camera's tone state after power-on (R100). -/
def Tone.initial : Tone where
  gain := 256
  black := Config.blackOffsetDefault
  target := Config.toneTargetDefault
  effective := Config.toneTargetDefault
  high := 0
  low := 0
  settle := 0
  latchedGain := 256
  latchedBlack := Config.blackOffsetDefault

/-- A seam pair (R108). -/
structure SeamPair where
  windowA : Option WindowId
  windowB : Option WindowId
  enabled : Bool
  correction : Int
  camera : Option Cam
deriving DecidableEq, Repr

/-- A seam pair after power-on (R108). -/
def SeamPair.initial : SeamPair := ⟨none, none, false, 0, none⟩

/-! ## Clarity monitor -/

/-- A camera's clarity mode, with the partner of PAIRED (R115). -/
inductive ClarityMode where
  | fixed
  | paired (partner : Cam)
deriving DecidableEq, Repr

/-- The clarity states (R115). -/
inductive ClarityState where
  | clear | obscured
deriving DecidableEq, Repr

/-- One camera's share of the clarity monitor (R115). -/
structure Clarity where
  mode : ClarityMode
  level : Nat
  state : ClarityState
  low : Nat
  clear : Nat
deriving DecidableEq, Repr

/-- One camera's clarity state after power-on (R115). -/
def Clarity.initial : Clarity := ⟨.fixed, Config.clrLevelDefault, .clear, 0, 0⟩

/-! ## Zone watch -/

/-- The zone states (R122). -/
inductive ZoneState where
  | idle | counting | active
deriving DecidableEq, Repr

/-- A zone (R122); `means` is empty and `exposure` absent until the zone has stored a result's. -/
structure Zone where
  state : ZoneState
  count : Nat
  hold : Option Nat
  means : List Nat
  exposure : Option Nat
  valid : Bool
deriving DecidableEq, Repr

/-- A zone in its initial state (R122). -/
def Zone.initial : Zone := ⟨.idle, 0, none, [], none, false⟩

/-- What the zone watch latches of a zone (R129). -/
structure LatchedZone where
  window : WindowId
  camera : Cam
  state : ZoneState
  armed : Bool
deriving DecidableEq, Repr

/-- The zone watch (R122, R128, R129). -/
structure ZoneWatch where
  zones : Vector (Option Zone) 16
  hazard : Bool
  hazardList : List WindowId
  latchedHazard : Bool
  latchedZones : List LatchedZone
deriving DecidableEq, Repr

/-- The zone watch after power-on (R122). -/
def ZoneWatch.initial : ZoneWatch := ⟨Vector.replicate 16 none, false, [], false, []⟩

/-! ## Situation selector -/

/-- The gears of a vehicle state record (8.2). -/
inductive Gear where
  | forward | neutral | reverse | park
deriving DecidableEq, Repr

/-- The kerb indicator (8.2). -/
inductive Kerb where
  | off | on
deriving DecidableEq, Repr

/-- The lift (8.2). -/
inductive Lift where
  | idle | active
deriving DecidableEq, Repr

/-- The step (8.2). -/
inductive Footstep where
  | empty | occupied
deriving DecidableEq, Repr

/-- The situations, codes 0 to 7 in this order (R137). -/
inductive Situation where
  | noData | reverse | lift | stepRide | kerbTurn | parked | creep | cruise
deriving DecidableEq, Repr

/-- The vehicle fields; `none` is unknown (R131). -/
structure Vehicle where
  speed : Option Nat
  gear : Option Gear
  kerb : Option Kerb
  lift : Option Lift
  step : Option Footstep
deriving DecidableEq, Repr

/-- Every vehicle field unknown. -/
def Vehicle.unknown : Vehicle := ⟨none, none, none, none, none⟩

/-- A force: view, ceiling, force timer (R131, R141). -/
structure Force where
  view : ViewId
  ceiling : Fin 8
  timer : Option Nat
deriving DecidableEq, Repr

/-- What the selector latches (R145). -/
structure SelectorLatch where
  situation : Situation
  shown : ViewId
  gear : Option Gear
  kerb : Option Kerb
  moving : Bool
deriving DecidableEq, Repr

/-- The situation selector (R131); `fresh` is the vehicle data flag, `dwell` the view dwell timer, `none` when expired. -/
structure Selector where
  vehicle : Vehicle
  fresh : Bool
  timeout : Option Nat
  creep : Bool
  turnDwell : Option Nat
  situation : Situation
  force : Option Force
  forceChange : Bool
  shown : ViewId
  dwell : Option Nat
  latch : SelectorLatch
deriving DecidableEq, Repr

/-- The selector after power-on (R131). -/
def Selector.initial : Selector where
  vehicle := .unknown
  fresh := false
  timeout := none
  creep := false
  turnDwell := none
  situation := .noData
  force := none
  forceChange := false
  shown := 0
  dwell := none
  latch := ⟨.noData, 0, none, none, true⟩

/-! ## Overlay unit -/

/-- A shape's form: width belongs to POLYLINE, glyph to ICON (9.1). -/
inductive ShapeForm where
  | polyline (width : Nat)
  | polygon
  | icon (glyph : Fin 32)
deriving DecidableEq, Repr

/-- A shape record (9.1). -/
structure Shape where
  form : ShapeForm
  points : List Point
  colour : Pixel
  alpha : Nat
  conditions : List Condition
  blink : Bool
deriving DecidableEq, Repr

/-- The overlay unit (R146). -/
structure ShapeStore where
  shapes : Vector (Option Shape) 64
  free : Nat
  latched : Vector (Option Shape) 64
deriving DecidableEq, Repr

/-- The overlay unit after power-on (R146). -/
def ShapeStore.initial : ShapeStore := ⟨Vector.replicate 64 none, 512, Vector.replicate 64 none⟩

/-! ## Cadence generator -/

/-- The channel states (R153). -/
inductive ChannelState where
  | idle | on | off | done
deriving DecidableEq, Repr

/-- A cadence channel (R153). `toneInUse` is the tone of the present on-phase (R154, R158). The tones and the silence
flag belong to BUZZ; BLINK leaves them as they are. -/
structure Channel where
  onTime : Nat
  offTime : Nat
  burst : Nat
  mask : TriggerMask
  tone : Nat
  state : ChannelState
  timer : Option Nat
  cycles : Nat
  trigger : Bool
  silenced : Bool
  toneInUse : Nat
deriving DecidableEq, Repr

/-- The cadence generator (R153). -/
structure Cadence where
  blink : Channel
  buzz : Channel
  latchedPhase : Bool
deriving DecidableEq, Repr

/-- The cadence generator after power-on (R153). -/
def Cadence.initial : Cadence where
  blink := ⟨300, 300, 0, ⟨true, false, false, false⟩, 0, .idle, none, 0, false, false, 0⟩
  buzz := ⟨200, 300, 3, ⟨true, false, false, false⟩, 1, .idle, none, 0, false, false, 0⟩
  latchedPhase := false

/-! ## Control link -/

/-- The operating modes (R176). -/
inductive OpMode where
  | config | run | standby
deriving DecidableEq, Repr

/-- The line rates in bit/s (R161). -/
inductive LineRate where
  | r115200 | r460800 | r921600 | r1843200
deriving DecidableEq, Repr

/-- The receiver phases (R160). -/
inductive RxPhase where
  | hunt | length | kind | tag | body | check
deriving DecidableEq, Repr

/-- The receiver: its phase, the frame in progress and the byte gap timer (R160, R163). `checkHigh` is the first check
byte, once received. `damaged` tells that a byte of the frame in progress lacked its stop bit (R161). -/
structure Receiver where
  phase : RxPhase
  len : Nat
  kind : Byte
  tag : Byte
  body : List Byte
  checkHigh : Option Byte
  gap : Option Nat
  damaged : Bool
deriving DecidableEq, Repr

/-- The receiver in HUNT with no frame in progress. -/
def Receiver.initial : Receiver := ⟨.hunt, 0, 0, 0, [], none, none, false⟩

/-- The status words (R166). -/
inductive Status where
  | ok | okClamped | badKind | badLength | badValue | badState | notFound | noRoom | overlap | gridFit | full
deriving DecidableEq, Repr

/-- The causes of a FORCE ENDED report (R142). -/
inductive ForceCause where
  | released | timeout | override | replaced
deriving DecidableEq, Repr

/-- The reports and their bodies (R168). -/
inductive Report where
  | health (c : Cam) (old new : Health) (staleOrEmpty : Nat)
  | link (c : Cam) (state : LinkState) (cause : LinkCause)
  | view (shown : ViewId) (situation : Situation) (forced : Bool)
  | hazard (flag : Bool) (zones : List (WindowId × Cam))
  | tablesLive
  | display (present : Bool) (counter : BitVec 16)
  | forceEnded (view : ViewId) (ceiling : Fin 8) (cause : ForceCause) (situation : Situation)
deriving DecidableEq, Repr

/-- The statistics events (R174); `none` of the table is event NONE. -/
inductive StatEvent where
  | none | segmentError | frameGap | frameTruncated | linkLost | retrain | paneAlt | controlDiscard | reportLost
deriving DecidableEq, Repr

/-- A statistics counter (R174). -/
structure Counter where
  event : StatEvent
  mask : BitVec 4
  count : Nat
deriving DecidableEq, Repr

/-- The share of a cadence channel in STATUS (R153). -/
structure ChannelShare where
  state : ChannelState
  cycles : Nat
  trigger : Bool
deriving DecidableEq, Repr

/-- What STATUS returns (R172), with the requested view, which R140 says is read for STATUS (log 22). -/
structure StatusShare where
  mode : OpMode
  links : Vector LinkState 4
  health : Vector Health 4
  situation : Situation
  shown : ViewId
  requested : ViewId
  forced : Bool
  hazard : Bool
  blink : ChannelShare
  buzz : ChannelShare
  silenced : Bool
  display : Bool
  counter : BitVec 16
  lost : Nat
deriving DecidableEq, Repr

/-- What READ CAMERA returns (R3, R33, R113, R121, R173). -/
structure CameraShare where
  link : LinkState
  mode : Option CamMode
  exposure : Nat
  typeCode : Option Byte
  maxExposure : Option Nat
  health : Health
  numEmpty : Nat
  numFresh : Nat
  numHeld : Nat
  numStale : Nat
  staleOrEmpty : Nat
  table : List SegEntry
  gain : Nat
  black : Nat
  target : Nat
  effective : Nat
  high : Nat
  low : Nat
  settle : Nat
  corrections : List (Fin 4 × Int)
  clarityMode : ClarityMode
  level : Nat
  clarity : ClarityState
  lowCount : Nat
  clearCount : Nat
deriving DecidableEq, Repr

/-- The zone watch's share of READ METER (R130). -/
structure ZoneShare where
  state : ZoneState
  armed : Bool
  count : Nat
  hold : Option Nat
  valid : Bool
  exposure : Option Nat
deriving DecidableEq, Repr

/-- What READ METER returns (R98, R130). -/
structure MeterShare where
  active : Option WindowDef
  change : PendingChange
  measuring : Bool
  result : Option MeterResult
  zone : Option ZoneShare
deriving DecidableEq, Repr

/-- What READ TABLE returns (R67). -/
inductive TableShare where
  | view (v : View)
  | map (m : Vector ViewId 8)
  | list (l : List (Fin 64))
deriving DecidableEq, Repr

/-- The grid states as a reply names them (R42, R49). -/
inductive GridState where
  | empty | loading | ready
deriving DecidableEq, Repr

/-- The data a reply carries after its status (R166, R169). -/
inductive ReplyData where
  | none
  | identity (vendor part revision : Nat)
  | status (s : StatusShare)
  | link (p : LinkParams)
  | store (p : StoreParams)
  | tone (camera : Cam) (target black : Nat)
  | toneLimits (p : ToneLimits)
  | clarity (camera : Cam) (mode : ClarityMode) (level : Nat)
  | clarityLimits (p : ClarityLimits)
  | zone (p : ZoneParams)
  | situation (p : SituationParams)
  | cadence (ch : ChannelId) (onTime offTime burst : Nat) (mask : TriggerMask) (tone : Nat)
  | seam (p : SeamPair) (inForce : Bool)
  | grid (state : GridState) (written free : Nat)
  | shape (points free : Nat)
  | freePoints (free : Nat)
  | vehicle (situation : Situation) (requested : ViewId)
  | buzz (state : ChannelState)
  | camera (s : CameraShare)
  | meter (s : MeterShare)
  | table (item : Option TableShare) (applyPending : Bool)
  | counters (cs : Vector Counter 4)
  | mode (m : OpMode)
deriving DecidableEq, Repr

/-- A reply (R166). -/
structure Reply where
  kind : Byte
  tag : Byte
  status : Status
  data : ReplyData
deriving DecidableEq, Repr

/-- A frame the transmitter sends (R167). -/
inductive TxFrame where
  | reply (r : Reply)
  | report (r : Report)
deriving DecidableEq, Repr

/-- The control link (R160). A waiting request is the command that takes it. -/
structure Control where
  rate : LineRate
  rx : Receiver
  requests : List Instr
  replies : List Reply
  sending : Option TxFrame
  reports : List Report
  lost : Nat
  counters : Vector Counter 4
deriving DecidableEq, Repr

/-- The control link after power-on (R160). -/
def Control.initial (rate : LineRate) : Control where
  rate := rate
  rx := .initial
  requests := []
  replies := []
  sending := none
  reports := []
  lost := 0
  counters := Vector.replicate 4 ⟨.none, 0, 0⟩

/-! ## Output generator, parameters, pins -/

/-- What governs the output frame in progress: what the output generator latches (R73), and the zone watch's latch of the same
output frame start (R129), which a later RESTART does not change within the frame (R72, R83). -/
structure FrameLatch where
  mode : OpMode
  shown : ViewId
  situation : Situation
  hazard : Bool
  zones : List LatchedZone
deriving DecidableEq, Repr

/-- The output generator (R72, R73, R84): frame counter, display presence, the input's level, sense timer, latch. -/
structure Display where
  counter : BitVec 16
  present : Bool
  level : Bool
  senseTimer : Option Nat
  latch : FrameLatch
deriving DecidableEq, Repr

/-- The output generator after power-on (R72, R84); nothing is latched before the first output frame start, and the
latch then holds what the selector's and the zone watch's hold (DESIGN CHOICE, log 4). -/
def Display.initial (level : Bool) : Display := ⟨0, level, level, none, ⟨.config, 0, .noData, false, []⟩⟩

/-- The parameters that are not one camera's or one channel's (R170). -/
structure Params where
  link : LinkParams
  store : StoreParams
  toneLimits : ToneLimits
  clarityLimits : ClarityLimits
  zone : ZoneParams
  situation : SituationParams
deriving DecidableEq, Repr

/-- Every parameter at its default (R170). -/
def Params.initial : Params :=
  ⟨Config.linkDefaults, Config.storeDefaults, Config.toneLimitDefaults, Config.clarityLimitDefaults,
    Config.zoneDefaults, Config.situationDefaults⟩

/-- The output pins (11.6): the camera power switches, and the tone on BUZZ, `none` while the line is low (R4, R158). -/
structure Pins where
  power : Vector Bool 4
  buzz : Option Nat
deriving DecidableEq, Repr

/-- The state of the part. `held` tells whether RESET is held low (R179). `epoch` counts power-ons and `choices` the
orders drawn; both belong to the model alone and feed the free values of Config. `pending` is the queue of commands that
wait to be taken, first in, first out. -/
structure State where
  held : Bool
  mode : OpMode
  params : Params
  ports : Vector Port 4
  stores : Vector CamStore 4
  grids : GridStore
  views : ViewTable
  windows : Vector Window 16
  tones : Vector Tone 4
  seams : Vector SeamPair 4
  clarities : Vector Clarity 4
  zones : ZoneWatch
  selector : Selector
  shapes : ShapeStore
  cadence : Cadence
  control : Control
  display : Display
  pins : Pins
  epoch : Nat
  choices : Nat
  pending : List Instr
deriving DecidableEq, Repr

/-- The line rate the straps set (R161). -/
def strapRate (strap1 strap0 : Bool) : LineRate :=
  match strap1, strap0 with
  | false, false => .r115200
  | false, true => .r460800
  | true, false => .r921600
  | true, true => .r1843200

/-- Every block at its after-power-on value, for the levels found at the inputs (R179). -/
def State.atPowerOn (levels : PowerInputs) (epoch choices : Nat) (pending : List Instr) : State where
  held := false
  mode := .config
  params := .initial
  ports := mapTable Port.initial levels.carrier
  stores := Vector.replicate 4 .initial
  grids := .initial
  views := .initial
  windows := Vector.replicate 16 .initial
  tones := Vector.replicate 4 .initial
  seams := Vector.replicate 4 .initial
  clarities := Vector.replicate 4 .initial
  zones := .initial
  selector := .initial
  shapes := .initial
  cadence := .initial
  control := .initial (strapRate levels.strap1 levels.strap0)
  display := .initial levels.display
  pins := ⟨Vector.replicate 4 false, none⟩
  epoch := epoch
  choices := choices
  pending := pending

/-- The part right after power-on (R179), with the levels the manual leaves to the board: both straps low, no carrier,
no display (DESIGN CHOICE, log 3). -/
def State.reset : State := State.atPowerOn ⟨false, false, Vector.replicate 4 false, false⟩ 0 0 []

end Sys2Proof.Machine
end

