-- ==== Sys2Proof/Machine/Operands.lean ====
section
/-! DEFINITION. Operand forms: the mode table, the codes of records and requests, clamping to the ranges of R170, the
check of the links, and the range checks that several requests share. -/

namespace Sys2Proof.Machine

/-! ## Camera modes (R1, R2) -/

/-- Picture width W (R1). -/
def modeWidth : CamMode → Nat
  | .m1 | .m2 => 1280
  | .m3 => 1024
  | .m4 => 800
  | .m5 | .m6 => 640

/-- Picture height H (R1). -/
def modeHeight : CamMode → Nat
  | .m1 | .m2 => 800
  | .m3 => 640
  | .m4 => 512
  | .m5 | .m6 => 400

/-- Segment count S = H / 16 (R1). -/
def modeSegments (m : CamMode) : Nat := modeHeight m / 16

/-- The code of a camera mode (R1). -/
def camModeCode : CamMode → Nat
  | .m1 => 1
  | .m2 => 2
  | .m3 => 3
  | .m4 => 4
  | .m5 => 5
  | .m6 => 6

/-- The mode of a code; only 1 to 6 are valid (R2). -/
def modeOfCode? : Nat → Option CamMode
  | 1 => some .m1
  | 2 => some .m2
  | 3 => some .m3
  | 4 => some .m4
  | 5 => some .m5
  | 6 => some .m6
  | _ => none

/-- The announce list of a record's codes: invalid codes and later repeats left out (R10). -/
def announcedModes (codes : List Nat) : List CamMode := (codes.filterMap modeOfCode?).reverse.dedup.reverse

/-- The preference list a request carries, where every code is valid and none appears twice or is missing (R9). -/
def preferenceOf? (codes : List Nat) : Option (List CamMode) :=
  match codes.mapM modeOfCode? with
  | some ms => if ms ≠ [] ∧ ms.Nodup then some ms else none
  | none => none

/-- The common list: the preference list filtered to the announced modes (R10). -/
def commonList (preference announced : List CamMode) : List CamMode := preference.filter (· ∈ announced)

/-- The next lower mode after a mode in the common list (R10). -/
def nextLower? (m : CamMode) : List CamMode → Option CamMode
  | [] => none
  | x :: rest => if x = m then rest.head? else nextLower? m rest

/-! ## Clamping (00_scope, Arithmetic; R170) -/

/-- `x` clamped to `lo`–`hi`. -/
def clampTo (lo hi x : Nat) : Nat := min hi (max lo x)

/-- Group 0 in range (R170). -/
def clampLink (p : LinkParams) : LinkParams :=
  ⟨clampTo 50 1000 p.announceWaitMs, clampTo 50 500 p.trainWaitMs, clampTo 0 4 p.trainTolerance,
    clampTo 1 25 p.retrainThreshold, clampTo 1 30 p.retrainFrames⟩

/-- Group 1 in range (R170). -/
def clampStore (p : StoreParams) : StoreParams :=
  ⟨clampTo 1 8 p.holdLimit, clampTo 1 50 p.degradeLimit, clampTo 2 15 p.freezeLimit⟩

/-- TONE_TARGET in range (R101). -/
def clampTarget (t : Nat) : Nat := clampTo 32 224 t

/-- BLACK_OFFSET in range and even: above 14 becomes 14, an odd value the even one below it (R101). -/
def clampBlack (b : Nat) : Nat := min 14 b / 2 * 2

/-- Group 3 in range (R170). -/
def clampToneLimits (p : ToneLimits) : ToneLimits := ⟨clampTo 2 30 p.satFrames, clampTo 1 15 p.exposureSettle⟩

/-- CLR_LEVEL in range (R116). -/
def clampLevel (l : Nat) : Nat := clampTo 1 15 l

/-- Group 5 in range (R170). -/
def clampClarityLimits (p : ClarityLimits) : ClarityLimits :=
  ⟨clampTo 1 8 p.clrStep, clampTo 0 127 p.validLo, clampTo 128 255 p.validHi, clampTo 10 255 p.obscureFrames,
    clampTo 5 255 p.clearFrames⟩

/-- Group 6 in range (R170). -/
def clampZone (p : ZoneParams) : ZoneParams :=
  ⟨clampTo 1 8 p.actStep, clampTo 1 8 p.actFrames, clampTo 100 5000 p.actHold⟩

/-- Group 7 in range, with CREEP_LEAVE above CREEP_ENTER (R139, R170). -/
def clampSituation (p : SituationParams) : SituationParams :=
  let enter := clampTo 0 30 p.creepEnter
  let leave := clampTo 1 40 p.creepLeave
  ⟨clampTo 100 2000 p.vehTimeout, clampTo 0 10000 p.turnDwell, clampTo 0 5000 p.viewMinDwell, clampTo 0 15 p.liftSpeed,
    clampTo 0 60 p.turnSpeed, enter, if leave ≤ enter then enter + 1 else leave⟩

/-- A cadence time in range: a multiple of 10 in 10 to 2550 (R154). -/
def clampCadenceTime (t : Nat) : Nat := clampTo 10 2550 (t / 10 * 10)

/-- OK, or OK_CLAMPED where a value was changed (R170). -/
def statusOf (changed : Bool) : Status := if changed then .okClamped else .ok

/-! ## The check of the links (R5, R162) -/

/-- One bit through the check: polynomial x^16 + x^12 + x^5 + 1. -/
def checkBit (crc : BitVec 16) (b : Bool) : BitVec 16 :=
  if crc.msb ^^ b then (crc <<< 1) ^^^ 0x1021 else crc <<< 1

/-- One byte through the check, most significant bit first. -/
def checkByte (crc : BitVec 16) (b : Byte) : BitVec 16 :=
  [7, 6, 5, 4, 3, 2, 1, 0].foldl (fun c i => checkBit c (b.getLsbD i)) crc

/-- The check over bytes: initial value 0xFFFF, no final inversion. -/
def linkCheck (bytes : List Byte) : BitVec 16 := bytes.foldl checkByte 0xFFFF

/-! ## Numbers as bytes (R162) -/

/-- A number of one byte. -/
def oneByte (n : Nat) : Byte := BitVec.ofNat 8 n

/-- A number of `n` bytes, high byte first (R162). -/
def highFirst : Nat → Nat → List Byte
  | 0, _ => []
  | n + 1, x => oneByte (x / 256 ^ n) :: highFirst n x

/-- The number that bytes hold, high byte first (R162). -/
def ofHighFirst (bytes : List Byte) : Nat := bytes.foldl (fun x b => 256 * x + b.toNat) 0

/-- A pixel's or a colour's bytes, Y, Cb, Cr. -/
def colourBytes (p : Pixel) : List Byte := [p.y, p.cb, p.cr]

/-! ## The vehicle state record (R132, R169) -/

/-- Gear codes (R169). -/
def gearOf? (b : Byte) : Option Gear :=
  match b.toNat with
  | 0 => some .forward
  | 1 => some .neutral
  | 2 => some .reverse
  | 3 => some .park
  | _ => none

/-- Kerb indicator codes (R169). -/
def kerbOf? (b : Byte) : Option Kerb :=
  match b.toNat with
  | 0 => some .off
  | 1 => some .on
  | _ => none

/-- Lift codes (R169). -/
def liftOf? (b : Byte) : Option Lift :=
  match b.toNat with
  | 0 => some .idle
  | 1 => some .active
  | _ => none

/-- Step codes (R169). -/
def stepOf? (b : Byte) : Option Footstep :=
  match b.toNat with
  | 0 => some .empty
  | 1 => some .occupied
  | _ => none

/-- What the bytes of a vehicle state record are: a field absent from the record is `none` in `r`. -/
inductive VehicleReading where
  | badLength
  | badValue
  | taken (r : Vehicle) (clamped : Bool)
deriving DecidableEq, Repr

/-- The byte of a field, where its presence bit is set, and the bytes that follow. -/
def takeField (present : Bool) (bytes : List Byte) : Option Byte × List Byte :=
  if present then (bytes.head?, bytes.tail) else (none, bytes)

/-- A field that may be absent, decoded; `none` outside for a code that is not one of the field's values. -/
def decodeField {α β : Type} (decode : α → Option β) : Option α → Option (Option β)
  | none => some none
  | some b => (decode b).map some

/-- How many of the presence bits 0 to 4 are set (R169). -/
def fieldCount (presence : Byte) : Nat := [0, 1, 2, 3, 4].countP fun i => presence.getLsbD i

/-- The vehicle state record: a presence byte, then one byte for each present field in the order speed, gear, kerb
indicator, lift, step (R169). A presence bit above bit 4 gives BAD_VALUE before the length is looked at (log 12). -/
def readVehicle : List Byte → VehicleReading
  | [] => .badLength
  | presence :: rest =>
    if 32 ≤ presence.toNat then .badValue
    else if rest.length ≠ fieldCount presence then .badLength
    else
      let (speed, r1) := takeField (presence.getLsbD 0) rest
      let (gear, r2) := takeField (presence.getLsbD 1) r1
      let (kerb, r3) := takeField (presence.getLsbD 2) r2
      let (lift, r4) := takeField (presence.getLsbD 3) r3
      let (step, _) := takeField (presence.getLsbD 4) r4
      match decodeField gearOf? gear, decodeField kerbOf? kerb, decodeField liftOf? lift, decodeField stepOf? step with
      | some g, some k, some l, some st =>
        .taken ⟨speed.map fun b => min b.toNat 250, g, k, l, st⟩ (speed.any fun b => 250 < b.toNat)
      | _, _, _, _ => .badValue

/-! ## Range checks of requests -/

/-- The statistics event of a code 0 to 8 (R174). -/
def eventOf? : Nat → Option StatEvent
  | 0 => some .none
  | 1 => some .segmentError
  | 2 => some .frameGap
  | 3 => some .frameTruncated
  | 4 => some .linkLost
  | 5 => some .retrain
  | 6 => some .paneAlt
  | 7 => some .controlDiscard
  | 8 => some .reportLost
  | _ => none

/-- The geometry ranges of the pane record table (4.1). -/
def geometryInRange (g : Geometry) : Bool :=
  g.x ≤ 960 && g.y ≤ 536 && g.w % 8 = 0 && g.h % 8 = 0 && 64 ≤ g.w && g.w ≤ 1024 && 64 ≤ g.h && g.h ≤ 600
    && g.x + g.w ≤ 1024 && g.y + g.h ≤ 600

/-- Two rectangles share at least one output pixel (R62, check 5). -/
def overlaps (a b : Geometry) : Bool :=
  a.x < b.x + b.w && b.x < a.x + a.w && a.y < b.y + b.h && b.y < a.y + a.h

/-- A camera and a grid in range (R62, check 1). -/
def sourceOf? (f : SourceFields) : Option PaneSource :=
  match index? 4 f.camera, index? 16 f.grid with
  | some c, some g => some ⟨c, g⟩
  | _, _ => none

/-- The definition WINDOW SET carries, where every field is in range (R86, check 1). The length of the body has been
checked against the role before. -/
def windowDefOf? (f : WindowFields) : Option WindowDef :=
  let role : Option Role := match f.role, f.watch with
    | some .tone, _ => some .tone
    | some .clarity, _ => some .clarity
    | some .seam, _ => some .seam
    | some .watch, some (l, m) => if 1 ≤ l ∧ l ≤ 15 then some (.watch l m) else none
    | _, _ => none
  match index? 4 f.camera, role with
  | some c, some r =>
    if f.left ≤ 256 ∧ f.top ≤ 256 ∧ f.right ≤ 256 ∧ f.bottom ≤ 256 ∧ f.left < f.right ∧ f.top < f.bottom
        ∧ 1 ≤ f.step ∧ f.step ≤ 4 then
      some ⟨c, f.left, f.top, f.right, f.bottom, f.step, r⟩
    else none
  | _, _ => none

/-- WINDOW SET's body has the length of its role: level and arming mask with WATCH only (R86). An undefined role fixes
no length (R165). -/
def windowLengthOk (f : WindowFields) : Bool :=
  match f.role with
  | some .watch => f.watch.isSome
  | some _ => f.watch.isNone
  | none => true

/-- SHAPE SET's body has the length of its kind and point count (R147). An undefined kind fixes no length (R165). -/
def shapeLengthOk (f : ShapeFields) : Bool :=
  match f.kind with
  | some .polyline => f.points.length = f.count && f.width.isSome && f.glyph.isNone
  | some .polygon => f.points.length = f.count && f.width.isNone && f.glyph.isNone
  | some .icon => f.points.length = f.count && f.width.isNone && f.glyph.isSome
  | none => true

/-- A shape's form, with its point count in the kind's range (R147, check 1). -/
def shapeFormOf? (f : ShapeFields) : Option ShapeForm :=
  match f.kind, f.width, f.glyph with
  | some .polyline, some w, _ => if 2 ≤ f.count ∧ f.count ≤ 16 ∧ 1 ≤ w ∧ w ≤ 8 then some (.polyline w) else none
  | some .polygon, _, _ => if 3 ≤ f.count ∧ f.count ≤ 16 then some .polygon else none
  | some .icon, _, some g => if f.count = 1 then (index? 32 g).map .icon else none
  | _, _, _ => none

/-- The record SHAPE SET carries, where every field is in range (R147, check 1). -/
def shapeOf? (f : ShapeFields) : Option Shape :=
  match shapeFormOf? f, f.conditions.mapM id with
  | some form, some conditions =>
    if f.points.all (fun p => p.x ≤ 1023 && p.y ≤ 599) ∧ f.alpha ≤ 16 ∧ conditions.Nodup then
      some ⟨form, f.points, f.colour, f.alpha, conditions, f.blink⟩
    else none
  | _, _ => none

end Sys2Proof.Machine
end

