-- ==== Sys2Proof/Machine/Flags.lean ====
section
/-! DEFINITION. Every condition, flag and rank the manual derives from other state: health, arming, hazard, triggers,
creep and moving, the situation ranking, references to grids and shapes, window limits, seam pairs in force. -/

namespace Sys2Proof.Machine

/-- The four cameras in order. -/
def allCams : List Cam := [0, 1, 2, 3]

/-- The sixteen window ids in order. -/
def allWindows : List WindowId := List.finRange 16

/-! ## Segment table and health -/

/-- An entry drawing may use: FRESH or HELD (R55). -/
def SegState.usable : SegState → Bool
  | .fresh | .held => true
  | .empty | .stale => false

/-- The stale-or-empty count of a segment table (R33). -/
def staleOrEmpty (table : List SegEntry) : Nat := table.countP fun e => !e.state.usable

/-- The health of a camera from its inputs, the first value whose condition holds (R36). -/
def deriveHealth (link : LinkState) (freeze bad : Nat) (clarity : ClarityState) (p : StoreParams) : Health :=
  if link = .off then .off
  else if link ≠ .streaming then .absent
  else if p.freezeLimit ≤ freeze then .frozen
  else if p.degradeLimit < bad then .degraded
  else if clarity = .obscured then .obscured
  else .good

/-- The rank of a health value (R36). -/
def healthRank : Health → Nat
  | .off | .absent | .frozen => 0
  | .degraded => 1
  | .obscured => 2
  | .good => 3

/-! ## Situations -/

/-- The code of a situation (R137). -/
def situationCode : Situation → Fin 8
  | .noData => 0
  | .reverse => 1
  | .lift => 2
  | .stepRide => 3
  | .kerbTurn => 4
  | .parked => 5
  | .creep => 6
  | .cruise => 7

/-- MOVING: the speed is above 0, or unknown (8.1). -/
def isMoving (v : Vehicle) : Bool :=
  match v.speed with
  | some k => 0 < k
  | none => true

/-- The creep flag as judged on the present speed (R135). -/
def judgeCreep (p : SituationParams) (speed : Option Nat) (creep : Bool) : Bool :=
  match speed with
  | none => creep
  | some k => if k ≤ p.creepEnter then true else if p.creepLeave ≤ k then false else creep

/-- The first situation whose condition holds (R137). -/
def rankSituation (p : SituationParams) (sel : Selector) : Situation :=
  let v := sel.vehicle
  if !sel.fresh then .noData
  else if v.gear = some .reverse then .reverse
  else if v.lift = some .active ∧ v.speed.any (fun k => k ≤ p.liftSpeed) then .lift
  else if v.step = some .occupied ∧ isMoving v then .stepRide
  else if (v.kerb = some .on ∨ sel.turnDwell.isSome) ∧ v.speed.all (fun k => k ≤ p.turnSpeed) then .kerbTurn
  else if v.gear = some .park then .parked
  else if sel.creep then .creep
  else .cruise

/-- A situation outranks a ceiling: its code lies in 1 to the ceiling (R141, R142). -/
def outranks (sit : Situation) (ceiling : Fin 8) : Bool :=
  1 ≤ (situationCode sit).val && (situationCode sit).val ≤ ceiling.val

/-! ## Metering windows -/

/-- The window's active definition names the camera. -/
def Window.serves (w : Window) (c : Cam) : Bool := w.active.any fun d => d.camera = c

/-- A definition is a CLARITY definition of the camera (R87). -/
def WindowDef.clarityOf (d : WindowDef) (c : Cam) : Bool := d.role = .clarity && d.camera = c

/-- A definition's role is WATCH (R87). -/
def WindowDef.isWatch (d : WindowDef) : Bool :=
  match d.role with
  | .watch _ _ => true
  | _ => false

/-- One of a window's two definitions, the active one and the one of a pending SET, meets a condition (R87). -/
def Window.counts (w : Window) (meets : WindowDef → Bool) : Bool :=
  w.active.any meets || match w.change with
    | .set d => meets d
    | _ => false

/-- How many windows count under a condition (R87). -/
def countWindows (ws : Vector Window 16) (meets : WindowDef → Bool) : Nat :=
  allWindows.countP fun i => (look ws i).counts meets

/-- The limits of R87 hold: one CLARITY window a camera, eight WATCH windows in all. -/
def windowLimits (ws : Vector Window 16) : Bool :=
  allCams.all (fun c => countWindows ws (·.clarityOf c) ≤ 1) && countWindows ws (·.isWatch) ≤ 8

/-- The measures of a window's latest result, where that result is VALID (R96, R97). -/
def Window.valid? (w : Window) : Option Measures :=
  match w.result with
  | some ⟨_, _, _, .valid m, _⟩ => some m
  | _ => none

/-- The CLARITY window of a camera by the active definitions (R117). -/
def clarityWindow? (ws : Vector Window 16) (c : Cam) : Option Window :=
  (allWindows.find? fun i => (look ws i).active.any (·.clarityOf c)).map (look ws)

/-! ## Seam pairs -/

/-- The reference and the dependent camera of a pair that is in force (R108). -/
def seamInForce (ws : Vector Window 16) (p : SeamPair) : Option (Cam × Cam) :=
  match p.enabled, p.windowA, p.windowB with
  | true, some a, some b =>
    match (look ws a).active, (look ws b).active with
    | some da, some db =>
      if da.role = .seam ∧ db.role = .seam ∧ da.camera ≠ db.camera then some (da.camera, db.camera) else none
    | _, _ => none
  | _, _, _ => none

/-! ## Zones and the hazard flag -/

/-- The arming mask of a WATCH definition has the entry of the situation set (R123). -/
def isArmed (d : WindowDef) (sit : Situation) : Bool :=
  match d.role with
  | .watch _ mask => mask.getLsbD (situationCode sit).val
  | _ => false

/-- The window's zone is armed in the situation (R123). -/
def Window.armed (w : Window) (sit : Situation) : Bool := w.active.any fun d => isArmed d sit

/-- The window ids of the ACTIVE zones, in ascending order (R128). -/
def activeZones (zones : Vector (Option Zone) 16) : List WindowId :=
  allWindows.filter fun i => (look zones i).any fun z => z.state = .active

/-! ## Cadence triggers -/

/-- CAMERA_DOWN: an ENABLED port's camera is ABSENT or FROZEN (R155). -/
def cameraDown (ports : Vector Port 4) (stores : Vector CamStore 4) : Bool :=
  allCams.any fun c => (look ports c).enabled && ((look stores c).health = .absent || (look stores c).health = .frozen)

/-- OBSCURED: some camera's clarity state is OBSCURED (R155). -/
def anyObscured (clarities : Vector Clarity 4) : Bool :=
  allCams.any fun c => (look clarities c).state = .obscured

/-- The combined trigger of a mask on the present values (R155). -/
def combinedTrigger (s : State) (mask : TriggerMask) : Bool :=
  s.mode = .run
    && ((mask.hazard && s.zones.hazard) || (mask.cameraDown && cameraDown s.ports s.stores)
      || (mask.obscured && anyObscured s.clarities) || (mask.noData && s.selector.situation = .noData))

/-- Cycles remain (R156). -/
def Channel.cyclesRemain (ch : Channel) : Bool := ch.burst = 0 || ch.cycles < ch.burst

/-! ## View tables -/

/-- A view with no present pane (R68). -/
def View.isEmpty (v : View) : Bool := !anyEntry v.panes Option.isSome

/-- Some view named by an entry of the map has no present pane (R68, R176). -/
def Tables.mapsEmptyView (t : Tables) : Bool := anyEntry t.map fun v => (look t.views v).isEmpty

/-- A pane names a grid as primary or alternate (R44). -/
def Pane.namesGrid (p : Pane) (g : Fin 16) : Bool := p.primary.grid = g || p.alternate.any fun a => a.grid = g

/-- A copy of the tables names a grid (R44). -/
def Tables.namesGrid (t : Tables) (g : Fin 16) : Bool :=
  anyEntry t.views fun v => anyEntry v.panes fun p => p.any (·.namesGrid g)

/-- A grid is referenced (R44). -/
def gridReferenced (v : ViewTable) (g : Fin 16) : Bool := v.live.namesGrid g || v.edit.namesGrid g

/-- A copy's overlay lists name a shape (R148). -/
def Tables.namesShape (t : Tables) (k : Fin 64) : Bool := anyEntry t.lists fun l => l.contains k

/-- A shape is named by a list of either copy (R148). -/
def shapeReferenced (v : ViewTable) (k : Fin 64) : Bool := v.live.namesShape k || v.edit.namesShape k

/-- The requested view (R140). -/
def requestedView (sel : Selector) (live : Tables) : ViewId :=
  match sel.force with
  | some f => f.view
  | none => look live.map (situationCode sel.situation)

/-! ## Grids -/

/-- A grid's nodes of the pool (R43). -/
def Grid.size : Grid → Nat
  | .empty => 0
  | .loading cols rows _ => cols * rows
  | .ready cols rows _ => cols * rows

/-- A grid's state as replies name it (R49). -/
def Grid.state : Grid → GridState
  | .empty => .empty
  | .loading _ _ _ => .loading
  | .ready _ _ _ => .ready

/-- The nodes of a grid that carry a written mark, 0 when it is not LOADING (R49). -/
def Grid.written : Grid → Nat
  | .loading _ _ nodes => nodes.countP Option.isSome
  | _ => 0

/-- A grid is READY. -/
def Grid.isReady : Grid → Bool
  | .ready _ _ _ => true
  | _ => false

/-- A READY grid fits a pane's geometry (R50). -/
def Grid.fits (g : Grid) (geo : Geometry) : Bool :=
  match g with
  | .ready cols rows _ => geo.w % (cols - 1) = 0 && geo.h % (rows - 1) = 0
  | _ => false

/-! ## Control link -/

/-- The reply list holds no reply of the command processor: its replies are those of another status than FULL (R165). -/
def Control.processorFree (k : Control) : Bool := k.replies.all fun r => r.status = .full

end Sys2Proof.Machine
end

