-- ==== Sys2Proof/Machine/Ops.lean ====
section
/-! DEFINITION. The operations the commands share: one block's entry of the state, statistics events, reports, the cadence
triggers, health and hazard brought up to date, a request taken and answered, the output pins, the passing of time. -/

namespace Sys2Proof.Machine

/-! ## One camera's or one window's share of the state -/

/-- Port `c`. -/
def State.port (s : State) (c : Cam) : Port := look s.ports c

/-- Port `c` replaced. -/
def State.setPort (s : State) (c : Cam) (p : Port) : State := { s with ports := put s.ports c p }

/-- Camera `c`'s share of the segment store. -/
def State.store (s : State) (c : Cam) : CamStore := look s.stores c

/-- Camera `c`'s share of the segment store replaced. -/
def State.setStore (s : State) (c : Cam) (x : CamStore) : State := { s with stores := put s.stores c x }

/-- Camera `c`'s share of the tone controller. -/
def State.tone (s : State) (c : Cam) : Tone := look s.tones c

/-- Camera `c`'s share of the tone controller replaced. -/
def State.setTone (s : State) (c : Cam) (x : Tone) : State := { s with tones := put s.tones c x }

/-- Camera `c`'s share of the clarity monitor. -/
def State.clarity (s : State) (c : Cam) : Clarity := look s.clarities c

/-- Camera `c`'s share of the clarity monitor replaced. -/
def State.setClarity (s : State) (c : Cam) (x : Clarity) : State := { s with clarities := put s.clarities c x }

/-- Window `w`. -/
def State.window (s : State) (w : WindowId) : Window := look s.windows w

/-- The zone of window `w`, where it has one. -/
def State.zone (s : State) (w : WindowId) : Option Zone := look s.zones.zones w

/-- Every zone of camera `c`, by the active definitions, changed. -/
def State.mapZonesOf (s : State) (c : Cam) (f : Zone → Zone) : State :=
  let zones := Vector.ofFn fun w => if (s.window w).serves c then (s.zone w).map f else s.zone w
  { s with zones := { s.zones with zones := zones } }

/-! ## Statistics counters and reports -/

/-- Every counter that selects the event, and the camera where the event has one, rises by `n` and saturates (R174). -/
def Control.countEvents (k : Control) (e : StatEvent) (cam : Option Cam) (n : Nat) : Control :=
  { k with counters := mapTable (fun ctr =>
      if ctr.event = e ∧ cam.all (fun c => ctr.mask.getLsbD c.val) then
        { ctr with count := min (ctr.count + n) 4294967295 }
      else ctr) k.counters }

/-- A statistics event of camera `c` counted `n` times at once (R174). -/
def State.countTimes (s : State) (e : StatEvent) (c : Cam) (n : Nat) : State :=
  { s with control := s.control.countEvents e (some c) n }

/-- A statistics event of camera `c` counted once (R174). -/
def State.count (s : State) (e : StatEvent) (c : Cam) : State := s.countTimes e c 1

/-- With no frame being sent, the oldest reply starts, or otherwise the oldest report (R167). -/
def Control.startNext (k : Control) : Control :=
  match k.sending, k.replies, k.reports with
  | none, r :: rs, _ => { k with sending := some (.reply r), replies := rs }
  | none, [], r :: rs => { k with sending := some (.report r), reports := rs }
  | _, _, _ => k

/-- A report joins the report queue, and starts where the line is idle; one that finds eight waiting is dropped and
counted (R167, R168). -/
def Control.queueReport (k : Control) (r : Report) : Control :=
  if k.reports.length < 8 then { k with reports := k.reports ++ [r] }.startNext
  else { k with lost := min (k.lost + 1) 255 }.countEvents .reportLost none 1

/-- A block queues a report (R168). -/
def State.queueReport (s : State) (r : Report) : State := { s with control := s.control.queueReport r }

/-! ## Cadence channels (R156) -/

/-- A channel starts an on-phase (R154, R156). -/
def Channel.startOn (ch : Channel) (cycles : Nat) : Channel :=
  { ch with state := .on, timer := some ch.onTime, cycles := cycles, toneInUse := ch.tone }

/-- A channel goes to IDLE with cycle count 0 (R156, R157). -/
def Channel.toIdle (ch : Channel) : Channel :=
  { ch with state := .idle, timer := none, cycles := 0, silenced := false }

/-- The combined trigger of a channel takes a value; a change is the event trigger becomes true or becomes false
(R155, R156). -/
def Channel.retrigger (ch : Channel) (t : Bool) : Channel :=
  if ch.trigger = t then ch
  else
    match t, ch.state with
    | true, .idle => { ch with trigger := t }.startOn 1
    | false, .off | false, .done => { ch with trigger := t }.toIdle
    | _, _ => { ch with trigger := t }

/-- Both channels re-form their combined triggers on the present values (R155). -/
def State.reform (s : State) : State :=
  { s with cadence := { s.cadence with
      blink := s.cadence.blink.retrigger (combinedTrigger s s.cadence.blink.mask)
      buzz := s.cadence.buzz.retrigger (combinedTrigger s s.cadence.buzz.mask) } }

/-- The part leaves RUN: a channel enters IDLE at once, with no event (R159). -/
def Channel.leaveRun (ch : Channel) : Channel := { ch.toIdle with trigger := false }

/-! ## Health and hazard -/

/-- Camera `c`'s health by its present inputs (R36). -/
def State.healthOf (s : State) (c : Cam) : Health :=
  deriveHealth (s.port c).link (s.store c).freeze (staleOrEmpty (s.store c).table) (s.clarity c).state s.params.store

/-- Camera `c`'s health is re-derived; a change queues a HEALTH report and is an input of the triggers (R37, R155). -/
def State.rederive (s : State) (c : Cam) : State :=
  let old := (s.store c).health
  let new := s.healthOf c
  if new = old then s
  else ((s.setStore c { s.store c with health := new }).queueReport
    (.health c old new (staleOrEmpty (s.store c).table))).reform

/-- The camera of a window's active definition, for the entries of a HAZARD report (R128). -/
def State.zoneCamera (s : State) (w : WindowId) : Cam := ((s.window w).active.map (·.camera)).getD 0

/-- The hazard zone list is formed anew; a change sets the hazard flag, queues one HAZARD report and is an input of the
triggers (R128, R155). -/
def State.refreshHazard (s : State) : State :=
  let new := activeZones s.zones.zones
  if new = s.zones.hazardList then s
  else
    let s1 := { s with zones := { s.zones with hazardList := new, hazard := !new.isEmpty } }
    (s1.queueReport (.hazard (!new.isEmpty) (new.map fun w => (w, s.zoneCamera w)))).reform

/-! ## Requests (R164 to R167) -/

/-- A reply's KIND: the request's KIND with the top bit set, which for the request kinds is KIND plus 0x80 (R166). -/
def replyKind (kind : Byte) : Byte := kind ||| 0x80

/-- What a request's effect leaves: the status and data of the reply, and the state (R165). -/
structure Answer where
  status : Status
  data : ReplyData
  state : State
deriving DecidableEq, Repr

/-- The request is refused and changes nothing. -/
def refuse (st : Status) (s : State) : Answer := ⟨st, .none, s⟩

/-- The length check of R165, step 2, and then the checks and the effect of the owning block. -/
def Body.run {α : Type} (b : Body α) (f : α → State → Answer) (s : State) : Answer :=
  match b with
  | .badLength => refuse .badLength s
  | .fields x => f x s

/-- A FULL reply joins the reply list, or is not made where it would be the fifth (R164, R167). -/
def Control.replyFull (k : Control) (kind tag : Byte) : Control :=
  if 4 ≤ k.replies.countP (fun r => r.status = .full) then k.countEvents .controlDiscard none 1
  else
    let r : Reply := ⟨replyKind kind, tag, .full, .none⟩
    { k with replies := k.replies ++ [r] }.startNext

/-- A request arrives: it joins the request queue, or is answered FULL (R164). -/
def Control.arrive (k : Control) (r : Instr) (kind tag : Byte) : Control :=
  if k.requests.length < 4 then { k with requests := k.requests ++ [r] } else k.replyFull kind tag

/-- The processor makes its reply; with no frame being sent the reply starts at once, ahead of every report the request's
own effect queues (R165, R167, R177). -/
def answerWith (kind tag : Byte) (f : State → Answer) (s : State) : State :=
  if s.control.sending = none then
    let a := f { s with control := { s.control with sending := some (.reply ⟨replyKind kind, tag, .ok, .none⟩) } }
    { a.state with control := { a.state.control with
        sending := some (.reply ⟨replyKind kind, tag, a.status, a.data⟩) } }
  else
    let a := f s
    { a.state with control := { a.state.control with
        replies := a.state.control.replies ++ [⟨replyKind kind, tag, a.status, a.data⟩] } }

/-- The processor may take this request now: it is at the head of the queue, and no reply of the processor waits
(R165). -/
def Control.mayTake (k : Control) (r : Instr) : Bool := k.requests.head? = some r && k.processorFree

/-- A request command. A request that is not at the head of the request queue arrives (R164). Then the command processor
takes it where it may (R165); where it may not, it waits, and the same command takes it later (log 6). -/
def State.serve (s : State) (r : Instr) (kind tag : Byte) (f : State → Answer) : State :=
  let k := if s.control.requests.head? = some r then s.control else s.control.arrive r kind tag
  if k.mayTake r then answerWith kind tag f { s with control := { k with requests := k.requests.tail } }
  else { s with control := k }

/-! ## Output pins -/

/-- A RELEASE of the port is being sent or waits (R6). -/
def Port.releasing (p : Port) : Bool := p.backSending = some .release || p.backWaiting.contains .release

/-- The output pins follow the state (R4, R6, R158, R179). -/
def State.drivePins (s : State) : State :=
  { s with pins :=
      if s.held then ⟨Vector.replicate 4 false, none⟩
      else ⟨mapTable (fun p => (s.mode = .run && p.enabled) || p.releasing) s.ports,
        if s.mode = .run ∧ s.cadence.buzz.state = .on then some s.cadence.buzz.toneInUse else none⟩ }

/-- What a command answers. -/
abbrev Outcome := Host.Outcome State Fault Refusal

/-- A command's outcome: the state it leaves, with the output pins driven. -/
def commit (s : State) : Outcome := .next s.drivePins

/-- A command that has no effect while RESET is held low (R179). -/
def unlessHeld (s : State) (f : State → State) : Outcome := commit (if s.held then s else f s)

/-- The command of a request row: the request `r` of KIND `kind`, whose taking has the effect `f` (log 6). -/
def request (r : Instr) (kind tag : Byte) (f : State → Answer) (s : State) : Outcome :=
  unlessHeld s fun t => t.serve r kind tag f

/-! ## Time -/

/-- One millisecond off a running timer. -/
def countdown (t : Option Nat) : Option Nat := t.map (· - 1)

/-- One millisecond off a zone's hold timer. -/
def Zone.countdown (z : Zone) : Zone := { z with hold := z.hold.map (· - 1) }

/-- One millisecond of the internal timebase passes: every running timer has one less remaining, down to none. A timer's
expiry is a command of its own, which acts on a timer with none remaining (log 1, log 2). RESET held low does not stop the
timers (DESIGN CHOICE, log 14). -/
def State.tick (s : State) : State :=
  { s with
    ports := mapTable (fun p =>
      { p with announceTimer := countdown p.announceTimer, trainTimer := countdown p.trainTimer }) s.ports
    zones := { s.zones with zones := mapTable (Option.map Zone.countdown) s.zones.zones }
    selector := { s.selector with
      timeout := countdown s.selector.timeout
      turnDwell := countdown s.selector.turnDwell
      dwell := countdown s.selector.dwell
      force := s.selector.force.map fun f => { f with timer := countdown f.timer } }
    cadence := { s.cadence with
      blink := { s.cadence.blink with timer := countdown s.cadence.blink.timer }
      buzz := { s.cadence.buzz with timer := countdown s.cadence.buzz.timer } }
    control := { s.control with rx := { s.control.rx with gap := countdown s.control.rx.gap } }
    display := { s.display with senseTimer := countdown s.display.senseTimer } }

end Sys2Proof.Machine
end

