-- ==== Sys2Proof/Machine/Cadence.lean ====
section
/-! DEFINITION. The cadence generator (Chapter 9, 9.4): phase timer expiries, SET PARAMETERS of the cadence group, SILENCE. -/

namespace Sys2Proof.Machine

/-- A channel of the cadence generator. -/
def State.channel (s : State) : ChannelId → Channel
  | .blink => s.cadence.blink
  | .buzz => s.cadence.buzz

/-- A channel replaced. -/
def State.setChannel (s : State) (id : ChannelId) (ch : Channel) : State :=
  match id with
  | .blink => { s with cadence := { s.cadence with blink := ch } }
  | .buzz => { s with cadence := { s.cadence with buzz := ch } }

/-- On-time expiry of a phase timer that has run out in ON (R156, log 1). -/
def Channel.onExpires (ch : Channel) : Channel :=
  if ch.state = .on ∧ ch.timer = some 0 then
    if !ch.trigger then ch.toIdle
    else if ch.cyclesRemain then { ch with state := .off, timer := some ch.offTime }
    else { ch with state := .done, timer := none }
  else ch

/-- Off-time expiry of a phase timer that has run out in OFF (R156, log 1). -/
def Channel.offExpires (ch : Channel) : Channel :=
  if ch.state = .off ∧ ch.timer = some 0 then ch.startOn (min 15 (ch.cycles + 1)) else ch

/-- SILENCE on the BUZZ channel (R157). -/
def Channel.silence (ch : Channel) : Channel :=
  match ch.state with
  | .on => if ch.trigger then { ch with state := .done, timer := none, silenced := true } else ch.toIdle
  | .off => { ch with state := .done, timer := none, silenced := true }
  | .idle | .done => ch

/-- The effect of SILENCE (R157). -/
def silence (_ : Unit) (s : State) : Answer :=
  let ch := s.cadence.buzz.silence
  ⟨.ok, .buzz ch.state, s.setChannel .buzz ch⟩

/-- A channel's settings as a request brings them into range; BLINK keeps its tone (R154). -/
def Channel.withSettings (ch : Channel) (id : ChannelId) (f : CadenceFields) : Channel :=
  { ch with
    onTime := clampCadenceTime f.onTime
    offTime := clampCadenceTime f.offTime
    burst := min 15 f.burst
    mask := f.mask
    tone := if id = .buzz then min 3 f.tone else ch.tone }

/-- A value of the request was changed (R154). -/
def cadenceChanged (id : ChannelId) (f : CadenceFields) : Bool :=
  clampCadenceTime f.onTime ≠ f.onTime || clampCadenceTime f.offTime ≠ f.offTime || 15 < f.burst
    || (id = .buzz && 3 < f.tone)

/-- The effect of SET PARAMETERS of the cadence group (R154). The reply carries the channel's values as stored (R170); BLINK
stores no tone, and the tone of its reply is the field's value, 0 from power-on (DESIGN CHOICE, log 22). -/
def setParametersCadence (f : CadenceFields) (s : State) : Answer :=
  match f.channel with
  | none => refuse .badValue s
  | some id =>
    let ch := (s.channel id).withSettings id f
    ⟨statusOf (cadenceChanged id f), .cadence id ch.onTime ch.offTime ch.burst ch.mask ch.tone,
      s.setChannel id (ch.retrigger (combinedTrigger s ch.mask))⟩

/-- Both channels enter IDLE at once (R159). -/
def Cadence.leaveRun (k : Cadence) : Cadence := { k with blink := k.blink.leaveRun, buzz := k.buzz.leaveRun }

/-- The latch of the BLINK phase (R159). -/
def Cadence.takeLatch (k : Cadence) : Cadence := { k with latchedPhase := k.blink.state = .on }

/-- The frequency of a tone in hertz (R158). -/
def toneFrequency (tone : Nat) : Nat :=
  match tone with
  | 0 => 1600
  | 1 => 2000
  | 2 => 2500
  | _ => 3200

/-- The frequency on the BUZZ line, `none` while it is low (R158). -/
def State.buzzFrequency (s : State) : Option Nat := s.pins.buzz.map toneFrequency

/-! ## The commands -/

/-- ON_TIME_EXPIRY (R156). -/
def execOnTimeExpiry (id : ChannelId) (s : State) : Outcome :=
  unlessHeld s fun t => t.setChannel id (t.channel id).onExpires

/-- OFF_TIME_EXPIRY (R156). -/
def execOffTimeExpiry (id : ChannelId) (s : State) : Outcome :=
  unlessHeld s fun t => t.setChannel id (t.channel id).offExpires

/-- SILENCE (R157). -/
def execSilence (tag : Byte) (b : Body Unit) (s : State) : Outcome :=
  request (.silence tag b) 0x17 tag (Body.run b silence) s

/-- SET_PARAMETERS_CADENCE (R154). -/
def execSetParametersCadence (tag : Byte) (b : Body CadenceFields) (s : State) : Outcome :=
  request (.setParametersCadence tag b) 0x03 tag (Body.run b setParametersCadence) s

end Sys2Proof.Machine
end

