-- ==== Sys2Proof/Machine/Metering.lean ====
section
/-! DEFINITION. The metering unit (Chapter 5): window changes, pixel ranges, measures, results, and the requests WINDOW SET
and WINDOW DROP. -/

namespace Sys2Proof.Machine

/-! ## Pixel ranges and sampled points -/

/-- A window's pixel ranges in a mode; `xe` and `ye` are xb + 1 and yb + 1 (R91). -/
def rangesOf (d : WindowDef) (m : CamMode) : PixelRanges :=
  ⟨d.left * modeWidth m / 256, d.right * modeWidth m / 256, d.top * modeHeight m / 256, d.bottom * modeHeight m / 256⟩

/-- Width in pixels nw (R91). -/
def PixelRanges.nw (r : PixelRanges) : Nat := r.xe - r.xa

/-- Height in pixels nh (R91). -/
def PixelRanges.nh (r : PixelRanges) : Nat := r.ye - r.ya

/-- The sampled columns xa, xa + s, … (R92). -/
def sampledColumns (r : PixelRanges) (step : Nat) : List Nat :=
  (List.range ((r.nw + step - 1) / step)).map fun i => r.xa + i * step

/-- A row is sampled (R92). -/
def sampledRow (r : PixelRanges) (step y : Nat) : Bool := r.ya ≤ y && y < r.ye && (y - r.ya) % step = 0

/-- The block column or row of a column or row: three of `n div 4`, which are empty for `n` below 4, and the rest (R95). -/
def blockPart (a n x : Nat) : Nat := if n / 4 = 0 then 3 else min 3 ((x - a) / (n / 4))

/-- A sampled point adds to the sums and counts of the window and of its block (R93, R95). -/
def Accumulators.addPoint (acc : Accumulators) (block lum : Nat) : Accumulators :=
  { acc with
    sum := acc.sum + lum
    count := acc.count + 1
    blockSums := acc.blockSums.modify block (· + lum)
    blockCounts := acc.blockCounts.modify block (· + 1) }

/-- A contrast point adds the difference to its right neighbour (R94). -/
def Accumulators.addContrast (acc : Accumulators) (lum right : Nat) : Accumulators :=
  { acc with
    contrastSum := acc.contrastSum + (max lum right - min lum right)
    contrastCount := acc.contrastCount + 1 }

/-- One sampled row of a segment body, `lum x` the raw Y of column `x` (R92 to R95). -/
def Accumulators.addRow (acc : Accumulators) (r : PixelRanges) (step y : Nat) (lum : Nat → Nat) : Accumulators :=
  let columns := sampledColumns r step
  let points := columns.foldl
    (fun a x => a.addPoint (4 * blockPart r.ya r.nh y + blockPart r.xa r.nw x) (lum x)) acc
  (columns.filter fun x => x + step < r.xe).foldl (fun a x => a.addContrast (lum x) (lum (x + step))) points

/-- Segment `i` of a frame of camera `c` is read by a window that measures the camera; `lum y x` is the raw Y of
column `x` of row `y` (R92). -/
def Window.sample (w : Window) (c : Cam) (i : Nat) (lum : Nat → Nat → Nat) : Window :=
  match w.active, w.ranges with
  | some d, some r =>
    if w.measuring ∧ d.camera = c then
      let rows := ((List.range 16).map fun k => 16 * i + k).filter (sampledRow r d.step)
      { w with acc := rows.foldl (fun a y => a.addRow r d.step y (lum y)) w.acc }
    else w
  | _, _ => w

/-- A frame of camera `c` opens in mode `m` (R91). -/
def Window.openFrame (w : Window) (c : Cam) (m : CamMode) : Window :=
  match w.active with
  | some d =>
    if d.camera = c then { w with measuring := true, acc := .zero, ranges := some (rangesOf d m) } else w
  | none => w

/-! ## Results -/

/-- The measures at the frame close of a valid frame (R93 to R95). -/
def Accumulators.measures (acc : Accumulators) : Measures where
  sum := acc.sum
  count := acc.count
  mean := acc.sum / acc.count
  contrastSum := acc.contrastSum
  contrastCount := acc.contrastCount
  contrast := acc.contrastSum / acc.contrastCount
  blocks := List.zipWith (· / ·) acc.blockSums acc.blockCounts

/-- A segment of the window's rows is errored in the result map (R96). -/
def rowsErrored (r : PixelRanges) (map : List Bool) : Bool :=
  (List.range ((r.ye - 1) / 16 + 1)).any fun k => r.ya / 16 ≤ k && map[k]? ≠ some true

/-- Validity of the frame for the window (R96). -/
def verdictOf (r : PixelRanges) (acc : Accumulators) (map : List Bool) : Verdict :=
  if r.nw < 16 ∨ r.nh < 16 then .small
  else if rowsErrored r map then .errored
  else .valid acc.measures

/-- The frame close of camera `c`: a window that measured the frame gets its result (R96). -/
def Window.closeFrame (w : Window) (c : Cam) (frame : Byte) (exposure : Nat) (map : List Bool) : Window :=
  match w.active, w.ranges with
  | some d, some r =>
    if w.measuring ∧ d.camera = c then
      { w with
        measuring := false, acc := .zero, ranges := none, first := false
        result := some ⟨c, frame, exposure, verdictOf r w.acc map, w.first⟩ }
    else w
  | _, _ => w

/-- The port of camera `c` leaves STREAMING (R97). -/
def Window.leaveStreaming (w : Window) (c : Cam) : Window :=
  if w.serves c then { w with measuring := false, acc := .zero, ranges := none, result := none } else w

/-! ## Pending changes -/

/-- The window's pending change takes effect at a header of camera `c` (R89). -/
def Window.changeDue (w : Window) (c : Cam) : Bool :=
  match w.change with
  | .none => false
  | .set d => w.serves c || d.camera = c
  | .drop => w.serves c

/-- A pending change takes effect (R90). -/
def Window.takeChange (w : Window) : Window :=
  match w.change with
  | .none => w
  | .set d => ⟨some d, .none, false, .zero, none, true, none⟩
  | .drop => ⟨none, .none, false, .zero, none, false, none⟩

/-- The clarity state returns to CLEAR with both counts 0 (R120). -/
def Clarity.cleared (cl : Clarity) : Clarity := { cl with state := .clear, low := 0, clear := 0 }

/-- Clarity of a camera changed: an input of its health and of the triggers (R121, R155). -/
def State.judgeClarity (s : State) (c : Cam) (cl : Clarity) : State := ((s.setClarity c cl).rederive c).reform

/-- The zone of a window whose change has taken effect: a new one for a WATCH definition, none otherwise (R122, R127). -/
def zoneAfterChange (w : Window) : Option Zone :=
  if w.active.any (·.isWatch) then some .initial else none

/-- Every pending change due at a header of camera `c` takes effect, in window order, with its effects on the zones (R127)
and on the clarity state of a camera left without its CLARITY window (R120); the HEALTH reports of the cameras follow in
the order camera 0 to 3 (DESIGN CHOICE, log 11), and then one HAZARD report. -/
def State.applyChanges (s : State) (c : Cam) : State :=
  let due := fun w => (s.window w).changeDue c
  let windows := mapTable (fun w => if w.changeDue c then w.takeChange else w) s.windows
  let zones := Vector.ofFn fun w => if due w then zoneAfterChange (look windows w) else s.zone w
  let left := fun k => allWindows.any (fun w => due w && (s.window w).active.any (·.clarityOf k))
    && (clarityWindow? windows k).isNone
  let s1 := { s with windows := windows, zones := { s.zones with zones := zones } }
  let s2 := allCams.foldl (fun t k => if left k then t.judgeClarity k (t.clarity k).cleared else t) s1
  s2.refreshHazard

/-! ## WINDOW SET and WINDOW DROP -/

/-- WINDOW SET (R86, R87). -/
def windowSet (f : WindowFields) (s : State) : Answer :=
  if !windowLengthOk f then refuse .badLength s
  else
    match index? 16 f.id, windowDefOf? f with
    | some w, some d =>
      let windows := put s.windows w { s.window w with change := .set d }
      let fits := match d.role with
        | .clarity => decide (countWindows windows (·.clarityOf d.camera) ≤ 1)
        | .watch _ _ => decide (countWindows windows (·.isWatch) ≤ 8)
        | _ => true
      if fits then ⟨.ok, .none, { s with windows := windows }⟩ else refuse .noRoom s
    | _, _ => refuse .badValue s

/-- WINDOW DROP (R88). -/
def windowDrop (id : Nat) (s : State) : Answer :=
  match index? 16 id with
  | none => refuse .badValue s
  | some w =>
    let win := s.window w
    match win.active, win.change with
    | none, .set _ => ⟨.ok, .none, { s with windows := put s.windows w { win with change := .none } }⟩
    | none, _ => refuse .notFound s
    | some _, _ => ⟨.ok, .none, { s with windows := put s.windows w { win with change := .drop } }⟩

/-- The zone watch's share of READ METER, for a WATCH window (R130). -/
def State.zoneShare (s : State) (w : WindowId) : Option ZoneShare :=
  if (s.window w).active.any (·.isWatch) then
    (s.zone w).map fun z =>
      ⟨z.state, (s.window w).armed s.selector.situation, z.count, z.hold, z.valid, z.exposure⟩
  else none

/-- READ METER (R98, R130). -/
def readMeter (id : Nat) (s : State) : Answer :=
  match index? 16 id with
  | none => refuse .badValue s
  | some w =>
    let win := s.window w
    ⟨.ok, .meter ⟨win.active, win.change, win.measuring, win.result, s.zoneShare w⟩, s⟩

/-! ## The commands -/

/-- WINDOW_SET (R86). -/
def execWindowSet (tag : Byte) (b : Body WindowFields) (s : State) : Outcome :=
  request (.windowSet tag b) 0x05 tag (Body.run b windowSet) s

/-- WINDOW_DROP (R88). -/
def execWindowDrop (tag : Byte) (b : Body Nat) (s : State) : Outcome :=
  request (.windowDrop tag b) 0x06 tag (Body.run b windowDrop) s

/-- READ_METER (R98). -/
def execReadMeter (tag : Byte) (b : Body Nat) (s : State) : Outcome :=
  request (.readMeter tag b) 0x19 tag (Body.run b readMeter) s

end Sys2Proof.Machine
end

