-- ==== Sys2Proof/Machine/Clarity.lean ====
section
/-! DEFINITION. The clarity monitor and the zone watch (Chapter 7), and the requests SET PARAMETERS of the clarity and zone
groups. -/

namespace Sys2Proof.Machine

/-! ## Clarity monitor -/

/-- Whether a frame is low, given its contrast and, in PAIRED, the partner's (R118). -/
def isLow (mode : ClarityMode) (level clrStep contrast : Nat) (partner : Option Measures) : Option Bool :=
  match mode with
  | .fixed => some (contrast < level * clrStep)
  | .paired _ => partner.map fun m => contrast * 16 < m.contrast * level

/-- The partner's measures, where the partner has a VALID CLARITY result and streams (R117, condition 4). -/
def State.partnerMeasures (s : State) (mode : ClarityMode) : Option Measures :=
  match mode with
  | .fixed => none
  | .paired p =>
    if (s.port p).link = .streaming then (clarityWindow? s.windows p).bind Window.valid? else none

/-- The decision of a frame close of camera `c`: low, not low, or none (R117, R118). -/
def State.clarityDecision (s : State) (c : Cam) : Option Bool :=
  let lim := s.params.clarityLimits
  let cl := s.clarity c
  match (clarityWindow? s.windows c).bind Window.valid? with
  | none => none
  | some m =>
    if lim.validLo ≤ m.mean ∧ m.mean ≤ lim.validHi then
      isLow cl.mode cl.level lim.clrStep m.contrast (s.partnerMeasures cl.mode)
    else none

/-- The counts and the state after a decision (R119). -/
def Clarity.decide (cl : Clarity) (lim : ClarityLimits) (low : Bool) : Clarity :=
  let l := if low then min lim.obscureFrames (min lim.obscureFrames cl.low + 1) else 0
  let k := if low then 0 else min lim.clearFrames (min lim.clearFrames cl.clear + 1)
  match cl.state with
  | .clear => if lim.obscureFrames ≤ l then { cl with state := .obscured, low := 0, clear := 0 }
      else { cl with low := l, clear := k }
  | .obscured => if lim.clearFrames ≤ k then { cl with state := .clear, low := 0, clear := 0 }
      else { cl with low := l, clear := k }

/-- The first result under a new definition is read: both counts become 0 before the decision (R120). -/
def State.clarityFirst (s : State) (c : Cam) : Bool :=
  ((clarityWindow? s.windows c).bind (·.result)).any (·.first)

/-- Camera `c`'s clarity after a frame close of `c` (R117 to R120). -/
def State.clarityClose (s : State) (c : Cam) : Clarity :=
  let cl := s.clarity c
  let cl := if s.clarityFirst c then { cl with low := 0, clear := 0 } else cl
  match s.clarityDecision c with
  | none => cl
  | some low => cl.decide s.params.clarityLimits low

/-- The settings a clarity request carries, with the level clamped; `none` for BAD_VALUE (R116). -/
def clarityModeOf? (f : ClarityFields) (c : Cam) : Option ClarityMode :=
  match f.mode with
  | some .fixed => some .fixed
  | some .paired =>
    match index? 4 f.partner with
    | some p => if p = c then none else some (.paired p)
    | none => none
  | none => none

/-- SET PARAMETERS of the clarity group (R116). -/
def setParametersClarity (f : ClarityFields) (s : State) : Answer :=
  match index? 4 f.camera with
  | none => refuse .badValue s
  | some c =>
    match clarityModeOf? f c with
    | none => refuse .badValue s
    | some mode =>
      let level := clampLevel f.level
      let cl := s.clarity c
      let cl := if cl.mode = mode then cl else { cl with low := 0, clear := 0 }
      ⟨statusOf (level ≠ f.level), .clarity c mode level, s.setClarity c { cl with mode := mode, level := level }⟩

/-- SET PARAMETERS of the clarity limits group (R116, R170). -/
def setParametersClarityLimits (p : ClarityLimits) (s : State) : Answer :=
  let q := clampClarityLimits p
  ⟨statusOf (q ≠ p), .clarityLimits q, { s with params := { s.params with clarityLimits := q } }⟩

/-! ## Zone watch -/

/-- The activity of two sets of block means (R124, case 4). -/
def activity (now before : List Nat) : Nat :=
  (List.zipWith (fun a b => max a b - min a b) now before).sum / 16

/-- A zone stores a result's block means and exposure index (R124). -/
def Zone.remember (z : Zone) (m : Measures) (exposure : Nat) : Zone :=
  { z with means := m.blocks, exposure := some exposure, valid := true }

/-- The decision of a judged frame of an armed zone (R125). -/
def Zone.judge (z : Zone) (p : ZoneParams) (active : Bool) : Zone :=
  let count := if active then min p.actFrames (min p.actFrames z.count + 1) else 0
  match z.state with
  | .active => { z with count := count, hold := if active ∧ count = p.actFrames then some p.actHold else z.hold }
  | _ =>
    if !active then { z with state := .idle, count := 0 }
    else if count = p.actFrames then { z with state := .active, count := count, hold := some p.actHold }
    else { z with state := .counting, count := count }

/-- A zone at a frame close of its camera: the first case that applies (R124). -/
def Zone.close (z : Zone) (w : Window) (armed : Bool) (p : ZoneParams) : Zone :=
  match w.result, w.active with
  | some ⟨_, _, exposure, .valid m, _⟩, some d =>
    if !armed then z.remember m exposure
    else if !z.valid ∨ z.exposure ≠ some exposure then z.remember m exposure
    else
      let level := match d.role with
        | .watch l _ => l
        | _ => 0
      (z.remember m exposure).judge p (decide (level * p.actStep ≤ activity m.blocks z.means))
  | _, _ => { z with valid := false }

/-- The zone watch at a frame close of camera `c` (R124, R125, R128). -/
def State.zoneClose (s : State) (c : Cam) : State :=
  let zones := Vector.ofFn fun w =>
    if (s.window w).serves c then
      (s.zone w).map fun z => z.close (s.window w) ((s.window w).armed s.selector.situation) s.params.zone
    else s.zone w
  { s with zones := { s.zones with zones := zones } }.refreshHazard

/-- A zone returns to IDLE, its stored means kept (R123, R126). -/
def Zone.toIdle (z : Zone) : Zone := { z with state := .idle, count := 0, hold := none }

/-- The port of the zone's camera leaves STREAMING for a state other than OFF (R127). -/
def Zone.leaveStreaming (z : Zone) : Zone :=
  { z with valid := false, count := 0, state := if z.state = .counting then .idle else z.state }

/-- The zone watch re-reads the arming of every zone; one that is unarmed becomes IDLE (R123). -/
def State.rearm (s : State) : State :=
  let zones := Vector.ofFn fun w =>
    (s.zone w).map fun z => if (s.window w).armed s.selector.situation then z else z.toIdle
  { s with zones := { s.zones with zones := zones } }.refreshHazard

/-- The latch of the hazard flag and the zones (R129). -/
def State.zoneLatch (s : State) : ZoneWatch :=
  { s.zones with
    latchedHazard := s.zones.hazard
    latchedZones := allWindows.filterMap fun w => (s.zone w).map fun z =>
      ⟨w, s.zoneCamera w, z.state, (s.window w).armed s.selector.situation⟩ }

/-- Hold timer expiry of window `w`'s zone: it happens where the zone is ACTIVE and its timer has run out, so not where a
frame close taken before it has restarted the timer (R126, log 1). -/
def State.holdExpires (s : State) (w : WindowId) : State :=
  match s.zone w with
  | some z =>
    if z.state = .active ∧ z.hold = some 0 then
      { s with zones := { s.zones with zones := put s.zones.zones w (some z.toIdle) } }.refreshHazard
    else s
  | none => s

/-- SET PARAMETERS of the zone group (R170). -/
def setParametersZone (p : ZoneParams) (s : State) : Answer :=
  let q := clampZone p
  ⟨statusOf (q ≠ p), .zone q, { s with params := { s.params with zone := q } }⟩

/-! ## The commands -/

/-- SET_PARAMETERS_CLARITY (R116). -/
def execSetParametersClarity (tag : Byte) (b : Body ClarityFields) (s : State) : Outcome :=
  request (.setParametersClarity tag b) 0x03 tag (Body.run b setParametersClarity) s

/-- SET_PARAMETERS_CLARITY_LIMITS (R116). -/
def execSetParametersClarityLimits (tag : Byte) (b : Body ClarityLimits) (s : State) : Outcome :=
  request (.setParametersClarityLimits tag b) 0x03 tag (Body.run b setParametersClarityLimits) s

/-- SET_PARAMETERS_ZONE (R126, R170). -/
def execSetParametersZone (tag : Byte) (b : Body ZoneParams) (s : State) : Outcome :=
  request (.setParametersZone tag b) 0x03 tag (Body.run b setParametersZone) s

/-- HOLD_TIMER_EXPIRY (R126). -/
def execHoldTimerExpiry (w : WindowId) (s : State) : Outcome := unlessHeld s fun t => t.holdExpires w

end Sys2Proof.Machine
end

