-- ==== Sys2Proof/Machine/Bodies.lean ====
section
/-! DEFINITION. The bodies of the requests, read from their bytes (R162, R165, R169).

What the manual lays out is laid out as it has it: multi-byte fields high byte first (R162), a count or a selector at the front
of the body (R165), the group codes (R170), the mode codes (R176), the pane record (R62, R169). Otherwise a body holds its
fields in the order in which the request's rule names them, a number up to 255 in one byte and a larger one in two (DEDUCED,
log 5). A body of another length is BAD_LENGTH (R165). A code the manual does not give is a constant of `Config`. -/

namespace Sys2Proof.Machine

/-! ## Fields -/

/-- The value of a code, among the named values, in the order given. -/
def ofCode? {α : Type} (values : List α) (code : α → Byte) (b : Byte) : Option α := values.find? fun v => code v = b

/-- A flag is set: its byte is the set flag's; any other byte reads as clear (DESIGN CHOICE, log 5). -/
def flagSet (b : Byte) : Bool := b = Config.flagByte true

/-- A number of two bytes, high byte first (R162). -/
def two (high low : Byte) : Nat := ofHighFirst [high, low]

/-- The role of a code (5.1). -/
def roleOf? : Byte → Option RoleKind := ofCode? [.tone, .clarity, .seam, .watch] Config.roleByte

/-- The clarity mode of a code (R116). -/
def clarityOf? : Byte → Option ClarityKind := ofCode? [.fixed, .paired] Config.clarityByte

/-- The shape kind of a code (9.1). -/
def shapeKindOf? : Byte → Option ShapeKind := ofCode? [.polyline, .polygon, .icon] Config.shapeKindByte

/-- The condition of a code (R152). -/
def conditionOf? : Byte → Option Condition :=
  ofCode? [.always, .hazard, .kerbIndicator, .reverse, .moving, .altSource, .sourceNotGood] Config.conditionByte

/-- The channel of a code (R154). -/
def channelOf? : Byte → Option ChannelId := ofCode? [.blink, .buzz] Config.channelByte

/-- The copy of a code (R67). -/
def copyOf? : Byte → Option TableCopy := ofCode? [.edit, .live] Config.copyByte

/-- The operation of a code (R17). -/
def operationOf? : Byte → Option PortOperation :=
  ofCode? [.enable, .disable, .restart, .preference] Config.operationByte

/-- A trigger mask: bits 0 to 3 are HAZARD, CAMERA_DOWN, OBSCURED and NO_DATA, in the order of R153, as the bits of the presence
byte of R169 follow the order of its fields (DEDUCED, log 5). Bits 4 to 7 stand for no trigger and are ignored: a byte with one of
them set is taken, and it is neither BAD_VALUE nor a clamped value (DESIGN CHOICE, log 5: the manual is silent on them). -/
def triggersOf (b : Byte) : TriggerMask := ⟨b.getLsbD 0, b.getLsbD 1, b.getLsbD 2, b.getLsbD 3⟩

/-! ## Bodies of one fixed length -/

/-- The body of a request that carries none. -/
def emptyBody (body : List Byte) : Body Unit := if body = [] then .fields () else .badLength

/-- A body of one id. -/
def readId : List Byte → Body Nat
  | [id] => .fields id.toNat
  | _ => .badLength

/-- Group 0 (R170). -/
def readLinkParams : List Byte → Body LinkParams
  | [a1, a0, t1, t0, tolerance, threshold, frames] =>
    .fields ⟨two a1 a0, two t1 t0, tolerance.toNat, threshold.toNat, frames.toNat⟩
  | _ => .badLength

/-- Group 1 (R170). -/
def readStoreParams : List Byte → Body StoreParams
  | [hold, degrade, freeze] => .fields ⟨hold.toNat, degrade.toNat, freeze.toNat⟩
  | _ => .badLength

/-- Group 2 (R101, R170). -/
def readToneFields : List Byte → Body ToneFields
  | [camera, target, black] => .fields ⟨camera.toNat, target.toNat, black.toNat⟩
  | _ => .badLength

/-- Group 3 (R170). -/
def readToneLimits : List Byte → Body ToneLimits
  | [frames, settle] => .fields ⟨frames.toNat, settle.toNat⟩
  | _ => .badLength

/-- Group 4, in the order of R116. -/
def readClarityFields : List Byte → Body ClarityFields
  | [camera, mode, partner, level] => .fields ⟨camera.toNat, clarityOf? mode, partner.toNat, level.toNat⟩
  | _ => .badLength

/-- Group 5 (R170). -/
def readClarityLimits : List Byte → Body ClarityLimits
  | [step, lo, hi, obscure, clear] => .fields ⟨step.toNat, lo.toNat, hi.toNat, obscure.toNat, clear.toNat⟩
  | _ => .badLength

/-- Group 6 (R170). -/
def readZoneParams : List Byte → Body ZoneParams
  | [step, frames, h1, h0] => .fields ⟨step.toNat, frames.toNat, two h1 h0⟩
  | _ => .badLength

/-- Group 7 (R139, R170). -/
def readSituationParams : List Byte → Body SituationParams
  | [v1, v0, t1, t0, d1, d0, lift, turn, enter, leave] =>
    .fields ⟨two v1 v0, two t1 t0, two d1 d0, lift.toNat, turn.toNat, enter.toNat, leave.toNat⟩
  | _ => .badLength

/-- Group 8 (R154). -/
def readCadenceFields : List Byte → Body CadenceFields
  | [channel, on1, on0, off1, off0, burst, mask, tone] =>
    .fields ⟨channelOf? channel, two on1 on0, two off1 off0, burst.toNat, triggersOf mask, tone.toNat⟩
  | _ => .badLength

/-- SEAM SET (R109). -/
def readSeamSet : List Byte → Body SeamFields
  | [pair, a, b, enabled] => .fields ⟨pair.toNat, a.toNat, b.toNat, flagSet enabled⟩
  | _ => .badLength

/-- GRID BEGIN (R45). -/
def readGridBegin : List Byte → Body GridBeginFields
  | [id, cols, rows] => .fields ⟨id.toNat, cols.toNat, rows.toNat⟩
  | _ => .badLength

/-- VIEW SET (R64). -/
def readViewSet : List Byte → Body ViewSetFields
  | [view, y, cb, cr, label] => .fields ⟨view.toNat, ⟨y, cb, cr⟩, label.toNat⟩
  | _ => .badLength

/-- PANE DROP (R63). -/
def readPaneDrop : List Byte → Body PaneDropFields
  | [view, slot] => .fields ⟨view.toNat, slot.toNat⟩
  | _ => .badLength

/-- FORCE VIEW (R141). -/
def readForceView : List Byte → Body ForceFields
  | [view, ceiling, t1, t0] => .fields ⟨view.toNat, ceiling.toNat, two t1 t0⟩
  | _ => .badLength

/-- The item of READ TABLE; the view map has no id, and the id byte is then ignored (R67, log 5). -/
def readItem? (kind id : Byte) : Option TableItem :=
  match ofCode? [.view, .map, .list] Config.itemByte kind with
  | some .view => some (.view id.toNat)
  | some .map => some .map
  | some .list => some (.list id.toNat)
  | none => none

/-- READ TABLE: copy, item, id (R67). -/
def readReadTable : List Byte → Body ReadTableFields
  | [copy, kind, id] => .fields ⟨copyOf? copy, readItem? kind id⟩
  | _ => .badLength

/-- COUNTER SELECT; bit n of the mask byte is camera n's entry (DEDUCED, log 5). Bits 4 to 7 stand for no camera and are ignored: a
byte with one of them set is taken, and the reply is OK (DESIGN CHOICE, log 5: the manual is silent on them) (R175). -/
def readCounterSelect : List Byte → Body CounterFields
  | [counter, event, mask] => .fields ⟨counter.toNat, event.toNat, mask.extractLsb' 0 4⟩
  | _ => .badLength

/-! ## Bodies with a count or a selector at their front (R165) -/

/-- The body of PORT CONTROL: the operation, then the port; with a preference list the number of mode codes, the port, the
codes (R9, R17). An operation that is none of the four fixes no length (R165). -/
def readPortControl : List Byte → PortBody
  | [] => .enable .badLength
  | code :: rest =>
    match operationOf? code with
    | none => .undefined
    | some .enable => .enable (readId rest)
    | some .disable => .disable (readId rest)
    | some .restart => .restart (readId rest)
    | some .preference =>
      match rest with
      | count :: port :: codes =>
        .preference (if codes.length = count.toNat then .fields ⟨port.toNat, codes.map (·.toNat)⟩ else .badLength)
      | _ => .preference .badLength

/-- What follows the role in WINDOW SET: window id, camera, left, top, right, bottom, step (5.1, R86). -/
def readWindow (role : RoleKind) (watch : Option (Nat × BitVec 8)) : List Byte → Body WindowFields
  | [id, camera, l1, l0, t1, t0, r1, r0, b1, b0, step] =>
    .fields ⟨id.toNat, camera.toNat, two l1 l0, two t1 t0, two r1 r0, two b1 b0, step.toNat, some role, watch⟩
  | _ => .badLength

/-- WINDOW SET: role, window id, camera, rectangle, step, and for WATCH the level and the arming mask, bit n for situation code
n (5.1, R86, log 5). A role that is none of the four fixes no length, and its request is BAD_VALUE whatever follows (R165). -/
def readWindowSet : List Byte → Body WindowFields
  | [] => .badLength
  | code :: rest =>
    match roleOf? code with
    | none => .fields ⟨0, 0, 0, 0, 0, 0, 0, none, none⟩
    | some .watch =>
      match rest.drop 11 with
      | [level, mask] => readWindow .watch (some (level.toNat, mask)) (rest.take 11)
      | _ => .badLength
    | some role => readWindow role none rest

/-- So many nodes and nothing after them: u, v, void flag (R46). -/
def takeNodes : Nat → List Byte → Option (List Node)
  | 0, [] => some []
  | n + 1, u1 :: u0 :: v1 :: v0 :: void :: rest =>
    (takeNodes n rest).map (⟨u1 ++ u0, v1 ++ v0, flagSet void⟩ :: ·)
  | _, _ => none

/-- GRID NODES: number of nodes, grid id, first index, nodes (R46). -/
def readGridNodes : List Byte → Body GridNodesFields
  | count :: id :: f1 :: f0 :: rest =>
    match takeNodes count.toNat rest with
    | some nodes => .fields ⟨id.toNat, two f1 f0, nodes⟩
    | none => .badLength
  | _ => .badLength

/-- So many points, x then y, and the bytes that follow. -/
def takePoints : Nat → List Byte → Option (List Point × List Byte)
  | 0, rest => some ([], rest)
  | n + 1, x1 :: x0 :: y1 :: y0 :: rest => (takePoints n rest).map fun p => (⟨two x1 x0, two y1 y0⟩ :: p.1, p.2)
  | _, _ => none

/-- The width of a POLYLINE or the glyph of an ICON, one byte, and the bytes that follow; POLYGON has neither (9.1). -/
def takeForm (kind : ShapeKind) (bytes : List Byte) : Option ((Option Nat × Option Nat) × List Byte) :=
  match kind, bytes with
  | .polygon, rest => some ((none, none), rest)
  | .polyline, width :: rest => some ((some width.toNat, none), rest)
  | .icon, glyph :: rest => some ((none, some glyph.toNat), rest)
  | _, [] => none

/-- The conditions of a shape: seven places, each a condition's code or the byte of an empty place (log 5). -/
def readConditions (places : List Byte) : List (Option Condition) :=
  (places.filter (· ≠ Config.noCondition)).map conditionOf?

/-- The end of a shape record: colour, opacity, seven places of conditions, blink flag (9.1). -/
def readShapeEnd (fields : Pixel → Nat → List (Option Condition) → Bool → ShapeFields) : List Byte → Body ShapeFields
  | [y, cb, cr, alpha, c0, c1, c2, c3, c4, c5, c6, blink] =>
    .fields (fields ⟨y, cb, cr⟩ alpha.toNat (readConditions [c0, c1, c2, c3, c4, c5, c6]) (flagSet blink))
  | _ => .badLength

/-- SHAPE SET: kind, number of points, shape id, points, width or glyph, colour, opacity, conditions, blink flag (9.1, R147). A
kind that is none of the three fixes no length, and its request is BAD_VALUE whatever follows (R165); it names no shape where
no id byte follows. -/
def readShapeSet : List Byte → Body ShapeFields
  | [] => .badLength
  | code :: rest =>
    match shapeKindOf? code, rest with
    | none, _ => .fields ⟨(rest[1]?.map (·.toNat)).getD 64, none, 0, [], none, none, ⟨0, 0, 0⟩, 0, [], false⟩
    | some kind, count :: id :: more =>
      match takePoints count.toNat more with
      | none => .badLength
      | some (points, more) =>
        match takeForm kind more with
        | none => .badLength
        | some ((width, glyph), more) =>
          readShapeEnd (fun colour alpha conditions blink =>
            ⟨id.toNat, some kind, count.toNat, points, width, glyph, colour, alpha, conditions, blink⟩) more
    | some _, _ => .badLength

/-- SET OVERLAY LIST: number of shapes, list id, shape ids (R66). -/
def readOverlayList : List Byte → Body OverlayListFields
  | count :: list :: shapes =>
    if shapes.length = count.toNat then .fields ⟨list.toNat, shapes.map (·.toNat)⟩ else .badLength
  | _ => .badLength

/-- So many pairs of situation code and view id, and nothing after them (R65). -/
def takePairs : Nat → List Byte → Option (List (Nat × Nat))
  | 0, [] => some []
  | n + 1, situation :: view :: rest => (takePairs n rest).map ((situation.toNat, view.toNat) :: ·)
  | _, _ => none

/-- VIEW MAP SET: number of pairs, pairs (R65). -/
def readViewMapSet : List Byte → Body (List (Nat × Nat))
  | count :: rest =>
    match takePairs count.toNat rest with
    | some pairs => .fields pairs
    | none => .badLength
  | [] => .badLength

/-- The body of SET PARAMETERS: a group code 0 to 8, one byte, and the group's values; a code outside 0 to 8 fixes no length
(R165, R170). A body without a group code is of no group's length (log 5). -/
def readParameters : List Byte → ParameterBody
  | [] => .link .badLength
  | code :: rest =>
    match code.toNat with
    | 0 => .link (readLinkParams rest)
    | 1 => .store (readStoreParams rest)
    | 2 => .tone (readToneFields rest)
    | 3 => .toneLimits (readToneLimits rest)
    | 4 => .clarity (readClarityFields rest)
    | 5 => .clarityLimits (readClarityLimits rest)
    | 6 => .zone (readZoneParams rest)
    | 7 => .situation (readSituationParams rest)
    | 8 => .cadence (readCadenceFields rest)
    | _ => .undefined

/-- The body of MODE: one mode code, one byte: 0 CONFIG, 1 RUN, 2 STANDBY (R176). -/
def readMode : List Byte → ModeBody
  | [code] =>
    match code.toNat with
    | 0 => .config
    | 1 => .run
    | 2 => .standby
    | _ => .undefined
  | _ => .badLength

/-! ## The pane record (R62, R67, R169) -/

/-- A group of a pane record: its mark, and its fields where the mark says that the group is present; with it what follows.
`none` where the bytes do not suffice. -/
def readGroup {α : Type} (read : List Byte → Option (α × List Byte)) : List Byte → Option (Option α × List Byte)
  | [] => none
  | mark :: rest => if flagSet mark then (read rest).map fun x => (some x.1, x.2) else some (none, rest)

/-- The geometry group: x, y, w, h (Chapter 4, 4.1). -/
def takeGeometry : List Byte → Option (Geometry × List Byte)
  | x1 :: x0 :: y1 :: y0 :: w1 :: w0 :: h1 :: h0 :: rest => some (⟨two x1 x0, two y1 y0, two w1 w0, two h1 h0⟩, rest)
  | _ => none

/-- The primary group: camera, grid (Chapter 4, 4.1). -/
def takePrimary : List Byte → Option (SourceFields × List Byte)
  | camera :: grid :: rest => some (⟨camera.toNat, grid.toNat⟩, rest)
  | _ => none

/-- The alternate group: camera, grid, or NONE (Chapter 4, 4.1; R62). A group that carries NONE has the length of one that
carries a source: the NONE byte stands in the camera's place, and the grid byte after it is ignored (DESIGN CHOICE, log 5: the
manual gives a group with NONE no bytes, and this decides which PANE SET is BAD_LENGTH). -/
def takeAlternate : List Byte → Option (Option SourceFields × List Byte)
  | camera :: grid :: rest =>
    some (if camera = Config.noneSource then none else some ⟨camera.toNat, grid.toNat⟩, rest)
  | _ => none

/-- The dress group: overlay list or NONE, mirror flag, border colour, pane label glyph (Chapter 4, 4.1; R62). A mirror byte that
is neither the set nor the clear flag's reads as clear (DESIGN CHOICE, log 5: the manual is silent on it). -/
def takeDress : List Byte → Option (DressFields × List Byte)
  | list :: mirror :: y :: cb :: cr :: label :: rest =>
    let list := if list = Config.noneList then none else some list.toNat
    some (⟨list, flagSet mirror, ⟨y, cb, cr⟩, label.toNat⟩, rest)
  | _ => none

/-- The four groups in the order of the pane record table, with nothing after them (R169). -/
def readPaneRecord (view slot : Nat) (bytes : List Byte) : Option PaneSetFields :=
  (readGroup takeGeometry bytes).bind fun (geometry, r1) =>
    (readGroup takePrimary r1).bind fun (primary, r2) =>
      (readGroup takeAlternate r2).bind fun (alternate, r3) =>
        (readGroup takeDress r3).bind fun (dress, r4) =>
          if r4 = [] then some ⟨view, slot, geometry, primary, alternate, dress⟩ else none

/-- The body of PANE SET: view, slot, pane record (R62, R169). -/
def readPaneSet : List Byte → Body PaneSetFields
  | view :: slot :: rest =>
    match readPaneRecord view.toNat slot.toNat rest with
    | some f => .fields f
    | none => .badLength
  | _ => .badLength

/-! ## Requests (R165, R169) -/

/-- A SET PARAMETERS frame as a request (R170). -/
def parametersRequest (tag : Byte) : ParameterBody → Instr
  | .undefined => .unknownRequest 0x03 tag
  | .link b => .setParametersLink tag b
  | .store b => .setParametersStore tag b
  | .tone b => .setParametersTone tag b
  | .toneLimits b => .setParametersToneLimits tag b
  | .clarity b => .setParametersClarity tag b
  | .clarityLimits b => .setParametersClarityLimits tag b
  | .zone b => .setParametersZone tag b
  | .situation b => .setParametersSituation tag b
  | .cadence b => .setParametersCadence tag b

/-- A PORT CONTROL frame as a request (R17). -/
def portRequest (tag : Byte) : PortBody → Instr
  | .undefined => .unknownRequest 0x04 tag
  | .enable b => .portEnable tag b
  | .disable b => .portDisable tag b
  | .restart b => .linkRestart tag b
  | .preference b => .portPreferenceList tag b

/-- A MODE frame as a request (R176). A body of a wrong length is any of the three with a bad length. -/
def modeRequest (tag : Byte) : ModeBody → Instr
  | .undefined => .unknownRequest 0x1D tag
  | .badLength => .modeConfig tag .badLength
  | .config => .modeConfig tag (.fields ())
  | .run => .modeRun tag (.fields ())
  | .standby => .modeStandby tag (.fields ())

/-- The request a good frame is (R169). -/
def readRequest (kind tag : Byte) (body : List Byte) : Instr :=
  match kind.toNat with
  | 0x01 => .identify tag (emptyBody body)
  | 0x02 => .status tag (emptyBody body)
  | 0x03 => parametersRequest tag (readParameters body)
  | 0x04 => portRequest tag (readPortControl body)
  | 0x05 => .windowSet tag (readWindowSet body)
  | 0x06 => .windowDrop tag (readId body)
  | 0x07 => .seamSet tag (readSeamSet body)
  | 0x08 => .gridBegin tag (readGridBegin body)
  | 0x09 => .gridNodes tag (readGridNodes body)
  | 0x0A => .gridEnd tag (readId body)
  | 0x0B => .gridDrop tag (readId body)
  | 0x0C => .shapeSet tag (readShapeSet body)
  | 0x0D => .shapeDrop tag (readId body)
  | 0x0E => .setOverlayList tag (readOverlayList body)
  | 0x0F => .viewSet tag (readViewSet body)
  | 0x10 => .paneSet tag (readPaneSet body)
  | 0x11 => .paneDrop tag (readPaneDrop body)
  | 0x12 => .viewMapSet tag (readViewMapSet body)
  | 0x13 => .applyTables tag (emptyBody body)
  | 0x14 => .vehicleState tag body
  | 0x15 => .forceView tag (readForceView body)
  | 0x16 => .releaseView tag (emptyBody body)
  | 0x17 => .silence tag (emptyBody body)
  | 0x18 => .readCamera tag (readId body)
  | 0x19 => .readMeter tag (readId body)
  | 0x1A => .readTable tag (readReadTable body)
  | 0x1B => .counterSelect tag (readCounterSelect body)
  | 0x1C => .counterRead tag (emptyBody body)
  | 0x1D => modeRequest tag (readMode body)
  | 0x1E => .restart tag (emptyBody body)
  | _ => .unknownRequest kind tag

end Sys2Proof.Machine
end

