-- ==== Sys2Proof/Machine/Layout.lean ====
section
/-! DEFINITION. The bytes of the frames the part sends (R162, R166, R168): the frame and its check, the body of a reply and the
body of a report.

What the manual lays out is laid out as it has it: the frame, multi-byte fields high byte first, status, event, situation and
mode codes, the pane record, the fields of the reports and the shares of READ CAMERA in their order (R162, R168, R169, R173).
Otherwise a body holds its fields in the order in which its rule names them, a number up to 255 in one byte, a larger one in
two, and a count or a sum above 65535 in four; a value that may be absent stands after a mark (DEDUCED, log 5). A code the
manual does not give is a constant of `Config`. -/

namespace Sys2Proof.Config

opaque healthByte : Machine.Health → Byte
opaque linkStateByte : Machine.LinkState → Byte
opaque linkCauseByte : Machine.LinkCause → Byte
opaque forceCauseByte : Machine.ForceCause → Byte
opaque gridStateByte : Machine.GridState → Byte
opaque channelStateByte : Machine.ChannelState → Byte
opaque segStateByte : Machine.SegState → Byte
opaque clarityStateByte : Machine.ClarityState → Byte
opaque zoneStateByte : Machine.ZoneState → Byte

/-- The byte of a pending change: NONE, SET, DROP (R98). -/
opaque noChangeByte : Byte
opaque setByte : Byte
opaque dropByte : Byte

/-- The byte of a result's validity: VALID, or INVALID with cause SMALL or ERRORED (R96). -/
opaque validByte : Byte
opaque smallByte : Byte
opaque erroredByte : Byte

end Sys2Proof.Config

namespace Sys2Proof.Machine

/-! ## Fields -/

/-- A value that may be absent: a mark, and the value's bytes where it is present (R3, log 5). -/
def maybeBytes {α : Type} (bytes : α → List Byte) : Option α → List Byte
  | some x => Config.flagByte true :: bytes x
  | none => [Config.flagByte false]

/-- An id, a code or a number of one byte, of a finite type. -/
def idBytes {n : Nat} (k : Fin n) : List Byte := [oneByte k.val]

/-- A signed number of one byte, in two's complement (DEDUCED, log 5). -/
def signedByte (x : Int) : Byte := BitVec.ofInt 8 x

/-- A source's bytes: camera, grid (Chapter 4, 4.1). -/
def PaneSource.bytes (p : PaneSource) : List Byte := [oneByte p.camera.val, oneByte p.grid.val]

/-- A pane record in full, each group preceded by its mark (R67, R169). -/
def Pane.bytes (p : Pane) : List Byte :=
  let g := p.geometry
  Config.flagByte true :: [g.x, g.y, g.w, g.h].flatMap (highFirst 2)
    ++ Config.flagByte true :: p.primary.bytes
    ++ maybeBytes PaneSource.bytes p.alternate
    ++ Config.flagByte true :: (p.list.map fun l => oneByte l.val).getD Config.noneList :: Config.flagByte p.mirror
      :: colourBytes p.border ++ [oneByte p.label.val]

/-! ## The frames the part sends (R162, R166, R168) -/

/-- The code of a status (R166). -/
def statusCode : Status → Nat
  | .ok => 0
  | .okClamped => 1
  | .badKind => 2
  | .badLength => 3
  | .badValue => 4
  | .badState => 5
  | .notFound => 6
  | .noRoom => 7
  | .overlap => 8
  | .gridFit => 9
  | .full => 10

/-- The KIND of a report (R168). -/
def reportKind : Report → Byte
  | .health _ _ _ _ => 0x40
  | .link _ _ _ => 0x41
  | .view _ _ _ => 0x42
  | .hazard _ _ => 0x43
  | .tablesLive => 0x44
  | .display _ _ => 0x45
  | .forceEnded _ _ _ _ => 0x46

/-- KIND and TAG of a frame that is sent; a report has TAG 0 (R162, R166, R168). -/
def TxFrame.kindTag : TxFrame → Byte × Byte
  | .reply r => (r.kind, r.tag)
  | .report r => (reportKind r, 0)

/-- A frame around a body (R162). -/
def frameBytes (kind tag : Byte) (body : List Byte) : List Byte :=
  let covered := BitVec.ofNat 8 body.length :: kind :: tag :: body
  let check := linkCheck covered
  0xC3 :: covered ++ [check.extractLsb' 8 8, check.extractLsb' 0 8]

/-- The code of a statistics event (R174). -/
def eventCode : StatEvent → Nat
  | .none => 0
  | .segmentError => 1
  | .frameGap => 2
  | .frameTruncated => 3
  | .linkLost => 4
  | .retrain => 5
  | .paneAlt => 6
  | .controlDiscard => 7
  | .reportLost => 8

/-- The code of an operating mode (R176). -/
def modeCode : OpMode → Nat
  | .config => 0
  | .run => 1
  | .standby => 2

/-- The byte of a situation's code (R137). -/
def situationByte (sit : Situation) : Byte := oneByte (situationCode sit).val

/-- The body of a report, its fields in the order of R168. -/
def Report.body : Report → List Byte
  | .health c old new n => [oneByte c.val, Config.healthByte old, Config.healthByte new, oneByte n]
  | .link c state cause => [oneByte c.val, Config.linkStateByte state, Config.linkCauseByte cause]
  | .view shown sit forced => [oneByte shown.val, situationByte sit, Config.flagByte forced]
  | .hazard flag zones => Config.flagByte flag :: zones.flatMap fun z => [oneByte z.1.val, oneByte z.2.val]
  | .tablesLive => []
  | .display present counter => Config.flagByte present :: highFirst 2 counter.toNat
  | .forceEnded v ceiling cause sit =>
    [oneByte v.val, oneByte ceiling.val, Config.forceCauseByte cause, situationByte sit]

/-- A view as READ TABLE returns it: background, view label glyph, six slots (R67). -/
def View.bytes (v : View) : List Byte :=
  colourBytes v.background ++ [oneByte v.label.val]
    ++ v.panes.toList.flatMap fun p => (p.map Pane.bytes).getD Config.absentSlot

/-- An item of READ TABLE (R67). -/
def TableShare.bytes : TableShare → List Byte
  | .view v => v.bytes
  | .map m => m.toList.map fun v => oneByte v.val
  | .list l => l.map fun k => oneByte k.val

/-- A counter as COUNTER READ returns it: event, mask, count; bit n of the mask is camera n's entry (R175, log 5). -/
def Counter.bytes (c : Counter) : List Byte :=
  [oneByte (eventCode c.event), oneByte c.mask.toNat] ++ highFirst 4 c.count

/-! ## The data of a reply -/

/-- A trigger mask, bits 0 to 3 HAZARD, CAMERA_DOWN, OBSCURED, NO_DATA (R153, log 5). -/
def triggerByte (m : TriggerMask) : Byte :=
  BitVec.ofNat 8 (m.hazard.toNat + 2 * m.cameraDown.toNat + 4 * m.obscured.toNat + 8 * m.noData.toNat)

/-- The values of group 0 as stored (R170). -/
def linkBytes (p : LinkParams) : List Byte :=
  highFirst 2 p.announceWaitMs ++ highFirst 2 p.trainWaitMs
    ++ [p.trainTolerance, p.retrainThreshold, p.retrainFrames].map oneByte

/-- The values of group 7 as stored (R139, R170). -/
def situationBytes (p : SituationParams) : List Byte :=
  highFirst 2 p.vehTimeout ++ highFirst 2 p.turnDwell ++ highFirst 2 p.viewMinDwell
    ++ [p.liftSpeed, p.turnSpeed, p.creepEnter, p.creepLeave].map oneByte

/-- A clarity mode and its partner, absent in FIXED (R115, R116). -/
def ClarityMode.bytes : ClarityMode → List Byte
  | .fixed => Config.clarityByte .fixed :: maybeBytes idBytes (none : Option Cam)
  | .paired partner => Config.clarityByte .paired :: maybeBytes idBytes (some partner)

/-- A seam pair's record: windows a and b, flag, correction, correction camera (R108, R109). -/
def SeamPair.bytes (p : SeamPair) : List Byte :=
  maybeBytes idBytes p.windowA ++ maybeBytes idBytes p.windowB
    ++ [Config.flagByte p.enabled, signedByte p.correction] ++ maybeBytes idBytes p.camera

/-- A channel's share of STATUS: state, cycle count, combined trigger (R153, R172). -/
def ChannelShare.bytes (c : ChannelShare) : List Byte :=
  [Config.channelStateByte c.state, oneByte c.cycles, Config.flagByte c.trigger]

/-- STATUS, in the order of R172; the requested view follows the shown view (R140, log 22). -/
def StatusShare.bytes (s : StatusShare) : List Byte :=
  oneByte (modeCode s.mode) :: s.links.toList.map Config.linkStateByte ++ s.health.toList.map Config.healthByte
    ++ [situationByte s.situation, oneByte s.shown.val, oneByte s.requested.val, Config.flagByte s.forced,
      Config.flagByte s.hazard]
    ++ s.blink.bytes ++ s.buzz.bytes ++ [Config.flagByte s.silenced, Config.flagByte s.display]
    ++ highFirst 2 s.counter.toNat ++ [oneByte s.lost]

/-- An entry of the segment table summary: state, age, last good frame number (R33). -/
def SegEntry.bytes (e : SegEntry) : List Byte :=
  [Config.segStateByte e.state, oneByte e.age] ++ maybeBytes (fun n => [n]) e.lastGood

/-- The port's share of READ CAMERA: link state, mode, exposure index, type code, maximum exposure index (R3). -/
def CameraShare.portBytes (s : CameraShare) : List Byte :=
  Config.linkStateByte s.link :: maybeBytes (fun m => [oneByte (camModeCode m)]) s.mode
    ++ oneByte s.exposure :: maybeBytes (fun k => [k]) s.typeCode ++ maybeBytes (fun n => [oneByte n]) s.maxExposure

/-- The store's share of READ CAMERA: health, entries in each state in the order of 2.3, stale-or-empty count, entries (R33,
R39). -/
def CameraShare.storeBytes (s : CameraShare) : List Byte :=
  Config.healthByte s.health :: [s.numEmpty, s.numFresh, s.numHeld, s.numStale, s.staleOrEmpty].map oneByte
    ++ s.table.flatMap SegEntry.bytes

/-- The tone controller's share of READ CAMERA; a count stands before the corrections (R113, log 5). -/
def CameraShare.toneBytes (s : CameraShare) : List Byte :=
  highFirst 2 s.gain ++ [s.black, s.target, s.effective, s.high, s.low, s.settle].map oneByte
    ++ oneByte s.corrections.length :: s.corrections.flatMap fun k => [oneByte k.1.val, signedByte k.2]

/-- The clarity monitor's share of READ CAMERA (R121). -/
def CameraShare.clarityBytes (s : CameraShare) : List Byte :=
  s.clarityMode.bytes ++ oneByte s.level :: Config.clarityStateByte s.clarity :: [s.lowCount, s.clearCount].map oneByte

/-- READ CAMERA: the shares in the order of R173. -/
def CameraShare.bytes (s : CameraShare) : List Byte := s.portBytes ++ s.storeBytes ++ s.toneBytes ++ s.clarityBytes

/-- A role's code, and for WATCH the level and the arming mask (R98). -/
def Role.bytes : Role → List Byte
  | .tone => [Config.roleByte .tone]
  | .clarity => [Config.roleByte .clarity]
  | .seam => [Config.roleByte .seam]
  | .watch level arming => [Config.roleByte .watch, oneByte level, arming]

/-- A definition: camera, rectangle, step, role (5.1, R98). -/
def WindowDef.bytes (d : WindowDef) : List Byte :=
  oneByte d.camera.val :: [d.left, d.top, d.right, d.bottom].flatMap (highFirst 2) ++ oneByte d.step :: d.role.bytes

/-- A pending change: NONE, DROP, or SET with its definition (R98). -/
def PendingChange.bytes : PendingChange → List Byte
  | .none => [Config.noChangeByte]
  | .drop => [Config.dropByte]
  | .set d => Config.setByte :: d.bytes

/-- The measures of a valid result, in the order of R96. -/
def Measures.bytes (m : Measures) : List Byte :=
  highFirst 4 m.sum ++ highFirst 4 m.count ++ oneByte m.mean :: highFirst 4 m.contrastSum ++ highFirst 4 m.contrastCount
    ++ oneByte m.contrast :: m.blocks.map oneByte

/-- A result, in the order of R96. -/
def MeterResult.bytes (r : MeterResult) : List Byte :=
  let front := fun valid => [oneByte r.camera.val, r.frame, oneByte r.exposure, valid, Config.flagByte r.first]
  match r.verdict with
  | .small => front Config.smallByte
  | .errored => front Config.erroredByte
  | .valid m => front Config.validByte ++ m.bytes

/-- The zone watch's share of READ METER, in the order of R130. -/
def ZoneShare.bytes (z : ZoneShare) : List Byte :=
  [Config.zoneStateByte z.state, Config.flagByte z.armed, oneByte z.count] ++ maybeBytes (highFirst 2) z.hold
    ++ Config.flagByte z.valid :: maybeBytes (fun n => [oneByte n]) z.exposure

/-- READ METER, in the order of R98, the zone watch's share after the metering unit's (R130). -/
def MeterShare.bytes (m : MeterShare) : List Byte :=
  maybeBytes WindowDef.bytes m.active ++ m.change.bytes ++ Config.flagByte m.measuring
    :: maybeBytes MeterResult.bytes m.result ++ maybeBytes ZoneShare.bytes m.zone

/-- The data of a reply; that of SET PARAMETERS is the group's values as stored, after the camera or the channel of a group that
has one (log 5) (R49, R67, R109, R147, R148, R157, R169, R170, R172, R173, R175, R176). -/
def ReplyData.bytes : ReplyData → List Byte
  | .none => []
  | .identity vendor part revision => highFirst 2 vendor ++ highFirst 2 part ++ [oneByte revision]
  | .status s => s.bytes
  | .link p => linkBytes p
  | .store p => [p.holdLimit, p.degradeLimit, p.freezeLimit].map oneByte
  | .tone c target black => [c.val, target, black].map oneByte
  | .toneLimits p => [p.satFrames, p.exposureSettle].map oneByte
  | .clarity c m level => oneByte c.val :: m.bytes ++ [oneByte level]
  | .clarityLimits p => [p.clrStep, p.validLo, p.validHi, p.obscureFrames, p.clearFrames].map oneByte
  | .zone p => [p.actStep, p.actFrames].map oneByte ++ highFirst 2 p.actHold
  | .situation p => situationBytes p
  | .cadence ch on off burst mask t =>
    Config.channelByte ch :: highFirst 2 on ++ highFirst 2 off ++ [oneByte burst, triggerByte mask, oneByte t]
  | .seam p inForce => p.bytes ++ [Config.flagByte inForce]
  | .grid state written free => Config.gridStateByte state :: highFirst 2 written ++ highFirst 2 free
  | .shape points free => oneByte points :: highFirst 2 free
  | .freePoints free => highFirst 2 free
  | .vehicle sit requested => [situationByte sit, oneByte requested.val]
  | .buzz state => [Config.channelStateByte state]
  | .camera s => s.bytes
  | .meter s => s.bytes
  | .table item applyPending => (item.map TableShare.bytes).getD [] ++ [Config.flagByte applyPending]
  | .counters cs => cs.toList.flatMap Counter.bytes
  | .mode m => [oneByte (modeCode m)]

/-- The body of a frame that is sent: a reply's status byte and its data, or a report's fields (R166, R168). -/
def TxFrame.body : TxFrame → List Byte
  | .reply r => oneByte (statusCode r.status) :: r.data.bytes
  | .report r => r.body

/-- The bytes of a frame that is sent (R162). -/
def TxFrame.bytes (f : TxFrame) : List Byte := frameBytes f.kindTag.1 f.kindTag.2 f.body

end Sys2Proof.Machine
end

