-- ==== Sys2Proof/Machine/Control.lean ====
section
/-! DEFINITION. The control link (Chapter 10): the receiver, request arrivals, the transmitter, IDENTIFY, STATUS, the
statistics counters and requests of no known KIND. -/

namespace Sys2Proof.Machine

/-! ## The receiver (R163, R164) -/

/-- A complete frame's CHECK matches (R162). The check of a frame with a byte that lacks its stop bit, the second check byte
among them, fails (R161). -/
def Receiver.checkHolds (rx : Receiver) (high : Byte) (low : LineByte) : Bool :=
  !rx.damaged && low.stop && linkCheck (BitVec.ofNat 8 rx.len :: rx.kind :: rx.tag :: rx.body) = high ++ low.value

/-- The second check byte completes the frame: a request arrival, or CONTROL_DISCARD (R163, R164). -/
def Control.complete (k : Control) (high : Byte) (low : LineByte) : Control :=
  let k1 := { k with rx := .initial }
  if k.rx.checkHolds high low then k1.arrive (readRequest k.rx.kind k.rx.tag k.rx.body) k.rx.kind k.rx.tag
  else k1.countEvents .controlDiscard none 1

/-- A byte of a frame stored: the phase moves on, the byte gap timer restarts, and a byte without its stop bit damages the
frame (R161, R163). -/
def Receiver.stored (rx : Receiver) (next : RxPhase) (stop : Bool) : Receiver :=
  { rx with phase := next, gap := some 10, damaged := rx.damaged || !stop }

/-- A byte that does not complete a frame, by the receiver's phase (R163). -/
def Receiver.take (rx : Receiver) (b : LineByte) : Receiver :=
  match rx.phase with
  | .hunt => if b.value = 0xC3 then Receiver.initial.stored .length b.stop else rx
  | .length => if 240 < b.value.toNat then .initial else { rx.stored .kind b.stop with len := b.value.toNat }
  | .kind => { rx.stored .tag b.stop with kind := b.value }
  | .tag => { rx.stored (if rx.len = 0 then .check else .body) b.stop with tag := b.value }
  | .body =>
    let body := rx.body ++ [b.value]
    { rx.stored (if rx.len ≤ body.length then .check else .body) b.stop with body := body }
  | .check => { rx.stored .check b.stop with checkHigh := some b.value }

/-- A byte arrives (R163). -/
def Control.receive (k : Control) (b : LineByte) : Control :=
  match k.rx.phase, k.rx.checkHigh with
  | .check, some high => k.complete high b
  | _, _ => { k with rx := k.rx.take b }

/-- The second check byte arrives; where the receiver does not wait for it, no frame is complete and nothing happens
(R163, log 1). -/
def Control.completeWith (k : Control) (b : LineByte) : Control :=
  match k.rx.phase, k.rx.checkHigh with
  | .check, some high => k.complete high b
  | _, _ => k

/-- Byte gap timer expiry; a timer that has stopped or that a byte has restarted does not expire (R163, log 1). -/
def Control.gapExpires (k : Control) : Control :=
  if k.rx.gap = some 0 then { k with rx := .initial }.countEvents .controlDiscard none 1 else k

/-! ## The transmitter (R167) -/

/-- The bytes on the line: the frame being sent, none while the line is idle (R162, R167). -/
def Control.line (k : Control) : Option (List Byte) := k.sending.map TxFrame.bytes

/-- The frame being sent ends and the next one starts (R167). -/
def Control.sendEnd (k : Control) : Control :=
  if k.sending.isSome then { k with sending := none }.startNext else k

/-! ## Requests of the control link itself -/

/-- The effect of IDENTIFY (R172). -/
def identify (_ : Unit) (s : State) : Answer := ⟨.ok, .identity 0x47A1 6420 1, s⟩

/-- A channel's share of STATUS (R153). -/
def Channel.share (ch : Channel) : ChannelShare := ⟨ch.state, ch.cycles, ch.trigger⟩

/-- What STATUS returns (R172), with the requested view as it is read for STATUS (R140, log 22). -/
def State.statusShare (s : State) : StatusShare where
  mode := s.mode
  links := mapTable Port.link s.ports
  health := mapTable CamStore.health s.stores
  situation := s.selector.situation
  shown := s.selector.shown
  requested := requestedView s.selector s.views.live
  forced := s.selector.force.isSome
  hazard := s.zones.hazard
  blink := s.cadence.blink.share
  buzz := s.cadence.buzz.share
  silenced := s.cadence.buzz.silenced
  display := s.display.present
  counter := s.display.counter
  lost := s.control.lost

/-- The effect of STATUS: the report lost count becomes 0 once it has been read (R168, R172). -/
def status (_ : Unit) (s : State) : Answer :=
  ⟨.ok, .status s.statusShare, { s with control := { s.control with lost := 0 } }⟩

/-- The effect of COUNTER SELECT (R175). -/
def counterSelect (f : CounterFields) (s : State) : Answer :=
  match index? 4 f.counter, eventOf? f.event with
  | some i, some e =>
    ⟨.ok, .none, { s with control := { s.control with counters := put s.control.counters i ⟨e, f.mask, 0⟩ } }⟩
  | _, _ => refuse .badValue s

/-- The effect of COUNTER READ (R175). -/
def counterRead (_ : Unit) (s : State) : Answer := ⟨.ok, .counters s.control.counters, s⟩

/-- A request of no known KIND gives BAD_KIND; one of a known KIND whose selector is undefined gives BAD_VALUE, which for
MODE carries the operating mode (R165, R176). -/
def unknownRequest (kind : Byte) (s : State) : Answer :=
  if kind = 0x03 ∨ kind = 0x04 then refuse .badValue s
  else if kind = 0x1D then ⟨.badValue, .mode s.mode, s⟩
  else refuse .badKind s

/-- The queues, the lost count and the counts at RESTART (R171). -/
def Control.restarted (k : Control) : Control :=
  { k with requests := [], reports := [], lost := 0, counters := mapTable (fun ctr => { ctr with count := 0 }) k.counters }

/-- The control link with nothing being sent and nothing waiting to be sent (R179). -/
def Control.hushed (k : Control) : Control := { k with sending := none, replies := [], reports := [] }

/-! ## The commands -/

/-- BYTE_GAP_TIMER_EXPIRY (R163). -/
def execByteGapTimerExpiry (s : State) : Outcome := unlessHeld s fun t => { t with control := t.control.gapExpires }

/-- CONTROL_FRAME_COMPLETE (R163). -/
def execControlFrameComplete (b : LineByte) (s : State) : Outcome :=
  unlessHeld s fun t => { t with control := t.control.completeWith b }

/-- FRAME_SEND_END (R167). -/
def execFrameSendEnd (s : State) : Outcome := unlessHeld s fun t => { t with control := t.control.sendEnd }

/-- UNKNOWN_REQUEST (R165). -/
def execUnknownRequest (kind tag : Byte) (s : State) : Outcome :=
  request (.unknownRequest kind tag) kind tag (unknownRequest kind) s

/-- IDENTIFY (R172). -/
def execIdentify (tag : Byte) (b : Body Unit) (s : State) : Outcome :=
  request (.identify tag b) 0x01 tag (Body.run b identify) s

/-- STATUS (R172). -/
def execStatus (tag : Byte) (b : Body Unit) (s : State) : Outcome :=
  request (.status tag b) 0x02 tag (Body.run b status) s

/-- COUNTER_SELECT (R175). -/
def execCounterSelect (tag : Byte) (b : Body CounterFields) (s : State) : Outcome :=
  request (.counterSelect tag b) 0x1B tag (Body.run b counterSelect) s

/-- COUNTER_READ (R175). -/
def execCounterRead (tag : Byte) (b : Body Unit) (s : State) : Outcome :=
  request (.counterRead tag b) 0x1C tag (Body.run b counterRead) s

/-- BYTE_RECEIVED (R163). -/
def execByteReceived (b : LineByte) (s : State) : Outcome :=
  unlessHeld s fun t => { t with control := t.control.receive b }

end Sys2Proof.Machine
end

