-- ==== Sys2Proof/Machine/Records.lean ====
section
/-! DEFINITION. The records of the camera links as bytes, and the 16-bit check over a record's body (R5).

R5 names a body's fields and takes the body byte by byte. The fields stand in the order in which R5 names them, each number in
one byte and each pixel in three (DEDUCED, log 16). A record's kind is delimited with it and is not covered by the check (R7). -/

namespace Sys2Proof.Config

opaque acceptByte : Byte
opaque retryByte : Byte
opaque upByte : Byte
opaque downByte : Byte

end Sys2Proof.Config

namespace Sys2Proof

/-! ## Records of the camera (R5) -/

/-- The bytes of an ANNOUNCE record's body: type code, maximum exposure index, mode list. -/
def AnnounceRecord.bytes (r : AnnounceRecord) : List Byte :=
  r.typeCode :: Machine.oneByte r.maxExposure :: r.modes.map Machine.oneByte

/-- The bytes of a TRAIN SEGMENT record's body: segment index, training pattern. -/
def TrainRecord.bytes (r : TrainRecord) : List Byte := Machine.oneByte r.index :: r.pattern

/-- The bytes of a FRAME HEADER record's body: frame number, mode code, exposure index. -/
def HeaderRecord.bytes (h : HeaderRecord) : List Byte := [h.number, Machine.oneByte h.mode, Machine.oneByte h.exposure]

end Sys2Proof

namespace Sys2Proof.Machine

/-- The bytes of a SEGMENT record's body: segment index, then its lines from the top, each pixel as Y, Cb, Cr. -/
def segmentBytes (i : Nat) (body : SegmentBody) : List Byte := oneByte i :: body.flatten.flatMap colourBytes

/-- A record's check holds: it is the check over the bytes of the record's body (R5). -/
def checkGood (bytes : List Byte) (check : BitVec 16) : Bool := linkCheck bytes = check

/-! ## Records of the port (R5) -/

/-- The kinds of the records of the back channel (R5). -/
inductive BackKind where
  | solicit | offer | trainResult | exposureStep | release
deriving DecidableEq, Repr

/-- The kind of a back-channel record (R5). -/
def BackRecord.kind : BackRecord → BackKind
  | .solicit => .solicit
  | .offer _ => .offer
  | .accept | .retry => .trainResult
  | .exposureUp | .exposureDown => .exposureStep
  | .release => .release

/-- The bytes of a back-channel record's body: none for SOLICIT and RELEASE, the mode code for OFFER, and the codes of ACCEPT,
RETRY, UP and DOWN, which the manual does not give (R5, log 16). -/
def BackRecord.body : BackRecord → List Byte
  | .solicit | .release => []
  | .offer m => [oneByte (camModeCode m)]
  | .accept => [Config.acceptByte]
  | .retry => [Config.retryByte]
  | .exposureUp => [Config.upByte]
  | .exposureDown => [Config.downByte]

/-- The check of a back-channel record, over its body (R5). -/
def BackRecord.check (r : BackRecord) : BitVec 16 := linkCheck r.body

/-- The bytes of a back-channel record: its body, then its check, high byte first (R5). -/
def BackRecord.bytes (r : BackRecord) : List Byte := r.body ++ highFirst 2 r.check.toNat

/-- What the back channel of a port sends: the kind and the bytes of the record it is sending (R5, R6). -/
def Port.backLine (p : Port) : Option (BackKind × List Byte) := p.backSending.map fun r => (r.kind, r.bytes)

end Sys2Proof.Machine
end

