-- ==== Sys2Proof/Machine/Store.lean ====
section
/-! DEFINITION. The segment store (Chapter 2): banks, segment table, freeze count, the latch, and the request SET PARAMETERS
of the store group. -/

namespace Sys2Proof.Machine

/-! ## Banks -/

/-- The other bank. -/
def Bank.other : Bank → Bank
  | .bank0 => .bank1
  | .bank1 => .bank0

/-- The key of a bank of a segment in the store's list. -/
def bankKey (segment : Nat) (b : Bank) : Nat :=
  2 * segment + match b with
    | .bank0 => 0
    | .bank1 => 1

/-- The shown bank of a segment (2.2). -/
def shownBank (shown : Vector Bank 50) (segment : Nat) : Bank := (shown[segment]?).getD .bank0

/-- What a key holds, where something has been written since power-on. -/
def readCell : List BankCell → Nat → Option SegmentBody
  | [], _ => none
  | x :: rest, key => if x.key = key then some x.lines else readCell rest key

/-- A key's contents replaced, the keys kept rising. -/
def writeCell : List BankCell → Nat → SegmentBody → List BankCell
  | [], key, lines => [⟨key, lines⟩]
  | x :: rest, key, lines =>
    if key < x.key then ⟨key, lines⟩ :: x :: rest
    else if key = x.key then ⟨key, lines⟩ :: rest
    else x :: writeCell rest key lines

/-- The canonical form of a list of banks: keys strictly rising. -/
def banksWf : List BankCell → Bool
  | [] => true
  | [_] => true
  | x :: y :: rest => x.key < y.key && banksWf (y :: rest)

/-- The pixel at column `x` of line `line` of a body written under `key`; a place the body does not fill, or a bank that
nothing has written, is a free value (R25, log 9). -/
def cellPixel (epoch : Nat) (c : Cam) (key : Nat) (body : Option SegmentBody) (line x : Nat) : Pixel :=
  ((body.bind fun b => b[line]?).bind fun l => l[x]?).getD (Config.undefinedPixel epoch c key line x)

/-- A segment's body goes into its pending bank (R26). -/
def CamStore.write (st : CamStore) (segment : Nat) (body : SegmentBody) : CamStore :=
  { st with banks := writeCell st.banks (bankKey segment (shownBank st.shown segment).other) body }

/-! ## Segment table -/

/-- An EMPTY entry (2.3). -/
def SegEntry.blank : SegEntry := ⟨.empty, 0, none⟩

/-- The camera's segment table is emptied to `n` entries, and every shown bank is bank 0 (R31). -/
def CamStore.emptied (st : CamStore) (n : Nat) : CamStore :=
  { st with table := List.replicate n .blank, shown := Vector.replicate 50 .bank0 }

/-- One entry at a frame close (R29). -/
def SegEntry.close (e : SegEntry) (holdLimit : Nat) (frame : Byte) (good : Bool) : SegEntry :=
  if good then ⟨.fresh, 0, some frame⟩
  else
    match e.state with
    | .empty => .blank
    | .stale => { e with age := min 15 (e.age + 1) }
    | .fresh | .held =>
      let age := min 15 (e.age + 1)
      { e with age := age, state := if age ≤ holdLimit then .held else .stale }

/-- The store at a frame close: the good segments' banks toggle, every entry is updated, the freeze count is 0
(R27, R29, R35). -/
def CamStore.close (st : CamStore) (holdLimit : Nat) (frame : Byte) (map : List Bool) : CamStore :=
  { st with
    shown := Vector.ofFn fun k => if map[k.val]? = some true then (look st.shown k).other else look st.shown k
    table := st.table.mapIdx fun k e => e.close holdLimit frame (map[k]? = some true)
    freeze := 0 }

/-- One entry when HOLD_LIMIT changes: a HELD entry of a greater age turns STALE (R30). -/
def SegEntry.hold (e : SegEntry) (holdLimit : Nat) : SegEntry :=
  if e.state = .held ∧ holdLimit < e.age then { e with state := .stale } else e

/-! ## Output frame start -/

/-- The freeze count rises while the port is STREAMING (R34). -/
def CamStore.raiseFreeze (st : CamStore) (link : LinkState) : CamStore :=
  if link = .streaming then { st with freeze := min 15 (st.freeze + 1) } else st

/-- The cells of the shown banks (R40). -/
def shownCells (shown : Vector Bank 50) (banks : List BankCell) : List BankCell :=
  banks.filter fun x => x.key = bankKey (x.key / 2) (shownBank shown (x.key / 2))

/-- The latch of a camera (R40). -/
def CamStore.takeLatch (st : CamStore) (mode : Option CamMode) : CamStore :=
  { st with latch := ⟨st.table, mode, st.shown, shownCells st.shown st.banks, st.health⟩ }

/-- Freeze counts rise, health is re-derived camera by camera, and every camera is latched (R34, R37, R40). -/
def State.storeFrameStart (s : State) : State :=
  let s1 := allCams.foldl (fun t c => (t.setStore c ((t.store c).raiseFreeze (t.port c).link)).rederive c) s
  { s1 with stores := Vector.ofFn fun c => (s1.store c).takeLatch (s1.port c).mode }

/-! ## SET PARAMETERS, store group -/

/-- SET PARAMETERS of the store group (R30, R38, R170). Where it changes the health of several cameras, their HEALTH reports
enter the queue in the order camera 0 to 3 (DESIGN CHOICE, log 11). -/
def setParametersStore (p : StoreParams) (s : State) : Answer :=
  let q := clampStore p
  let s1 := { s with
    params := { s.params with store := q }
    stores := mapTable (fun st => { st with table := st.table.map fun e => e.hold q.holdLimit }) s.stores }
  ⟨statusOf (q ≠ p), .store q, allCams.foldl (fun t c => t.rederive c) s1⟩

/-! ## The commands -/

/-- SET_PARAMETERS_STORE (R30, R38). -/
def execSetParametersStore (tag : Byte) (b : Body StoreParams) (s : State) : Outcome :=
  request (.setParametersStore tag b) 0x03 tag (Body.run b setParametersStore) s

end Sys2Proof.Machine
end

