-- ==== Sys2Proof/Machine/Tone.lean ====
section
/-! DEFINITION. The tone controller (Chapter 6): seam pairs, gain loop, saturation, exposure steps, and the requests SET
PARAMETERS of the tone groups and SEAM SET. The back channel's operation of issuing a record stands here too (R6). -/

namespace Sys2Proof.Machine

/-- A port issues a record on the back channel: it is sent, or waits its turn; without carrier it is discarded (R6). -/
def Port.issue (p : Port) (r : BackRecord) : Port :=
  if !p.carrier then p
  else if p.backSending = none then { p with backSending := some r }
  else { p with backWaiting := p.backWaiting ++ [r] }

/-- The tone of stage 7 on a luminance: gain in units of 1/256, black offset (R57, R111). -/
def toneLevel (y gain black : Nat) : Nat :=
  if y ≤ black then 0 else min 255 (((y - black) * gain + 128) / 256)

/-- An integer clamped to `lo`–`hi`. -/
def clampInt (lo hi x : Int) : Int := min hi (max lo x)

/-! ## Seam pairs (R110, R111) -/

/-- The correction from the brightness the driver sees at the two windows (R111). -/
def seamCorrection (la lb : Nat) : Int := clampInt (-24) 24 (((la : Int) - lb).tdiv 2)

/-- One enabled pair at a frame close of camera `c` (R110). -/
def State.seamClose (s : State) (c : Cam) (p : SeamPair) : SeamPair :=
  if !p.enabled then p
  else
    match seamInForce s.windows p, p.windowA, p.windowB with
    | some (ca, cb), some a, some b =>
      if cb ≠ c then
        if p.camera.all (· = cb) then p else { p with correction := 0, camera := none }
      else
        let q := if p.camera = some c then p else { p with correction := 0, camera := some c }
        match (s.window a).valid?, (s.window b).valid? with
        | some ma, some mb =>
          let la := toneLevel ma.mean (s.tone ca).gain (s.tone ca).black
          let lb := toneLevel mb.mean (s.tone cb).gain (s.tone cb).black
          { q with correction := seamCorrection la lb }
        | _, _ => q
    | _, _, _ => { p with correction := 0, camera := none }

/-- The corrections that act on camera `c` (R103, R108). -/
def seamSum (seams : Vector SeamPair 4) (c : Cam) : Int :=
  (seams.toList.map fun p => if p.enabled ∧ p.camera = some c then p.correction else 0).sum

/-! ## Gain loop (R102 to R106) -/

/-- The tone mean of camera `c` from its VALID TONE windows; `none` holds the loop (R102). -/
def toneMean? (ws : Vector Window 16) (c : Cam) : Option Nat :=
  let taking := allWindows.filterMap fun w =>
    if (look ws w).active.any (fun d => d.role = .tone ∧ d.camera = c) then (look ws w).valid? else none
  if taking.isEmpty then none
  else some ((taking.map (·.sum)).sum / (taking.map (·.count)).sum)

/-- The effective target (R103). -/
def effectiveTarget (target : Nat) (corrections : Int) : Nat := (clampInt 32 224 (target + corrections)).toNat

/-- The desired gain (R104). -/
def desiredGain (mean black effective : Nat) : Nat :=
  let e := max (mean - black) 1
  (effective * 256 + e / 2) / e

/-- The gain after one step towards the desired gain (R104). -/
def stepGain (gain desired : Nat) : Nat :=
  (clampInt 128 1023 ((gain : Int) + clampInt (-16) 16 ((desired : Int) - gain))).toNat

/-- Steps 3 and 4 of a frame close up to the test: the loop runs on a tone mean or holds (R102 to R105). -/
def Tone.loop (t : Tone) (mean : Option Nat) (corrections : Int) (satFrames : Nat) : Tone :=
  let effective := effectiveTarget t.target corrections
  match mean with
  | none => { t with effective := effective, high := min satFrames t.high, low := min satFrames t.low }
  | some m =>
    let desired := desiredGain m t.black effective
    let gain := stepGain t.gain desired
    { t with
      effective := effective
      gain := gain
      high := if gain = 1023 ∧ 1023 < desired then min satFrames (t.high + 1) else 0
      low := if gain = 128 ∧ desired < 128 then min satFrames (t.low + 1) else 0 }

/-- The saturation counts are tested: UP, DOWN or no exposure step is asked for (R106). -/
def Tone.exposureStep (t : Tone) (p : Port) (lim : ToneLimits) : Tone × Option BackRecord :=
  if t.high = lim.satFrames ∧ t.settle = 0 ∧ p.maxExposure.any (fun top => p.exposure < top) then
    ({ t with settle := lim.exposureSettle, high := 0 }, some .exposureUp)
  else if t.low = lim.satFrames ∧ t.settle = 0 ∧ 0 < p.exposure then
    ({ t with settle := lim.exposureSettle, low := 0 }, some .exposureDown)
  else (t, none)

/-- The port takes the tone controller's request in STREAMING and drops it in every other state (R24). -/
def Port.requestExposure (p : Port) (r : Option BackRecord) : Port :=
  match r with
  | some r => if p.link = .streaming then p.issue r else p
  | none => p

/-- The tone controller at a frame close of camera `c`: settle count, seam pairs, gain loop, saturation (6.2). -/
def State.toneClose (s : State) (c : Cam) : State :=
  let t := { s.tone c with settle := (s.tone c).settle - 1 }
  let seams := mapTable (s.seamClose c) s.seams
  let t := t.loop (toneMean? s.windows c) (seamSum seams c) s.params.toneLimits.satFrames
  let (t, ask) := t.exposureStep (s.port c) s.params.toneLimits
  ({ s with seams := seams }.setTone c t).setPort c ((s.port c).requestExposure ask)

/-- The port leaves STREAMING: the counts of its camera become 0 (R107). -/
def Tone.leaveStreaming (t : Tone) : Tone := { t with high := 0, low := 0, settle := 0 }

/-- The latch of G and B (R112). -/
def Tone.takeLatch (t : Tone) : Tone := { t with latchedGain := t.gain, latchedBlack := t.black }

/-- The values after RESTART (R100). -/
def Tone.restarted (t : Tone) : Tone :=
  { t with gain := 256, effective := t.target, high := 0, low := 0, settle := 0 }

/-! ## Requests -/

/-- SET PARAMETERS of the tone group (R101). -/
def setParametersTone (f : ToneFields) (s : State) : Answer :=
  match index? 4 f.camera with
  | none => refuse .badValue s
  | some c =>
    let target := clampTarget f.target
    let black := clampBlack f.black
    ⟨statusOf (target ≠ f.target ∨ black ≠ f.black), .tone c target black,
      s.setTone c { s.tone c with target := target, black := black }⟩

/-- SET PARAMETERS of the tone limits group (R101, R170). -/
def setParametersToneLimits (p : ToneLimits) (s : State) : Answer :=
  let q := clampToneLimits p
  ⟨statusOf (q ≠ p), .toneLimits q, { s with params := { s.params with toneLimits := q } }⟩

/-- SEAM SET (R109). -/
def seamSet (f : SeamFields) (s : State) : Answer :=
  match index? 4 f.pair, index? 16 f.windowA, index? 16 f.windowB with
  | some k, some a, some b =>
    if a = b then refuse .badValue s
    else
      let p : SeamPair := ⟨some a, some b, f.enabled, 0, none⟩
      ⟨.ok, .seam p (seamInForce s.windows p).isSome, { s with seams := put s.seams k p }⟩
  | _, _, _ => refuse .badValue s

/-! ## The commands -/

/-- SET_PARAMETERS_TONE (R101). -/
def execSetParametersTone (tag : Byte) (b : Body ToneFields) (s : State) : Outcome :=
  request (.setParametersTone tag b) 0x03 tag (Body.run b setParametersTone) s

/-- SET_PARAMETERS_TONE_LIMITS (R101). -/
def execSetParametersToneLimits (tag : Byte) (b : Body ToneLimits) (s : State) : Outcome :=
  request (.setParametersToneLimits tag b) 0x03 tag (Body.run b setParametersToneLimits) s

/-- SEAM_SET (R109). -/
def execSeamSet (tag : Byte) (b : Body SeamFields) (s : State) : Outcome :=
  request (.seamSet tag b) 0x07 tag (Body.run b seamSet) s

end Sys2Proof.Machine
end

