-- ==== Sys2Proof/Machine/Link.lean ====
section
/-! DEFINITION. The camera link ports (Chapter 1): link states, training, frame reception, frame close and downgrade, and the
requests of PORT CONTROL. -/

namespace Sys2Proof.Machine

/-! ## Port fields -/

/-- The segment count of the current mode, 0 while it is absent. -/
def Port.segments (p : Port) : Nat := (p.mode.map modeSegments).getD 0

/-- An open frame is abandoned: no frame, the working result map discarded (R22). -/
def Port.abandon (p : Port) : Port :=
  { p with phase := .noFrame, resultMap := List.replicate p.segments false }

/-- Announce and train timers stop. -/
def Port.stopTimers (p : Port) : Port := { p with announceTimer := none, trainTimer := none }

/-- A new wait for ANNOUNCE starts, with the expiry count at 0 (R13). -/
def Port.startWait (p : Port) (ms : Nat) : Port := { p with announceTimer := some ms, announceCount := 0 }

/-- The values of a port that goes OFF, with RELEASE issued where carrier is present; the link state follows with the
LINK report (R3, R6, R17). -/
def Port.offValues (p : Port) : Port :=
  let q : Port := { Port.initial p.carrier with
    enabled := p.enabled, preference := p.preference, link := p.link, backSending := p.backSending }
  q.issue .release

/-- Steps 2 to 5 of an offer of mode `m` (R12). -/
def Port.offer (p : Port) (m : CamMode) (ms : Nat) : Port :=
  let q : Port := { p with
    mode := some m, resultMap := List.replicate (modeSegments m) false
    trainExpected := 0, trainBad := 0, trainTimer := some ms }
  q.issue (.offer m)

/-! ## Link state changes -/

/-- What follows when the port of camera `c` leaves STREAMING: window results, saturation counts, zones
(R97, R107, R127). -/
def State.leaveStreaming (s : State) (c : Cam) : State :=
  let s1 := s.mapZonesOf c Zone.leaveStreaming
  { s1 with windows := mapTable (Window.leaveStreaming · c) s1.windows }.setTone c (s1.tone c).leaveStreaming

/-- The link state of port `c` changes: the LINK report, and health re-derived with every change of the event made
(R8, R37). -/
def State.setLink (s : State) (c : Cam) (new : LinkState) (cause : LinkCause) : State :=
  let s1 := if (s.port c).link = .streaming ∧ new ≠ .streaming then s.leaveStreaming c else s
  let s2 := s1.setPort c { s1.port c with link := new }
  (s2.queueReport (.link c new cause)).rederive c

/-- Port `c`, not OFF, goes OFF: its items, the camera's store, clarity state and zones (R17, R25, R31, R120, R127). The
hazard zone list is brought up to date by the event that takes the port, or the ports, OFF (R178). -/
def State.goOff (s : State) (c : Cam) (cause : LinkCause) : State :=
  let s1 := s.setPort c (s.port c).offValues
  let s2 := s1.setStore c { (s1.store c).emptied 0 with freeze := 0 }
  let s3 := s2.setClarity c (s2.clarity c).cleared
  let s4 := s3.mapZonesOf c fun _ => .initial
  (s4.setLink c .off cause).reform

/-- Port `c` goes OFF unless it is OFF. -/
def State.goOffUnlessOff (s : State) (c : Cam) (cause : LinkCause) : State :=
  if (s.port c).link = .off then s else s.goOff c cause

/-- Port `c` leaves OFF, where it is OFF and ENABLED and the part is in RUN (R17, R177). -/
def State.leaveOff (s : State) (c : Cam) : State :=
  let p := s.port c
  if s.mode = .run ∧ p.enabled ∧ p.link = .off then
    if p.carrier then
      (s.setPort c (p.startWait s.params.link.announceWaitMs)).setLink c .announceWait .enabled
    else s.setLink c .dark .enabled
  else s

/-- An offer of mode `m`: a change of mode empties the camera's segment table first (R12, R31). -/
def State.offer (s : State) (c : Cam) (m : CamMode) : State :=
  let s1 := if (s.port c).mode = some m then s else s.setStore c ((s.store c).emptied (modeSegments m))
  s1.setPort c ((s1.port c).offer m s.params.link.trainWaitMs)

/-- A new training sequence begins on mode `m`, at attempt 1; an open frame is abandoned first (R12, R22). -/
def State.beginSequence (s : State) (c : Cam) (m : CamMode) : State :=
  let s1 := (s.setPort c { (s.port c).abandon with announceTimer := none }).offer c m
  s1.setPort c { s1.port c with attempts := 1 }

/-- The port enters REFUSED: its timers stop and an open frame is abandoned (R9, R11, R13, R15). -/
def State.enterRefused (s : State) (c : Cam) (cause : LinkCause) : State :=
  (s.setPort c (s.port c).abandon.stopTimers).setLink c .refused cause

/-! ## Carrier (R13, R16) -/

/-- Carrier gain on port `c` (R4, R13). -/
def State.gainCarrier (s : State) (c : Cam) : State :=
  let p := { s.port c with carrier := true }
  if (s.port c).link = .dark ∨ (s.port c).link = .lost then
    (s.setPort c (p.startWait s.params.link.announceWaitMs)).setLink c .announceWait .carrier
  else s.setPort c p

/-- Carrier loss on port `c` (R6, R16). -/
def State.loseCarrier (s : State) (c : Cam) : State :=
  let p := { (s.port c).abandon.stopTimers with carrier := false, backSending := none, backWaiting := [] }
  let s1 := s.setPort c p
  match (s.port c).link with
  | .announceWait | .refused => s1.setLink c .dark .carrier
  | .training => ((s.setPort c { p with attempts := 0 }).count .linkLost c).setLink c .lost .carrier
  | .streaming => (s1.count .linkLost c).setLink c .lost .carrier
  | .off | .dark | .lost => s1

/-! ## ANNOUNCE (R10, R11) -/

/-- ANNOUNCE is taken: type code, maximum exposure, lists; then REFUSED or a new training sequence (R11). -/
def State.takeAnnounce (s : State) (c : Cam) (r : AnnounceRecord) : State :=
  let p := s.port c
  let announced := announcedModes r.modes
  let common := commonList p.preference announced
  let s1 := s.setPort c { p with
    typeCode := some r.typeCode, maxExposure := some (min 31 r.maxExposure)
    announceList := announced, common := common }
  match common with
  | [] => s1.enterRefused c .noCommonMode
  | m :: _ =>
    let s2 := s1.beginSequence c m
    if p.link = .training then s2 else s2.setLink c .training .announced

/-- An ANNOUNCE arrival: with a bad check, with no mode code or more than six, or in a link state that takes none, it is
discarded (R7, R11). -/
def State.announceArrives (s : State) (c : Cam) (r : AnnounceRecord) (good : Bool) : State :=
  let l := (s.port c).link
  if good ∧ 1 ≤ r.modes.length ∧ r.modes.length ≤ 6
      ∧ (l = .announceWait ∨ l = .training ∨ l = .streaming) then s.takeAnnounce c r
  else s

/-- Announce timer expiry on port `c`: it happens where the timer has run out (R13, log 1). -/
def State.announceExpires (s : State) (c : Cam) : State :=
  let p := s.port c
  if p.link = .announceWait ∧ p.announceTimer = some 0 then
    let n := p.announceCount + 1
    if n < 4 then
      let q : Port := { p with announceCount := n, announceTimer := some s.params.link.announceWaitMs }
      s.setPort c (q.issue .solicit)
    else (s.setPort c { p with announceCount := n }).enterRefused c .noAnnounce
  else s

/-! ## Training (R14, R15) -/

/-- The attempt of port `c` is judged (R15). -/
def State.judgeAttempt (s : State) (c : Cam) : State :=
  let p := { s.port c with trainTimer := none }
  if p.trainBad ≤ s.params.link.trainTolerance then
    let q : Port := { p.abandon with previous := none, badFrames := 0 }
    ((s.setPort c (q.issue .accept)).setStore c { s.store c with freeze := 0 }).setLink c .streaming .trained
  else
    let s1 := (s.setPort c (p.issue .retry)).count .retrain c
    if p.attempts < 4 then
      match p.mode with
      | none => s1
      | some m =>
        let s2 := s1.offer c ((nextLower? m p.common).getD m)
        s2.setPort c { s2.port c with attempts := p.attempts + 1 }
    else s1.enterRefused c .trainFail

/-- Training segment arrival (R14). -/
def State.trainSegment (s : State) (c : Cam) (i : Nat) (good : Bool) : State :=
  let p := s.port c
  if p.link ≠ .training then s
  else if i < p.trainExpected ∨ p.segments ≤ i then
    s.setPort c { p with trainBad := min 255 (p.trainBad + 1) }
  else
    let bad := min 255 (p.trainBad + (i - p.trainExpected) + if good then 0 else 1)
    let s1 := s.setPort c { p with trainBad := bad, trainExpected := i + 1 }
    if i + 1 = p.segments then s1.judgeAttempt c else s1

/-- Train timer expiry; it does not happen where the attempt has been judged since, which stops the timer or starts the next
attempt's (R15, log 1). -/
def State.trainExpires (s : State) (c : Cam) : State :=
  let p := s.port c
  if p.link = .training ∧ p.trainTimer = some 0 then
    (s.setPort c { p with trainBad := min 255 (p.trainBad + (p.segments - p.trainExpected)) }).judgeAttempt c
  else s

/-! ## Frame close (R21, R23) -/

/-- The segment store's event of a frame close (R27, R29, R35, R37). -/
def State.storeClose (s : State) (c : Cam) : State :=
  let p := s.port c
  (s.setStore c ((s.store c).close s.params.store.holdLimit p.frameNumber p.resultMap)).rederive c

/-- The store's and the clarity monitor's events of a frame close. Where the clarity state changes, the manual allows
either order, and the order is a free value (R37, log 10). -/
def State.storeAndClarityClose (s : State) (c : Cam) : State :=
  let cl := s.clarityClose c
  if cl.state = (s.clarity c).state then (s.setClarity c cl).storeClose c
  else
    let s1 := { s with choices := s.choices + 1 }
    if Config.storeActsFirst s.choices then (s1.storeClose c).judgeClarity c cl
    else (s1.judgeClarity c cl).storeClose c

/-- The downgrade judgement of a closed frame (R23). Where a lowered RETRAIN_FRAMES finds the counter at or above it, the
downgrade stores the counter at RETRAIN_FRAMES, the top of its range in R3, and not one above it (DESIGN CHOICE, log 22). -/
def State.judgeFrame (s : State) (c : Cam) : State :=
  let p := s.port c
  if p.resultMap.countP (! ·) ≤ s.params.link.retrainThreshold then s.setPort c { p with badFrames := 0 }
  else if p.badFrames + 1 < s.params.link.retrainFrames then s.setPort c { p with badFrames := p.badFrames + 1 }
  else
    match p.mode.bind fun m => nextLower? m p.common with
    | some m =>
      let s1 := (s.setPort c { p with badFrames := min s.params.link.retrainFrames (p.badFrames + 1) }).count .retrain c
      (s1.beginSequence c m).setLink c .training .downgrade
    | none => (s.setPort c { p with badFrames := 0 }).queueReport (.link c .streaming .noLowerMode)

/-- The frame close of camera `c` (R21): missing segments counted; window results; tone controller; store and clarity
monitor; zone watch; downgrade. The port's working result map keeps the closed frame's entries until the next header or
training sequence sets it anew; nothing reads it in between (DESIGN CHOICE, log 18). -/
def State.frameClose (s : State) (c : Cam) : State :=
  let p := s.port c
  let s1 := (s.setPort c { p with phase := .noFrame }).countTimes .segmentError c (p.segments - p.expected)
  let s2 := { s1 with windows := mapTable (Window.closeFrame · c p.frameNumber p.exposure p.resultMap) s1.windows }
  (((s2.toneClose c).storeAndClarityClose c).zoneClose c).judgeFrame c

/-! ## Frame reception (R18 to R20) -/

/-- Steps 3 to 5 of a header in the port's mode: gap, exposure index, open (R18, R91). -/
def State.openFrame (s : State) (c : Cam) (h : HeaderRecord) (m : CamMode) : State :=
  let p := s.port c
  let s1 := if p.previous.any (fun n => h.number ≠ n + 1) then s.count .frameGap c else s
  let s2 := s1.setPort c { p with
    exposure := min h.exposure (p.maxExposure.getD 31)
    phase := .opened, frameNumber := h.number, previous := some h.number
    expected := 0, resultMap := List.replicate (modeSegments m) false }
  { s2 with windows := mapTable (Window.openFrame · c m) s2.windows }

/-- A header in another mode than the port's: IGNORING (R18, step 2). -/
def State.ignoreFrame (s : State) (c : Cam) : State :=
  (s.count .frameTruncated c).setPort c { s.port c with phase := .ignoring }

/-- A good header in STREAMING (R18): an open frame closes as truncated; unless that took the port out of STREAMING, the
pending window changes take effect and the header is judged by its mode. -/
def State.takeHeader (s : State) (c : Cam) (h : HeaderRecord) : State :=
  let s1 := if (s.port c).phase = .opened then (s.count .frameTruncated c).frameClose c else s
  if (s1.port c).link ≠ .streaming then s1
  else
    let s2 := s1.applyChanges c
    match (s2.port c).mode with
    | some m => if modeOfCode? h.mode = some m then s2.openFrame c h m else s2.ignoreFrame c
    | none => s2.ignoreFrame c

/-- Frame header arrival; a bad check in STREAMING counts FRAME_TRUNCATED (R7, R18). -/
def State.headerArrives (s : State) (c : Cam) (h : HeaderRecord) (good : Bool) : State :=
  if (s.port c).link ≠ .streaming then s
  else if good then s.takeHeader c h
  else s.count .frameTruncated c

/-- The raw Y of column `x` of row `y`, from the body of the row's segment as it is written (R92). -/
def bodyLuma (epoch : Nat) (c : Cam) (key : Nat) (body : SegmentBody) (y x : Nat) : Nat :=
  (cellPixel epoch c key (some body) (y % 16) x).y.toNat

/-- Segment `i` is written into its pending bank and read by the windows of the camera (R19, R26, R92). -/
def State.writeSegment (s : State) (c : Cam) (i : Nat) (body : SegmentBody) : State :=
  let st := s.store c
  let key := bankKey i (shownBank st.shown i).other
  let s1 := s.setStore c (st.write i body)
  { s1 with windows := mapTable (Window.sample · c i (bodyLuma s.epoch c key body)) s1.windows }

/-- A segment of an open frame with index `e` or above, below S (R19). -/
def State.takeSegment (s : State) (c : Cam) (i : Nat) (body : SegmentBody) (good : Bool) : State :=
  let p := s.port c
  let errors := (i - p.expected) + if good then 0 else 1
  let s1 := (s.writeSegment c i body).countTimes .segmentError c errors
  s1.setPort c { p with expected := i + 1, resultMap := p.resultMap.set i good }

/-- Segment arrival (R19). -/
def State.segmentArrives (s : State) (c : Cam) (i : Nat) (body : SegmentBody) (good : Bool) : State :=
  let p := s.port c
  if p.link ≠ .streaming then s
  else
    match p.phase with
    | .noFrame => s.count .segmentError c
    | .ignoring => s
    | .opened =>
      if i < p.expected ∨ p.segments ≤ i then s.count .segmentError c else s.takeSegment c i body good

/-- Frame trailer arrival; a bad check in STREAMING counts FRAME_TRUNCATED (R7, R20). -/
def State.trailerArrives (s : State) (c : Cam) (number : Byte) (good : Bool) : State :=
  let p := s.port c
  if p.link ≠ .streaming then s
  else if !good then s.count .frameTruncated c
  else if p.phase ≠ .opened then s
  else if number = p.frameNumber then s.frameClose c
  else (s.count .frameTruncated c).frameClose c

/-! ## Back channel (R6) -/

/-- The back channel of port `c` ends the record it sends and starts the next waiting one (R6). -/
def State.backRecordSent (s : State) (c : Cam) : State :=
  let p := s.port c
  if p.backSending = none then s
  else s.setPort c { p with backSending := p.backWaiting.head?, backWaiting := p.backWaiting.tail }

/-! ## PORT CONTROL (R9, R17) -/

/-- PORT CONTROL, enable (R17). -/
def portEnable (port : Nat) (s : State) : Answer :=
  match index? 4 port with
  | none => refuse .badValue s
  | some c => ⟨.ok, .none, ((s.setPort c { s.port c with enabled := true }).leaveOff c).reform⟩

/-- PORT CONTROL, disable (R17). -/
def portDisable (port : Nat) (s : State) : Answer :=
  match index? 4 port with
  | none => refuse .badValue s
  | some c =>
    let s1 := s.setPort c { s.port c with enabled := false }
    ⟨.ok, .none, ((s1.goOffUnlessOff c .disabled).refreshHazard).reform⟩

/-- PORT CONTROL, LINK RESTART (R17). -/
def linkRestart (port : Nat) (s : State) : Answer :=
  match index? 4 port with
  | none => refuse .badValue s
  | some c =>
    if (s.port c).link = .refused then
      ⟨.ok, .none, (s.setPort c ((s.port c).startWait s.params.link.announceWaitMs)).setLink c .announceWait .hostRestart⟩
    else refuse .badState s

/-- A taken preference list: the common list is computed anew, and a link whose mode is no longer preferred retrains or is
refused (R9). -/
def State.takePreference (s : State) (c : Cam) (preference : List CamMode) : State :=
  let p := s.port c
  let common := commonList preference p.announceList
  let s1 := s.setPort c { p with preference := preference, common := common }
  if (p.link = .training ∨ p.link = .streaming) ∧ !p.mode.any (· ∈ preference) then
    match common with
    | [] => s1.enterRefused c .noCommonMode
    | m :: _ =>
      let s2 := s1.beginSequence c m
      if p.link = .streaming then s2.setLink c .training .preference else s2
  else s1

/-- PORT CONTROL with a preference list (R9). -/
def portPreference (f : PreferenceFields) (s : State) : Answer :=
  match index? 4 f.port, preferenceOf? f.codes with
  | some c, some ms => ⟨.ok, .none, s.takePreference c ms⟩
  | _, _ => refuse .badValue s

/-- SET PARAMETERS of the link group (R170). -/
def setParametersLink (p : LinkParams) (s : State) : Answer :=
  let q := clampLink p
  ⟨statusOf (q ≠ p), .link q, { s with params := { s.params with link := q } }⟩

/-- The port's, the store's, the tone controller's and the clarity monitor's shares of READ CAMERA (R173). -/
def State.cameraShare (s : State) (c : Cam) : CameraShare :=
  let p := s.port c
  let st := s.store c
  let t := s.tone c
  let cl := s.clarity c
  let inState := fun (x : SegState) => st.table.countP fun e => e.state = x
  let corrections := ([0, 1, 2, 3] : List (Fin 4)).filterMap fun k =>
    let q := look s.seams k
    if q.enabled ∧ q.camera = some c then some (k, q.correction) else none
  { link := p.link, mode := p.mode, exposure := p.exposure, typeCode := p.typeCode, maxExposure := p.maxExposure
    health := st.health
    numEmpty := inState .empty, numFresh := inState .fresh, numHeld := inState .held, numStale := inState .stale
    staleOrEmpty := staleOrEmpty st.table, table := st.table
    gain := t.gain, black := t.black, target := t.target, effective := t.effective
    high := t.high, low := t.low, settle := t.settle, corrections := corrections
    clarityMode := cl.mode, level := cl.level, clarity := cl.state, lowCount := cl.low, clearCount := cl.clear }

/-- READ CAMERA (R173). -/
def readCamera (camera : Nat) (s : State) : Answer :=
  match index? 4 camera with
  | none => refuse .badValue s
  | some c => ⟨.ok, .camera (s.cameraShare c), s⟩

/-! ## The commands -/

/-- CARRIER_GAIN (R13). -/
def execCarrierGain (c : Cam) (s : State) : Outcome := unlessHeld s fun t => t.gainCarrier c

/-- CARRIER_LOSS (R16). -/
def execCarrierLoss (c : Cam) (s : State) : Outcome := unlessHeld s fun t => t.loseCarrier c

/-- ANNOUNCE_ARRIVAL (R5, R11). -/
def execAnnounceArrival (c : Cam) (r : AnnounceRecord) (check : BitVec 16) (s : State) : Outcome :=
  unlessHeld s fun t => t.announceArrives c r (checkGood r.bytes check)

/-- TRAINING_SEGMENT_ARRIVAL (R5, R14). -/
def execTrainingSegmentArrival (c : Cam) (r : TrainRecord) (check : BitVec 16) (s : State) : Outcome :=
  unlessHeld s fun t => t.trainSegment c r.index (checkGood r.bytes check)

/-- FRAME_HEADER_ARRIVAL (R5, R18). -/
def execFrameHeaderArrival (c : Cam) (h : HeaderRecord) (check : BitVec 16) (s : State) : Outcome :=
  unlessHeld s fun t => t.headerArrives c h (checkGood h.bytes check)

/-- SEGMENT_ARRIVAL (R5, R19). -/
def execSegmentArrival (c : Cam) (i : Nat) (body : SegmentBody) (check : BitVec 16) (s : State) : Outcome :=
  unlessHeld s fun t => t.segmentArrives c i body (checkGood (segmentBytes i body) check)

/-- FRAME_TRAILER_ARRIVAL (R5, R20); the body of the record is the frame number. -/
def execFrameTrailerArrival (c : Cam) (number : Byte) (check : BitVec 16) (s : State) : Outcome :=
  unlessHeld s fun t => t.trailerArrives c number (checkGood [number] check)

/-- UNKNOWN_RECORD_ARRIVAL (R7): the record is discarded with no effect. -/
def execUnknownRecordArrival (_c : Cam) (s : State) : Outcome := commit s

/-- ANNOUNCE_TIMER_EXPIRY (R13). -/
def execAnnounceTimerExpiry (c : Cam) (s : State) : Outcome := unlessHeld s fun t => t.announceExpires c

/-- TRAIN_TIMER_EXPIRY (R15). -/
def execTrainTimerExpiry (c : Cam) (s : State) : Outcome := unlessHeld s fun t => t.trainExpires c

/-- BACK_CHANNEL_RECORD_SENT (R6). -/
def execBackChannelRecordSent (c : Cam) (s : State) : Outcome := unlessHeld s fun t => t.backRecordSent c

/-- PORT_ENABLE (R17). -/
def execPortEnable (tag : Byte) (b : Body Nat) (s : State) : Outcome :=
  request (.portEnable tag b) 0x04 tag (Body.run b portEnable) s

/-- PORT_DISABLE (R17). -/
def execPortDisable (tag : Byte) (b : Body Nat) (s : State) : Outcome :=
  request (.portDisable tag b) 0x04 tag (Body.run b portDisable) s

/-- LINK_RESTART (R17). -/
def execLinkRestart (tag : Byte) (b : Body Nat) (s : State) : Outcome :=
  request (.linkRestart tag b) 0x04 tag (Body.run b linkRestart) s

/-- PORT_PREFERENCE_LIST (R9). -/
def execPortPreferenceList (tag : Byte) (b : Body PreferenceFields) (s : State) : Outcome :=
  request (.portPreferenceList tag b) 0x04 tag (Body.run b portPreference) s

/-- SET_PARAMETERS_LINK (R170). -/
def execSetParametersLink (tag : Byte) (b : Body LinkParams) (s : State) : Outcome :=
  request (.setParametersLink tag b) 0x03 tag (Body.run b setParametersLink) s

/-- READ_CAMERA (R173). -/
def execReadCamera (tag : Byte) (b : Body Nat) (s : State) : Outcome :=
  request (.readCamera tag b) 0x18 tag (Body.run b readCamera) s

end Sys2Proof.Machine
end

