-- ==== Sys2Proof/Machine/Overlay.lean ====
section
/-! DEFINITION. The overlay unit (Chapter 9, 9.1 to 9.3): the shape store and its requests, coverage, and when a shape is
drawn. -/

namespace Sys2Proof.Machine

/-! ## The shape store (R146 to R148) -/

/-- Shape `k`. -/
def State.shape (s : State) (k : Fin 64) : Option Shape := look s.shapes.shapes k

/-- The points a shape holds, 0 where it is undefined (R146). -/
def shapePoints (x : Option Shape) : Nat := (x.map fun sh => sh.points.length).getD 0

/-- Shape `k` replaced, its points returned to the budget and the new shape's points taken from it (R146). -/
def ShapeStore.replace (st : ShapeStore) (k : Fin 64) (x : Option Shape) : ShapeStore :=
  { st with shapes := put st.shapes k x, free := st.free + shapePoints (look st.shapes k) - shapePoints x }

/-- Shape `k` replaced. -/
def State.setShape (s : State) (k : Fin 64) (x : Option Shape) : State := { s with shapes := s.shapes.replace k x }

/-- A reply about shape `k`, with its point count and the free point count after the request (R147). -/
def shapeAnswer (st : Status) (k : Fin 64) (s : State) : Answer :=
  ⟨st, .shape (shapePoints (s.shape k)) s.shapes.free, s⟩

/-- The effect of SHAPE SET (R147). -/
def shapeSet (f : ShapeFields) (s : State) : Answer :=
  if !shapeLengthOk f then refuse .badLength s
  else
    match index? 64 f.id with
    | none => refuse .badValue s
    | some k =>
      match shapeOf? f with
      | none => shapeAnswer .badValue k s
      | some sh =>
        if s.shapes.free + shapePoints (s.shape k) < sh.points.length then shapeAnswer .noRoom k s
        else shapeAnswer .ok k (s.setShape k (some sh))

/-- The effect of SHAPE DROP (R148). -/
def shapeDrop (id : Nat) (s : State) : Answer :=
  match index? 64 id with
  | none => refuse .badValue s
  | some k =>
    if (s.shape k).isNone then refuse .notFound s
    else if shapeReferenced s.views k then refuse .badState s
    else
      let s1 := s.setShape k none
      ⟨.ok, .freePoints s1.shapes.free, s1⟩

/-! ## Coverage (R149 to R151)

A point stands at the centre of its pixel, so every difference between a pixel's centre and a point is a whole number,
and each test below is exact. -/

/-- A pixel's centre lies at most half the width from a segment (R149). -/
def nearSegment (width : Nat) (p q : Point) (x y : Int) : Bool :=
  let dx : Int := (q.x : Int) - p.x
  let dy : Int := (q.y : Int) - p.y
  let ex : Int := x - p.x
  let ey : Int := y - p.y
  let fx : Int := x - q.x
  let fy : Int := y - q.y
  let along := ex * dx + ey * dy
  let length := dx * dx + dy * dy
  let cross := ex * dy - ey * dx
  let w : Int := width * width
  if along ≤ 0 then 4 * (ex * ex + ey * ey) ≤ w
  else if length ≤ along then 4 * (fx * fx + fy * fy) ≤ w
  else 4 * (cross * cross) ≤ w * length

/-- A polyline covers a pixel (R149). -/
def coversPolyline (width : Nat) (points : List Point) (x y : Int) : Bool :=
  (points.zip points.tail).any fun e => nearSegment width e.1 e.2 x y

/-- The ray from a pixel's centre towards increasing x crosses an edge (R150). -/
def crossesEdge (p q : Point) (x y : Int) : Bool :=
  let dy : Int := (q.y : Int) - p.y
  let meets : Int := (y - p.y) * ((q.x : Int) - p.x)
  let centre : Int := (x - p.x) * dy
  decide (y < p.y) != decide (y < q.y) && if 0 < dy then centre < meets else meets < centre

/-- A polygon covers a pixel, by the even-odd rule (R150). -/
def coversPolygon (points : List Point) (x y : Int) : Bool :=
  (points.zip (points.tail ++ points.head?.toList)).countP (fun e => crossesEdge e.1 e.2 x y) % 2 = 1

/-- A set pixel of a glyph; glyph 31 is blank (Chapter 9, the glyph set). -/
def glyphSet (g : Fin 32) (i j : Nat) : Bool := g ≠ 31 && Config.glyphPattern g.val i j

/-- A 16 × 16 pattern at a place, each of its pixels `size` pixels wide and high, covers a pixel (R79, R151). -/
def coversPattern (pattern : Nat → Nat → Bool) (size ox oy x y : Nat) : Bool :=
  ox ≤ x && oy ≤ y && (x - ox) / size < 16 && (y - oy) / size < 16 && pattern ((x - ox) / size) ((y - oy) / size)

/-- A shape covers a pixel, in the coordinates of the list that draws it (R149 to R151). -/
def Shape.covers (sh : Shape) (x y : Nat) : Bool :=
  match sh.form with
  | .polyline width => coversPolyline width sh.points x y
  | .polygon => coversPolygon sh.points x y
  | .icon glyph =>
    match sh.points with
    | p :: _ => coversPattern (glyphSet glyph) 1 p.x p.y x y
    | [] => false

/-! ## When a shape is drawn (R152) and the blend (R58) -/

/-- A pane's part in the conditions of its list's shapes; for the screen list neither holds (R152). -/
structure PaneConditions where
  alternate : Bool
  notGood : Bool
deriving DecidableEq, Repr

/-- A condition holds on the latched values (R152). -/
def conditionHolds (s : State) (pane : PaneConditions) : Condition → Bool
  | .always => true
  | .hazard => s.display.latch.hazard
  | .kerbIndicator => s.selector.latch.kerb = some .on
  | .reverse => s.selector.latch.gear = some .reverse
  | .moving => s.selector.latch.moving
  | .altSource => pane.alternate
  | .sourceNotGood => pane.notGood

/-- A latched shape is drawn in the output frame (R152). -/
def Shape.drawn (sh : Shape) (s : State) (pane : PaneConditions) : Bool :=
  sh.conditions.any (conditionHolds s pane) && (!sh.blink || s.cadence.latchedPhase)

/-- One component blended (R58). -/
def blendPart (base colour : Byte) (alpha : Nat) : Byte :=
  BitVec.ofNat 8 ((base.toNat * (16 - alpha) + colour.toNat * alpha + 8) / 16)

/-- A shape's colour blended over a value (R58). -/
def blend (base colour : Pixel) (alpha : Nat) : Pixel :=
  ⟨blendPart base.y colour.y alpha, blendPart base.cb colour.cb alpha, blendPart base.cr colour.cr alpha⟩

/-- The shape of an id blended over a value at a pixel, where it is drawn and covers it (R58, R152). -/
def overlayShape (s : State) (pane : PaneConditions) (x y : Nat) (value : Pixel) (k : Fin 64) : Pixel :=
  match look s.shapes.latched k with
  | some sh => if sh.drawn s pane && sh.covers x y then blend value sh.colour sh.alpha else value
  | none => value

/-- The shapes of a live list blended over a value at a pixel, in list order (R58). -/
def overlayList (s : State) (pane : PaneConditions) (list : Fin 16) (x y : Nat) (value : Pixel) : Pixel :=
  (look s.views.live.lists list).foldl (overlayShape s pane x y) value

/-! ## The commands -/

/-- SHAPE_SET (R147). -/
def execShapeSet (tag : Byte) (b : Body ShapeFields) (s : State) : Outcome :=
  request (.shapeSet tag b) 0x0C tag (Body.run b shapeSet) s

/-- SHAPE_DROP (R148). -/
def execShapeDrop (tag : Byte) (b : Body Nat) (s : State) : Outcome :=
  request (.shapeDrop tag b) 0x0D tag (Body.run b shapeDrop) s

end Sys2Proof.Machine
end

