-- ==== Sys2Proof/Machine/Sampler.lean ====
section
/-! DEFINITION. The pane sampler (Chapter 3, 3.3 and 3.4), stages 1 to 7. It holds no state: each value is a function of what
the blocks have latched. Every sum and product is exact (R51). -/

namespace Sys2Proof.Machine

/-- The stale hatch at a screen position (R76). -/
def staleHatch (x y : Nat) : Pixel := ⟨if (x + y) / 8 % 2 = 0 then 96 else 64, 128, 128⟩

/-! ## Stages 1 to 3 (R52, R53) -/

/-- A place in a grid: cell column and row, position within the cell, cell width and height (R50, R52). -/
structure CellPlace where
  cx : Nat
  cy : Nat
  fx : Nat
  fy : Nat
  cw : Nat
  ch : Nat
deriving DecidableEq, Repr

/-- Stages 1 and 2: the mirror and the cell (R52). -/
def cellPlace (geo : Geometry) (mirror : Bool) (cols rows px py : Nat) : CellPlace :=
  let cw := geo.w / (cols - 1)
  let ch := geo.h / (rows - 1)
  let mx := if mirror then geo.w - 1 - px else px
  ⟨mx / cw, py / ch, mx % cw, py % ch, cw, ch⟩

/-- Stage 3 of one coordinate: the weighted average of the four corner values, an exact half rounded up (R53). -/
def interpolate (p : CellPlace) (v00 v10 v01 v11 : Nat) : Nat :=
  let n := p.cw * p.ch
  (v00 * (p.cw - p.fx) * (p.ch - p.fy) + v10 * p.fx * (p.ch - p.fy) + v01 * (p.cw - p.fx) * p.fy + v11 * p.fx * p.fy
    + n / 2) / n

/-- The four corner nodes of a cell, where the grid has them (R52). -/
def cellNodes? (nodes : List Node) (cols : Nat) (p : CellPlace) : Option (Node × Node × Node × Node) :=
  let i := p.cy * cols + p.cx
  match nodes[i]?, nodes[i + 1]?, nodes[i + cols]?, nodes[i + cols + 1]? with
  | some a, some b, some c, some d => some (a, b, c, d)
  | _, _, _, _ => none

/-! ## Stage 4 (R54) -/

/-- A source position along one axis: pixel, its neighbour, the fraction in sixteenths (R54). -/
structure SourcePos where
  p0 : Nat
  p1 : Nat
  a : Nat
deriving DecidableEq, Repr

/-- Stage 4 along an axis of `size` camera pixels (R54). -/
def sourcePos (u size : Nat) : SourcePos :=
  let s16 := min ((size - 1) * 16) ((u * size * 16 + 32768) / 65536)
  ⟨s16 / 16, min (size - 1) (s16 / 16 + 1), s16 % 16⟩

/-! ## Stages 5 and 6 (R55, R56) -/

/-- The deciding row (R55). -/
def decidingRow (y : SourcePos) : Nat := if y.a < 8 then y.p0 else y.p1

/-- The latched entry of a row's segment is FRESH or HELD (R55). -/
def CamLatch.rowUsable (l : CamLatch) (row : Nat) : Bool := (l.table[row / 16]?).any fun e => e.state.usable

/-- The pixel of camera `c` at a column and row, from the latched shown bank of the row's segment (R56). -/
def CamLatch.pixel (l : CamLatch) (epoch : Nat) (c : Cam) (x row : Nat) : Pixel :=
  let key := bankKey (row / 16) (shownBank l.shown (row / 16))
  cellPixel epoch c key (readCell l.contents key) (row % 16) x

/-- Stage 6 of one component (R56). -/
def bilinear (x y : SourcePos) (p00 p10 p01 p11 : Byte) : Byte :=
  BitVec.ofNat 8 ((p00.toNat * (16 - x.a) * (16 - y.a) + p10.toNat * x.a * (16 - y.a) + p01.toNat * (16 - x.a) * y.a
    + p11.toNat * x.a * y.a + 128) / 256)

/-- Stage 6 over the two rows that are read; a row of an EMPTY or STALE segment gives way to the deciding row (R56). -/
def CamLatch.sample (l : CamLatch) (epoch : Nat) (c : Cam) (x y : SourcePos) : Pixel :=
  let row := fun r => if l.rowUsable r then r else decidingRow y
  let p00 := l.pixel epoch c x.p0 (row y.p0)
  let p10 := l.pixel epoch c x.p1 (row y.p0)
  let p01 := l.pixel epoch c x.p0 (row y.p1)
  let p11 := l.pixel epoch c x.p1 (row y.p1)
  ⟨bilinear x y p00.y p10.y p01.y p11.y, bilinear x y p00.cb p10.cb p01.cb p11.cb, bilinear x y p00.cr p10.cr p01.cr p11.cr⟩

/-- Stage 7 (R57). -/
def toned (p : Pixel) (gain black : Nat) : Pixel := { p with y := BitVec.ofNat 8 (toneLevel p.y.toNat gain black) }

/-- Stages 4 to 7 of a source position; `x` and `y` are the pixel's screen position (R54 to R57). -/
def State.sourcePixel (s : State) (c : Cam) (m : CamMode) (u v x y : Nat) : Pixel :=
  let l := (s.store c).latch
  let sx := sourcePos u (modeWidth m)
  let sy := sourcePos v (modeHeight m)
  if l.rowUsable (decidingRow sy) then
    toned (l.sample s.epoch c sx sy) (s.tone c).latchedGain (s.tone c).latchedBlack
  else staleHatch x y

/-- Stages 1 to 7 of a pane pixel (R52 to R57). The values after `background` stand for a grid or a mode that is not
there, which a pane with a chosen source never names (R44, R51). -/
def State.samplePane (s : State) (p : Pane) (src : PaneSource) (background : Pixel) (px py : Nat) : Pixel :=
  match look s.grids.grids src.grid, (s.store src.camera).latch.mode with
  | .ready cols rows nodes, some m =>
    let place := cellPlace p.geometry p.mirror cols rows px py
    match cellNodes? nodes cols place with
    | some (a, b, c, d) =>
      if a.void || b.void || c.void || d.void then background
      else
        let u := interpolate place a.u.toNat b.u.toNat c.u.toNat d.u.toNat
        let v := interpolate place a.v.toNat b.v.toNat c.v.toNat d.v.toNat
        s.sourcePixel src.camera m u v (p.geometry.x + px) (p.geometry.y + py)
    | none => background
  | _, _ => background

end Sys2Proof.Machine
end

