-- ==== Sys2Proof/Machine/Views.lean ====
section
/-! DEFINITION. The view table unit (Chapter 4, 4.1 to 4.4): the edit copy and its requests, apply, and the source choice. -/

namespace Sys2Proof.Machine

/-- View `v` of the edit copy. -/
def State.editView (s : State) (v : ViewId) : View := look s.views.edit.views v

/-- View `v` of the edit copy replaced. -/
def State.setEditView (s : State) (v : ViewId) (x : View) : State :=
  { s with views := { s.views with edit := { s.views.edit with views := put s.views.edit.views v x } } }

/-! ## PANE SET (R61, R62) -/

/-- The dress group of a pane record (4.1). -/
structure Dress where
  list : Option (Fin 16)
  mirror : Bool
  border : Pixel
  label : Fin 32
deriving DecidableEq, Repr

/-- The groups a PANE SET carries, each identifier in range. -/
structure PaneGroups where
  geometry : Option Geometry
  primary : Option PaneSource
  alternate : Option (Option PaneSource)
  dress : Option Dress
deriving DecidableEq, Repr

/-- The dress of a slot that becomes present without one (R61). -/
def Dress.initial : Dress := ⟨none, false, ⟨128, 128, 128⟩, 0⟩

/-- The dress of a pane. -/
def Pane.dress (p : Pane) : Dress := ⟨p.list, p.mirror, p.border, p.label⟩

/-- A pane list id, 1 to 15 (4.1). -/
def paneListOf? (n : Nat) : Option (Fin 16) := if n = 0 then none else index? 16 n

/-- A dress group in range (R62, check 1). -/
def dressOf? (f : DressFields) : Option Dress :=
  match decodeField paneListOf? f.list, index? 32 f.label with
  | some list, some label => some ⟨list, f.mirror, f.border, label⟩
  | _, _ => none

/-- A geometry group in range (R62, check 1). -/
def geometryOf? (g : Geometry) : Option Geometry := if geometryInRange g then some g else none

/-- The carried groups, where every identifier and range holds (R62, check 1). -/
def paneGroupsOf? (f : PaneSetFields) : Option PaneGroups :=
  match decodeField geometryOf? f.geometry, decodeField sourceOf? f.primary,
    decodeField (decodeField sourceOf?) f.alternate, decodeField dressOf? f.dress with
  | some g, some p, some a, some d => some ⟨g, p, a, d⟩
  | _, _, _, _ => none

/-- The primary group of the resulting record, where it has one. -/
def resultingPrimary (old : Option Pane) (g : PaneGroups) : Option PaneSource := g.primary.or (old.map (·.primary))

/-- The alternate group of the resulting record. -/
def resultingAlternate (old : Option Pane) (g : PaneGroups) : Option PaneSource :=
  g.alternate.getD (old.bind (·.alternate))

/-- The resulting record's alternate camera equals its primary camera (R62, check 1). -/
def sameCamera (old : Option Pane) (g : PaneGroups) : Bool :=
  match resultingPrimary old g, resultingAlternate old g with
  | some p, some a => p.camera = a.camera
  | _, _ => false

/-- The resulting record; `none` where an absent slot is not given geometry and primary (R61, R62). -/
def resultingPane (old : Option Pane) (g : PaneGroups) : Option Pane :=
  match g.geometry.or (old.map (·.geometry)), resultingPrimary old g with
  | some geo, some primary =>
    let d := g.dress.getD ((old.map Pane.dress).getD .initial)
    some ⟨geo, primary, resultingAlternate old g, d.list, d.mirror, d.border, d.label⟩
  | _, _ => none

/-- Every grid the request carries is READY (R62, check 3). -/
def carriedReady (gs : GridStore) (g : PaneGroups) : Bool :=
  g.primary.all (fun p => (look gs.grids p.grid).isReady)
    && g.alternate.all fun a => a.all fun p => (look gs.grids p.grid).isReady

/-- The grids of a record fit its geometry (R50; R62, check 4). -/
def paneFits (gs : GridStore) (p : Pane) : Bool :=
  (look gs.grids p.primary.grid).fits p.geometry && p.alternate.all fun a => (look gs.grids a.grid).fits p.geometry

/-- A record overlaps another present pane of the view (R62, check 5). -/
def overlapsOther (v : View) (slot : Fin 6) (p : Pane) : Bool :=
  (List.finRange 6).any fun k => k ≠ slot && (look v.panes k).any fun q => overlaps p.geometry q.geometry

/-- The effect of PANE SET (R62). -/
def paneSet (f : PaneSetFields) (s : State) : Answer :=
  match index? 8 f.view, index? 6 f.slot, paneGroupsOf? f with
  | some v, some slot, some g =>
    let view := s.editView v
    let old := look view.panes slot
    if sameCamera old g then refuse .badValue s
    else
      match resultingPane old g with
      | none => refuse .badState s
      | some p =>
        if !carriedReady s.grids g then refuse .badState s
        else if !paneFits s.grids p then refuse .gridFit s
        else if overlapsOther view slot p then refuse .overlap s
        else ⟨.ok, .none, s.setEditView v { view with panes := put view.panes slot (some p) }⟩
  | _, _, _ => refuse .badValue s

/-! ## The other edits (R63 to R66) -/

/-- The effect of PANE DROP (R63). -/
def paneDrop (f : PaneDropFields) (s : State) : Answer :=
  match index? 8 f.view, index? 6 f.slot with
  | some v, some slot =>
    let view := s.editView v
    if (look view.panes slot).isNone then refuse .notFound s
    else ⟨.ok, .none, s.setEditView v { view with panes := put view.panes slot none }⟩
  | _, _ => refuse .badValue s

/-- The effect of VIEW SET (R64). -/
def viewSet (f : ViewSetFields) (s : State) : Answer :=
  match index? 8 f.view, index? 32 f.label with
  | some v, some label => ⟨.ok, .none, s.setEditView v { s.editView v with background := f.background, label := label }⟩
  | _, _ => refuse .badValue s

/-- A pair of VIEW MAP SET, each part in range (R65). -/
def mapPairOf? (p : Nat × Nat) : Option (Fin 8 × ViewId) :=
  match index? 8 p.1, index? 8 p.2 with
  | some sit, some v => some (sit, v)
  | _, _ => none

/-- The effect of VIEW MAP SET (R65). -/
def viewMapSet (pairs : List (Nat × Nat)) (s : State) : Answer :=
  if pairs = [] ∨ 8 < pairs.length then refuse .badLength s
  else
    match pairs.mapM mapPairOf? with
    | none => refuse .badValue s
    | some entries =>
      if (entries.map (·.1)).Nodup then
        let map := entries.foldl (fun m e => put m e.1 e.2) s.views.edit.map
        ⟨.ok, .none, { s with views := { s.views with edit := { s.views.edit with map := map } } }⟩
      else refuse .badValue s

/-- The effect of SET OVERLAY LIST (R66). -/
def setOverlayList (f : OverlayListFields) (s : State) : Answer :=
  if 12 < f.shapes.length then refuse .badLength s
  else
    match index? 16 f.list, f.shapes.mapM (index? 64) with
    | some l, some shapes =>
      if ¬shapes.Nodup then refuse .badValue s
      else if !shapes.all (fun k => (look s.shapes.shapes k).isSome) then refuse .notFound s
      else
        let lists := put s.views.edit.lists l shapes
        ⟨.ok, .none, { s with views := { s.views with edit := { s.views.edit with lists := lists } } }⟩
    | _, _ => refuse .badValue s

/-! ## READ TABLE and APPLY TABLES (R67, R68) -/

/-- The item READ TABLE names, where its id is in range (R67). -/
def tableItem? (t : Tables) : TableItem → Option TableShare
  | .view id => (index? 8 id).map fun v => .view (look t.views v)
  | .map => some (.map t.map)
  | .list id => (index? 16 id).map fun l => .list (look t.lists l)

/-- The item of the copy a READ TABLE names (R67). -/
def readTableItem (f : ReadTableFields) (v : ViewTable) : Option TableShare :=
  match f.copy, f.item with
  | some .edit, some i => tableItem? v.edit i
  | some .live, some i => tableItem? v.live i
  | _, _ => none

/-- The effect of READ TABLE (R67). -/
def readTable (f : ReadTableFields) (s : State) : Answer :=
  match readTableItem f s.views with
  | none => ⟨.badValue, .table none s.views.applyPending, s⟩
  | some x => ⟨.ok, .table (some x) s.views.applyPending, s⟩

/-- The effect of APPLY TABLES (R68). -/
def applyTables (_ : Unit) (s : State) : Answer :=
  if s.mode = .run ∧ s.views.edit.mapsEmptyView then refuse .badState s
  else ⟨.ok, .none, { s with views := { s.views with applyPending := true } }⟩

/-! ## Output frame start (R69, R71) -/

/-- The apply of an output frame start (R69). -/
def State.applyAtStart (s : State) : State :=
  if s.views.applyPending then
    { s with views := { s.views with live := s.views.edit, applyPending := false } }.queueReport .tablesLive
  else s

/-- The rank of a camera's latched health (R36, R71). -/
def State.latchedRank (s : State) (c : Cam) : Nat := healthRank (s.store c).latch.health

/-- The source choice of a pane (R71). -/
def chooseSource (rank : Cam → Nat) (p : Pane) : Option ChosenSource :=
  let first := rank p.primary.camera
  match p.alternate with
  | none => if first = 0 then none else some ⟨p.primary, false⟩
  | some a => if first < rank a.camera then some ⟨a, true⟩ else if first = 0 then none else some ⟨p.primary, false⟩

/-- PANE_ALT counted for a slot whose alternate is chosen (R71). -/
def State.countAlternate (s : State) : Option ChosenSource → State
  | some ⟨src, true⟩ => s.count .paneAlt src.camera
  | _ => s

/-- The source choice of every pane of the shown view (R71). -/
def State.chooseSources (s : State) (shown : ViewId) : State :=
  let choice := mapTable (Option.bind · (chooseSource s.latchedRank)) (look s.views.live.views shown).panes
  let s1 := { s with views := { s.views with choice := choice } }
  choice.toList.foldl State.countAlternate s1

/-- The view table unit after RESTART (R60). -/
def ViewTable.restarted (v : ViewTable) : ViewTable := { v with edit := v.live, applyPending := false }

/-! ## The commands -/

/-- SET_OVERLAY_LIST (R66). -/
def execSetOverlayList (tag : Byte) (b : Body OverlayListFields) (s : State) : Outcome :=
  request (.setOverlayList tag b) 0x0E tag (Body.run b setOverlayList) s

/-- VIEW_SET (R64). -/
def execViewSet (tag : Byte) (b : Body ViewSetFields) (s : State) : Outcome :=
  request (.viewSet tag b) 0x0F tag (Body.run b viewSet) s

/-- PANE_SET (R62). -/
def execPaneSet (tag : Byte) (b : Body PaneSetFields) (s : State) : Outcome :=
  request (.paneSet tag b) 0x10 tag (Body.run b paneSet) s

/-- PANE_DROP (R63). -/
def execPaneDrop (tag : Byte) (b : Body PaneDropFields) (s : State) : Outcome :=
  request (.paneDrop tag b) 0x11 tag (Body.run b paneDrop) s

/-- VIEW_MAP_SET (R65). -/
def execViewMapSet (tag : Byte) (b : Body (List (Nat × Nat))) (s : State) : Outcome :=
  request (.viewMapSet tag b) 0x12 tag (Body.run b viewMapSet) s

/-- APPLY_TABLES (R68). -/
def execApplyTables (tag : Byte) (b : Body Unit) (s : State) : Outcome :=
  request (.applyTables tag b) 0x13 tag (Body.run b applyTables) s

/-- READ_TABLE (R67). -/
def execReadTable (tag : Byte) (b : Body ReadTableFields) (s : State) : Outcome :=
  request (.readTable tag b) 0x1A tag (Body.run b readTable) s

end Sys2Proof.Machine
end

