-- ==== Sys2Proof/Machine/Output.lean ====
section
/-! DEFINITION. The output generator (Chapter 4, 4.5 and 4.6): the pixels of the output frame in progress, and the display
sense. The frame is a function of what the blocks have latched (R72, log 8). -/

namespace Sys2Proof.Machine

/-! ## Marks (R79) -/

/-- Mark white (R79). -/
def markWhite : Pixel := ⟨235, 128, 128⟩

/-- Amber (R79). -/
def amber : Pixel := ⟨200, 40, 165⟩

/-- The hazard colour (R81). -/
def hazardColour : Pixel := ⟨180, 44, 200⟩

/-- Flat grey of CONFIG frames and of the no-picture pattern (R74, R78). -/
def flatGrey : Pixel := ⟨40, 128, 128⟩

/-- Black of STANDBY frames (R74). -/
def standbyBlack : Pixel := ⟨0, 128, 128⟩

/-- A mark drawn over a value: its set pixels take the colour, opaque (R79). -/
def drawMark (pattern : Nat → Nat → Bool) (size ox oy : Nat) (colour : Pixel) (x y : Nat) (value : Pixel) : Pixel :=
  if coversPattern pattern size ox oy x y then colour else value

/-! ## Panes (R75, R77 to R81) -/

/-- The frozen pattern at a pane pixel (R78). -/
def frozenPattern (geo : Geometry) (px py : Nat) : Pixel :=
  drawMark (Config.markPattern .frozen) 2 ((geo.w - 32) / 2) ((geo.h - 32) / 2) markWhite px py
    (staleHatch (geo.x + px) (geo.y + py))

/-- The no-picture pattern at a pane pixel (R78). -/
def noPicturePattern (geo : Geometry) (label : Fin 32) (px py : Nat) : Pixel :=
  drawMark (glyphSet label) 2 ((geo.w - 32) / 2) ((geo.h - 32) / 2) markWhite px py flatGrey

/-- The picture or pattern layer of a pane (R77). -/
def State.pictureLayer (s : State) (p : Pane) (choice : Option ChosenSource) (background : Pixel) (px py : Nat) : Pixel :=
  match choice with
  | some ch => s.samplePane p ch.source background px py
  | none =>
    if (s.store p.primary.camera).latch.health = .frozen then frozenPattern p.geometry px py
    else noPicturePattern p.geometry p.label px py

/-- A pane's part in the conditions of its shapes (R152). -/
def State.paneConditions (s : State) (choice : Option ChosenSource) : PaneConditions :=
  match choice with
  | some ch => ⟨ch.alternate, (s.store ch.source.camera).latch.health ≠ .good⟩
  | none => ⟨false, true⟩

/-- The status icons of a pane over a value (R80). -/
def State.statusIcons (s : State) (p : Pane) (choice : Option ChosenSource) (px py : Nat) (value : Pixel) : Pixel :=
  match choice with
  | none => value
  | some ch =>
    let v := if (s.store ch.source.camera).latch.health = .obscured then
        drawMark (Config.markPattern .lens) 1 (p.geometry.w - 20) 4 amber px py value
      else value
    if ch.alternate then drawMark (Config.markPattern .alt) 1 4 4 markWhite px py v else v

/-- The border camera (R81). -/
def borderCamera (p : Pane) (choice : Option ChosenSource) : Cam :=
  match choice with
  | some ch => ch.source.camera
  | none => p.primary.camera

/-- A WATCH window of a camera is ACTIVE and armed in the zone watch's latch of this output frame's start (R81). -/
def State.latchedAlarm (s : State) (c : Cam) : Bool :=
  s.display.latch.zones.any fun z => z.camera = c && z.state = .active && z.armed

/-- A pane pixel lies in the border (R81). -/
def onBorder (geo : Geometry) (px py : Nat) : Bool := px < 2 || geo.w ≤ px + 2 || py < 2 || geo.h ≤ py + 2

/-- The border over a value (R81). -/
def State.drawBorder (s : State) (p : Pane) (choice : Option ChosenSource) (px py : Nat) (value : Pixel) : Pixel :=
  if onBorder p.geometry px py then
    if s.latchedAlarm (borderCamera p choice) && s.cadence.latchedPhase then hazardColour else p.border
  else value

/-- A pane's content: picture or pattern, shapes of its list, status icons, border (R75). -/
def State.paneContent (s : State) (p : Pane) (choice : Option ChosenSource) (background : Pixel) (px py : Nat) : Pixel :=
  let picture := s.pictureLayer p choice background px py
  let shaped := match p.list with
    | some l => overlayList s (s.paneConditions choice) l px py picture
    | none => picture
  s.drawBorder p choice px py (s.statusIcons p choice px py shaped)

/-- A screen pixel lies in a pane's rectangle (R75). -/
def inRectangle (g : Geometry) (x y : Nat) : Bool := g.x ≤ x && x < g.x + g.w && g.y ≤ y && y < g.y + g.h

/-- One slot of the shown view over a value (R75). -/
def State.drawSlot (s : State) (view : View) (x y : Nat) (value : Pixel) (slot : Fin 6) : Pixel :=
  match look view.panes slot with
  | some p =>
    if inRectangle p.geometry x y then
      s.paneContent p (look s.views.choice slot) view.background (x - p.geometry.x) (y - p.geometry.y)
    else value
  | none => value

/-! ## The output frame (R74, R75) -/

/-- A pixel of a frame latched in RUN (R75). -/
def State.runPixel (s : State) (x y : Nat) : Pixel :=
  let view := look s.views.live.views s.display.latch.shown
  let back := drawMark (glyphSet view.label) 1 1004 580 markWhite x y view.background
  let panes := (List.finRange 6).foldl (s.drawSlot view x y) back
  let screen := overlayList s ⟨false, false⟩ 0 x y panes
  if s.display.latch.situation = .noData then
    drawMark (Config.markPattern .noData) 2 988 4 amber x y screen
  else screen

/-- The pixel at column `x` and row `y` of the output frame that the last output frame start began (R74, R75, R83). Whether
the display port sends it is `State.outputFrame`. -/
def State.pixelAt (s : State) (x y : Nat) : Pixel :=
  match s.display.latch.mode with
  | .config => drawMark (Config.markPattern .setup) 2 496 284 markWhite x y flatGrey
  | .standby => standbyBlack
  | .run => s.runPixel x y

/-- The output frame in progress, as the display port sends it: 600 rows from the top, 1024 pixels from the left (R83). While
RESET is held low no output frame is sent (R179). -/
def State.outputFrame (s : State) : Option (List (List Pixel)) :=
  if s.held then none else some ((List.range 600).map fun y => (List.range 1024).map fun x => s.pixelAt x y)

/-! ## Display sense (R84) -/

/-- The display-present input takes a level (R84). -/
def Display.sense (d : Display) (level : Bool) : Display :=
  if level = d.level then d
  else { d with level := level, senseTimer := if level = d.present then none else some 50 }

/-- Display sense timer expiry; a timer that has stopped or been restarted does not expire (R84, log 1). -/
def State.senseExpires (s : State) : State :=
  if s.display.senseTimer = some 0 then
    let d := { s.display with present := s.display.level, senseTimer := none }
    { s with display := d }.queueReport (.display d.present d.counter)
  else s

/-- What the output generator latches, with the zone watch's latch of the same output frame start, and the frame counter
(R72, R73, R129). -/
def State.outputLatch (s : State) : Display :=
  let z := s.zoneLatch
  { s.display with
    counter := s.display.counter + 1
    latch := ⟨s.mode, s.selector.shown, s.selector.situation, z.latchedHazard, z.latchedZones⟩ }

/-! ## The commands -/

/-- DISPLAY_SENSE_CHANGE (R84). -/
def execDisplaySenseChange (level : Bool) (s : State) : Outcome :=
  unlessHeld s fun t => { t with display := t.display.sense level }

/-- DISPLAY_SENSE_TIMER_EXPIRY (R84). -/
def execDisplaySenseTimerExpiry (s : State) : Outcome := unlessHeld s State.senseExpires

end Sys2Proof.Machine
end

