-- ==== Sys2Proof/Machine/Situation.lean ====
section
/-! DEFINITION. The situation selector (Chapter 8): vehicle records, ranking, forces, the shown view, and the requests VEHICLE
STATE, FORCE VIEW, RELEASE VIEW and SET PARAMETERS of the situation group. -/

namespace Sys2Proof.Machine

/-! ## Forces and changes of situation -/

/-- A force ends: it becomes absent, the force change flag is set, and FORCE ENDED is queued (R142). Without a force
nothing ends. -/
def State.endForce (s : State) (cause : ForceCause) : State :=
  match s.selector.force with
  | none => s
  | some f =>
    { s with selector := { s.selector with force := none, forceChange := true } }.queueReport
      (.forceEnded f.view f.ceiling cause s.selector.situation)

/-- A ranking gives `new`: where it differs, force override, zone arming and cadence follow (R138). -/
def State.takeSituation (s : State) (new : Situation) : State :=
  if new = s.selector.situation then s
  else
    let s1 := { s with selector := { s.selector with situation := new } }
    let s2 := if s.selector.force.any (fun f => outranks new f.ceiling) then s1.endForce .override else s1
    s2.rearm.reform

/-- The situation is ranked anew (R137). -/
def State.rerank (s : State) : State := s.takeSituation (rankSituation s.params.situation s.selector)

/-! ## Vehicle records (R132, R133) -/

/-- A record's fields replace the values held; an absent field keeps its value (8.2). -/
def Vehicle.updated (v r : Vehicle) : Vehicle :=
  ⟨r.speed.or v.speed, r.gear.or v.gear, r.kerb.or v.kerb, r.lift.or v.lift, r.step.or v.step⟩

/-- The turn dwell after a record that takes the indicator from `old` to `new` (R136). -/
def turnDwellAfter (p : SituationParams) (old new : Option Kerb) (dwell : Option Nat) : Option Nat :=
  if new = some .on then none
  else if old = some .on ∧ new = some .off ∧ p.turnDwell ≠ 0 then some p.turnDwell
  else dwell

/-- The selector after steps 1 to 4 of a vehicle record arrival (R133). -/
def Selector.takeRecord (sel : Selector) (p : SituationParams) (r : Vehicle) : Selector :=
  let v := sel.vehicle.updated r
  { sel with
    vehicle := v
    fresh := true
    timeout := some p.vehTimeout
    turnDwell := turnDwellAfter p sel.vehicle.kerb v.kerb sel.turnDwell
    creep := judgeCreep p v.speed sel.creep }

/-- Vehicle record arrival (R133). -/
def State.vehicleArrives (s : State) (r : Vehicle) : State :=
  { s with selector := s.selector.takeRecord s.params.situation r }.rerank

/-- The effect of VEHICLE STATE (R132). -/
def vehicleState (record : List Byte) (s : State) : Answer :=
  match readVehicle record with
  | .badLength => refuse .badLength s
  | .badValue => refuse .badValue s
  | .taken r clamped =>
    let s1 := s.vehicleArrives r
    ⟨statusOf clamped, .vehicle s1.selector.situation (requestedView s1.selector s1.views.live), s1⟩

/-! ## Timers -/

/-- The selector at vehicle timeout expiry, before the ranking (R134). -/
def Selector.goStale (sel : Selector) : Selector :=
  { sel with vehicle := .unknown, fresh := false, timeout := none, creep := false, turnDwell := none }

/-- Vehicle timeout expiry; it does not happen where a record taken before it has restarted the timeout (R134, log 1). -/
def State.vehicleTimeout (s : State) : State :=
  if s.selector.timeout = some 0 then { s with selector := s.selector.goStale }.rerank else s

/-- Turn dwell expiry; a dwell that has stopped or still runs does not expire (R136, log 1). -/
def State.turnDwellExpires (s : State) : State :=
  if s.selector.turnDwell = some 0 then { s with selector := { s.selector with turnDwell := none } }.rerank else s

/-- Force timer expiry; the timer of a force taken since does not expire (R142, log 1). -/
def State.forceTimerExpires (s : State) : State :=
  if s.selector.force.any (fun f => f.timer = some 0) then s.endForce .timeout else s

/-- View dwell timer expiry; a timer restarted since does not expire (R144, log 1). -/
def State.viewDwellExpires (s : State) : State :=
  if s.selector.dwell = some 0 then { s with selector := { s.selector with dwell := none } } else s

/-! ## Requests -/

/-- The effect of SET PARAMETERS of the situation group: stored, the creep flag judged on the present speed, the situation
ranked (R139). -/
def setParametersSituation (p : SituationParams) (s : State) : Answer :=
  let q := clampSituation p
  let sel := { s.selector with creep := judgeCreep q s.selector.vehicle.speed s.selector.creep }
  let s1 := { s with params := { s.params with situation := q }, selector := sel }
  ⟨statusOf (q ≠ p), .situation q, s1.rerank⟩

/-- The force timer of a timeout in seconds; 0 leaves it stopped (R141). -/
def forceTimer (seconds : Nat) : Option Nat := if seconds = 0 then none else some (1000 * seconds)

/-- The effect of FORCE VIEW (R141). -/
def forceView (f : ForceFields) (s : State) : Answer :=
  match index? 8 f.view, index? 8 f.ceiling with
  | some v, some ceiling =>
    if outranks s.selector.situation ceiling then refuse .badState s
    else
      let s1 := s.endForce .replaced
      let force : Force := ⟨v, ceiling, forceTimer (min 600 f.timeout)⟩
      ⟨statusOf (600 < f.timeout), .none,
        { s1 with selector := { s1.selector with force := some force, forceChange := true } }⟩
  | _, _ => refuse .badValue s

/-- The effect of RELEASE VIEW (R142). -/
def releaseView (_ : Unit) (s : State) : Answer :=
  if s.selector.force.isSome then ⟨.ok, .none, s.endForce .released⟩ else refuse .notFound s

/-! ## Output frame start (R143 to R145) -/

/-- The shown view may follow the requested view now (R143). -/
def Selector.mayChange (sel : Selector) : Bool :=
  sel.dwell.isNone || sel.situation = .noData || sel.situation = .reverse || sel.situation = .lift || sel.forceChange

/-- The view dwell timer as it starts; with VIEW_MIN_DWELL 0 it is expired at once (R144). -/
def startDwell (ms : Nat) : Option Nat := if ms = 0 then none else some ms

/-- What the selector latches (R145). -/
def Selector.takeLatch (sel : Selector) : SelectorLatch :=
  ⟨sel.situation, sel.shown, sel.vehicle.gear, sel.vehicle.kerb, isMoving sel.vehicle⟩

/-- The selector's part of an output frame start: the shown view, the VIEW report, the force change flag cleared, the latch
(R143 to R145). -/
def State.showView (s : State) : State :=
  let sel := s.selector
  let wanted := requestedView sel s.views.live
  let s1 := if wanted ≠ sel.shown ∧ sel.mayChange then
      { s with selector := { sel with shown := wanted, dwell := startDwell s.params.situation.viewMinDwell } }.queueReport
        (.view wanted sel.situation sel.force.isSome)
    else s
  { s1 with selector := { s1.selector with forceChange := false, latch := s1.selector.takeLatch } }

/-- The selector after RESTART: fields unknown, NO_DATA, no force, timers stopped; the shown view and the latch are kept
(R131, R180). -/
def Selector.restarted (sel : Selector) : Selector :=
  { Selector.initial with shown := sel.shown, latch := sel.latch }

/-! ## The commands -/

/-- VEHICLE_STATE (R132). -/
def execVehicleState (tag : Byte) (record : List Byte) (s : State) : Outcome :=
  request (.vehicleState tag record) 0x14 tag (vehicleState record) s

/-- SET_PARAMETERS_SITUATION (R139). -/
def execSetParametersSituation (tag : Byte) (b : Body SituationParams) (s : State) : Outcome :=
  request (.setParametersSituation tag b) 0x03 tag (Body.run b setParametersSituation) s

/-- FORCE_VIEW (R141). -/
def execForceView (tag : Byte) (b : Body ForceFields) (s : State) : Outcome :=
  request (.forceView tag b) 0x15 tag (Body.run b forceView) s

/-- RELEASE_VIEW (R142). -/
def execReleaseView (tag : Byte) (b : Body Unit) (s : State) : Outcome :=
  request (.releaseView tag b) 0x16 tag (Body.run b releaseView) s

/-- VEHICLE_TIMEOUT_EXPIRY (R134). -/
def execVehicleTimeoutExpiry (s : State) : Outcome := unlessHeld s State.vehicleTimeout

/-- TURN_DWELL_EXPIRY (R136). -/
def execTurnDwellExpiry (s : State) : Outcome := unlessHeld s State.turnDwellExpires

/-- FORCE_TIMER_EXPIRY (R142). -/
def execForceTimerExpiry (s : State) : Outcome := unlessHeld s State.forceTimerExpires

/-- VIEW_DWELL_TIMER_EXPIRY (R144). -/
def execViewDwellTimerExpiry (s : State) : Outcome := unlessHeld s State.viewDwellExpires

end Sys2Proof.Machine
end

