-- ==== Sys2Proof/Machine/Frame.lean ====
section
/-! DEFINITION. The output frame start: what each block that draws brings up to date and latches (R72). -/

namespace Sys2Proof.Machine

/-- The latches that follow from no other block's event: tone, zones, shapes, BLINK phase (R112, R129, R152, R159). -/
def State.drawLatches (s : State) : State :=
  { s with
    tones := mapTable Tone.takeLatch s.tones
    zones := s.zoneLatch
    shapes := { s.shapes with latched := s.shapes.shapes }
    cadence := s.cadence.takeLatch }

/-- Output frame start: health, then the apply, then the shown view, the output generator's latch, the source choice and
the remaining latches. The reports enter the queue in the order of R168 (R72, R168, log 11). -/
def State.frameStart (s : State) : State :=
  let s1 := s.storeFrameStart.applyAtStart.showView
  let s2 := { s1 with display := s1.outputLatch }
  (s2.chooseSources s2.display.latch.shown).drawLatches

/-- OUTPUT_FRAME_START (R72). -/
def execOutputFrameStart (s : State) : Outcome := unlessHeld s State.frameStart

end Sys2Proof.Machine
end

