-- ==== Sys2Proof/Machine/Grids.lean ====
section
/-! DEFINITION. The grid store (Chapter 3, 3.1 and 3.2) and its requests GRID BEGIN, GRID NODES, GRID END and GRID DROP. -/

namespace Sys2Proof.Machine

/-- The nodes that the grids hold together (R43). -/
def GridStore.used (gs : GridStore) : Nat := (gs.grids.toList.map Grid.size).sum

/-- Grid `g`. -/
def State.grid (s : State) (g : Fin 16) : Grid := look s.grids.grids g

/-- Grid `g` replaced, its nodes returned to the pool and the new grid's nodes taken from it (R43). -/
def GridStore.replace (gs : GridStore) (g : Fin 16) (x : Grid) : GridStore :=
  ⟨put gs.grids g x, gs.free + (look gs.grids g).size - x.size⟩

/-- Grid `g` replaced. -/
def State.setGrid (s : State) (g : Fin 16) (x : Grid) : State := { s with grids := s.grids.replace g x }

/-- A reply about grid `g`, with its state, its written marks and the pool's free count after the request (R49). -/
def gridAnswer (st : Status) (g : Fin 16) (s : State) : Answer :=
  ⟨st, .grid (s.grid g).state (s.grid g).written s.grids.free, s⟩

/-- Columns and rows in 2–17 (R45). -/
def gridSizeOk (cols rows : Nat) : Bool := 2 ≤ cols && cols ≤ 17 && 2 ≤ rows && rows ≤ 17

/-- The effect of GRID BEGIN (R45). -/
def gridBegin (f : GridBeginFields) (s : State) : Answer :=
  match index? 16 f.id with
  | none => refuse .badValue s
  | some g =>
    if !gridSizeOk f.cols f.rows then gridAnswer .badValue g s
    else if (s.grid g).isReady ∧ gridReferenced s.views g then gridAnswer .badState g s
    else if s.grids.free + (s.grid g).size < f.cols * f.rows then gridAnswer .noRoom g s
    else gridAnswer .ok g (s.setGrid g (.loading f.cols f.rows (List.replicate (f.cols * f.rows) none)))

/-- Nodes written at consecutive indices from `first`, each with its written mark (R46). -/
def writeNodes (nodes : List (Option Node)) (first : Nat) (new : List Node) : List (Option Node) :=
  nodes.mapIdx fun i old => if first ≤ i then new[i - first]?.or old else old

/-- The effect of GRID NODES (R46). -/
def gridNodes (f : GridNodesFields) (s : State) : Answer :=
  if f.nodes = [] ∨ 40 < f.nodes.length then refuse .badLength s
  else
    match index? 16 f.id with
    | none => refuse .badValue s
    | some g =>
      match s.grid g with
      | .loading cols rows nodes =>
        if cols * rows < f.first + f.nodes.length then gridAnswer .badValue g s
        else gridAnswer .ok g (s.setGrid g (.loading cols rows (writeNodes nodes f.first f.nodes)))
      | .empty | .ready _ _ _ => gridAnswer .badState g s

/-- The effect of GRID END (R47). -/
def gridEnd (id : Nat) (s : State) : Answer :=
  match index? 16 id with
  | none => refuse .badValue s
  | some g =>
    match s.grid g with
    | .loading cols rows nodes =>
      if nodes.all Option.isSome then gridAnswer .ok g (s.setGrid g (.ready cols rows (nodes.filterMap fun n => n)))
      else gridAnswer .badState g s
    | .empty | .ready _ _ _ => gridAnswer .badState g s

/-- The effect of GRID DROP (R48). -/
def gridDrop (id : Nat) (s : State) : Answer :=
  match index? 16 id with
  | none => refuse .badValue s
  | some g =>
    match s.grid g with
    | .empty => gridAnswer .notFound g s
    | .loading _ _ _ => gridAnswer .ok g (s.setGrid g .empty)
    | .ready _ _ _ =>
      if gridReferenced s.views g then gridAnswer .badState g s else gridAnswer .ok g (s.setGrid g .empty)

/-- A grid after RESTART: a LOADING grid is EMPTY (R42). -/
def Grid.restarted : Grid → Grid
  | .loading _ _ _ => .empty
  | .empty => .empty
  | .ready cols rows nodes => .ready cols rows nodes

/-- The grid store after RESTART: the free count is 2048 less the nodes kept (R42). -/
def GridStore.restarted (gs : GridStore) : GridStore :=
  let grids := mapTable Grid.restarted gs.grids
  ⟨grids, 2048 - (grids.toList.map Grid.size).sum⟩

/-! ## The commands -/

/-- GRID_BEGIN (R45). -/
def execGridBegin (tag : Byte) (b : Body GridBeginFields) (s : State) : Outcome :=
  request (.gridBegin tag b) 0x08 tag (Body.run b gridBegin) s

/-- GRID_NODES (R46). -/
def execGridNodes (tag : Byte) (b : Body GridNodesFields) (s : State) : Outcome :=
  request (.gridNodes tag b) 0x09 tag (Body.run b gridNodes) s

/-- GRID_END (R47). -/
def execGridEnd (tag : Byte) (b : Body Nat) (s : State) : Outcome :=
  request (.gridEnd tag b) 0x0A tag (Body.run b gridEnd) s

/-- GRID_DROP (R48). -/
def execGridDrop (tag : Byte) (b : Body Nat) (s : State) : Outcome :=
  request (.gridDrop tag b) 0x0B tag (Body.run b gridDrop) s

end Sys2Proof.Machine
end

