-- ==== Sys2Proof/Machine/Modes.lean ====
section
/-! DEFINITION. Mode control (Chapter 11): MODE, entering and leaving RUN, power-on, RESET and RESTART. -/

namespace Sys2Proof.Machine

/-- The mode leaves RUN for `m`: the cadence channels enter IDLE, the ports go OFF in order 0 to 3, and one HAZARD report
follows them (R159, R178). -/
def State.leaveRun (s : State) (m : OpMode) (cause : LinkCause) : State :=
  let s1 := { s with mode := m, cadence := s.cadence.leaveRun }
  (allCams.foldl (fun t c => t.goOffUnlessOff c cause) s1).refreshHazard

/-- The mode becomes RUN: the ENABLED ports leave OFF and the channels re-form their triggers (R177). The ports leave OFF in the
order 0 to 3, and each queues its LINK report, then its HEALTH report, before the next one's (DESIGN CHOICE, log 11). -/
def State.enterRun (s : State) : State :=
  (allCams.foldl State.leaveOff { s with mode := .run }).reform

/-- A reply to MODE, with the operating mode after the request (R176). -/
def modeAnswer (st : Status) (s : State) : Answer := ⟨st, .mode s.mode, s⟩

/-- The effect of MODE CONFIG (R176, R178). -/
def modeConfig (_ : Unit) (s : State) : Answer :=
  match s.mode with
  | .config => modeAnswer .ok s
  | .run => modeAnswer .ok (s.leaveRun .config .leftRun)
  | .standby => modeAnswer .ok { s with mode := .config }

/-- The effect of MODE RUN (R176, R177). -/
def modeRun (_ : Unit) (s : State) : Answer :=
  match s.mode with
  | .run => modeAnswer .ok s
  | .config | .standby => if s.views.live.mapsEmptyView then modeAnswer .badState s else modeAnswer .ok s.enterRun

/-- The effect of MODE STANDBY (R176, R178). -/
def modeStandby (_ : Unit) (s : State) : Answer :=
  match s.mode with
  | .config => modeAnswer .badState s
  | .run => modeAnswer .ok (s.leaveRun .standby .leftRun)
  | .standby => modeAnswer .ok s

/-- A window after RESTART: its active definition is kept (R85). -/
def Window.restarted (w : Window) : Window := { Window.initial with active := w.active }

/-- A seam pair after RESTART: its windows and flag are kept (R108). -/
def SeamPair.restarted (p : SeamPair) : SeamPair := { p with correction := 0, camera := none }

/-- The zones after RESTART: every zone is initial, every latched zone of the zone watch IDLE and its latched hazard false, as
the table of R122 has it (DEDUCED, log 4). The output frame in progress keeps the latch of its own start, which the output
generator holds (R72, R83). The hazard zone list and flag follow the zones (R128). -/
def ZoneWatch.restarted (z : ZoneWatch) : ZoneWatch :=
  { z with
    zones := mapTable (Option.map fun _ => Zone.initial) z.zones
    latchedHazard := false
    latchedZones := z.latchedZones.map fun l => { l with state := .idle } }

/-- The effect of RESTART: the queues are emptied, the ports go OFF, and every block takes its after-RESTART value
(R171, R180). -/
def restart (_ : Unit) (s : State) : Answer :=
  let s1 := { s with control := s.control.restarted }
  let s2 := { s1 with mode := .config, cadence := s1.cadence.leaveRun }
  let s3 := allCams.foldl (fun t c => t.goOffUnlessOff c .restarted) s2
  let s4 := { s3 with
    grids := s3.grids.restarted
    views := s3.views.restarted
    windows := mapTable Window.restarted s3.windows
    tones := mapTable Tone.restarted s3.tones
    seams := mapTable SeamPair.restarted s3.seams
    clarities := mapTable Clarity.cleared s3.clarities
    zones := s3.zones.restarted
    selector := s3.selector.restarted }
  ⟨.ok, .none, s4.refreshHazard⟩

/-! ## The commands -/

/-- POWER_ON (R179). -/
def execPowerOn (levels : PowerInputs) (s : State) : Outcome :=
  commit (State.atPowerOn levels (s.epoch + 1) s.choices s.pending)

/-- RESET_ASSERT: the part is held, sends nothing on the control link and sends no output frame (R179). What the other
blocks hold while RESET is low is left as it was (log 14). -/
def execResetAssert (s : State) : Outcome := commit { s with held := true, control := s.control.hushed }

/-- MODE_CONFIG (R176). -/
def execModeConfig (tag : Byte) (b : Body Unit) (s : State) : Outcome :=
  request (.modeConfig tag b) 0x1D tag (Body.run b modeConfig) s

/-- MODE_RUN (R176). -/
def execModeRun (tag : Byte) (b : Body Unit) (s : State) : Outcome :=
  request (.modeRun tag b) 0x1D tag (Body.run b modeRun) s

/-- MODE_STANDBY (R176). -/
def execModeStandby (tag : Byte) (b : Body Unit) (s : State) : Outcome :=
  request (.modeStandby tag b) 0x1D tag (Body.run b modeStandby) s

/-- RESTART (R180). -/
def execRestart (tag : Byte) (b : Body Unit) (s : State) : Outcome :=
  request (.restart tag b) 0x1E tag (Body.run b restart) s

end Sys2Proof.Machine
end

