-- ==== Sys2Proof/Machine/Dispatch.lean ====
section
/-! DEFINITION. What each command does: one arm for each constructor, one call of the command's meaning. -/

namespace Sys2Proof.Machine

def exec (i : Instr) (s : State) : Host.Outcome State Fault Refusal :=
  match i with
  | .powerOn levels => Sys2Proof.Machine.execPowerOn levels s
  | .resetAssert => Sys2Proof.Machine.execResetAssert s
  | .carrierGain c => Sys2Proof.Machine.execCarrierGain c s
  | .carrierLoss c => Sys2Proof.Machine.execCarrierLoss c s
  | .announceArrival c r check => Sys2Proof.Machine.execAnnounceArrival c r check s
  | .trainingSegmentArrival c r check => Sys2Proof.Machine.execTrainingSegmentArrival c r check s
  | .frameHeaderArrival c h check => Sys2Proof.Machine.execFrameHeaderArrival c h check s
  | .segmentArrival c k body check => Sys2Proof.Machine.execSegmentArrival c k body check s
  | .frameTrailerArrival c number check => Sys2Proof.Machine.execFrameTrailerArrival c number check s
  | .unknownRecordArrival c => Sys2Proof.Machine.execUnknownRecordArrival c s
  | .announceTimerExpiry c => Sys2Proof.Machine.execAnnounceTimerExpiry c s
  | .trainTimerExpiry c => Sys2Proof.Machine.execTrainTimerExpiry c s
  | .backChannelRecordSent c => Sys2Proof.Machine.execBackChannelRecordSent c s
  | .outputFrameStart => Sys2Proof.Machine.execOutputFrameStart s
  | .displaySenseChange level => Sys2Proof.Machine.execDisplaySenseChange level s
  | .displaySenseTimerExpiry => Sys2Proof.Machine.execDisplaySenseTimerExpiry s
  | .holdTimerExpiry w => Sys2Proof.Machine.execHoldTimerExpiry w s
  | .vehicleTimeoutExpiry => Sys2Proof.Machine.execVehicleTimeoutExpiry s
  | .turnDwellExpiry => Sys2Proof.Machine.execTurnDwellExpiry s
  | .forceTimerExpiry => Sys2Proof.Machine.execForceTimerExpiry s
  | .viewDwellTimerExpiry => Sys2Proof.Machine.execViewDwellTimerExpiry s
  | .onTimeExpiry ch => Sys2Proof.Machine.execOnTimeExpiry ch s
  | .offTimeExpiry ch => Sys2Proof.Machine.execOffTimeExpiry ch s
  | .byteGapTimerExpiry => Sys2Proof.Machine.execByteGapTimerExpiry s
  | .controlFrameComplete b => Sys2Proof.Machine.execControlFrameComplete b s
  | .frameSendEnd => Sys2Proof.Machine.execFrameSendEnd s
  | .unknownRequest kind tag => Sys2Proof.Machine.execUnknownRequest kind tag s
  | .identify tag b => Sys2Proof.Machine.execIdentify tag b s
  | .status tag b => Sys2Proof.Machine.execStatus tag b s
  | .setParametersLink tag b => Sys2Proof.Machine.execSetParametersLink tag b s
  | .setParametersStore tag b => Sys2Proof.Machine.execSetParametersStore tag b s
  | .setParametersTone tag b => Sys2Proof.Machine.execSetParametersTone tag b s
  | .setParametersToneLimits tag b => Sys2Proof.Machine.execSetParametersToneLimits tag b s
  | .setParametersClarity tag b => Sys2Proof.Machine.execSetParametersClarity tag b s
  | .setParametersClarityLimits tag b => Sys2Proof.Machine.execSetParametersClarityLimits tag b s
  | .setParametersZone tag b => Sys2Proof.Machine.execSetParametersZone tag b s
  | .setParametersSituation tag b => Sys2Proof.Machine.execSetParametersSituation tag b s
  | .setParametersCadence tag b => Sys2Proof.Machine.execSetParametersCadence tag b s
  | .portEnable tag b => Sys2Proof.Machine.execPortEnable tag b s
  | .portDisable tag b => Sys2Proof.Machine.execPortDisable tag b s
  | .linkRestart tag b => Sys2Proof.Machine.execLinkRestart tag b s
  | .portPreferenceList tag b => Sys2Proof.Machine.execPortPreferenceList tag b s
  | .windowSet tag b => Sys2Proof.Machine.execWindowSet tag b s
  | .windowDrop tag b => Sys2Proof.Machine.execWindowDrop tag b s
  | .seamSet tag b => Sys2Proof.Machine.execSeamSet tag b s
  | .gridBegin tag b => Sys2Proof.Machine.execGridBegin tag b s
  | .gridNodes tag b => Sys2Proof.Machine.execGridNodes tag b s
  | .gridEnd tag b => Sys2Proof.Machine.execGridEnd tag b s
  | .gridDrop tag b => Sys2Proof.Machine.execGridDrop tag b s
  | .shapeSet tag b => Sys2Proof.Machine.execShapeSet tag b s
  | .shapeDrop tag b => Sys2Proof.Machine.execShapeDrop tag b s
  | .setOverlayList tag b => Sys2Proof.Machine.execSetOverlayList tag b s
  | .viewSet tag b => Sys2Proof.Machine.execViewSet tag b s
  | .paneSet tag b => Sys2Proof.Machine.execPaneSet tag b s
  | .paneDrop tag b => Sys2Proof.Machine.execPaneDrop tag b s
  | .viewMapSet tag b => Sys2Proof.Machine.execViewMapSet tag b s
  | .applyTables tag b => Sys2Proof.Machine.execApplyTables tag b s
  | .vehicleState tag record => Sys2Proof.Machine.execVehicleState tag record s
  | .forceView tag b => Sys2Proof.Machine.execForceView tag b s
  | .releaseView tag b => Sys2Proof.Machine.execReleaseView tag b s
  | .silence tag b => Sys2Proof.Machine.execSilence tag b s
  | .readCamera tag b => Sys2Proof.Machine.execReadCamera tag b s
  | .readMeter tag b => Sys2Proof.Machine.execReadMeter tag b s
  | .readTable tag b => Sys2Proof.Machine.execReadTable tag b s
  | .counterSelect tag b => Sys2Proof.Machine.execCounterSelect tag b s
  | .counterRead tag b => Sys2Proof.Machine.execCounterRead tag b s
  | .modeConfig tag b => Sys2Proof.Machine.execModeConfig tag b s
  | .modeRun tag b => Sys2Proof.Machine.execModeRun tag b s
  | .modeStandby tag b => Sys2Proof.Machine.execModeStandby tag b s
  | .restart tag b => Sys2Proof.Machine.execRestart tag b s
  | .byteReceived b => Sys2Proof.Machine.execByteReceived b s

end Sys2Proof.Machine
end

