-- ==== Sys2Proof/Machine/Step.lean ====
section
/-! DEFINITION. The step: the command at the front of the queue, or one millisecond of the part's timebase. -/

namespace Sys2Proof.Machine

/-- The state whose queue is replaced. -/
def State.withPending (s : State) (q : List Instr) : State := { s with pending := q }

/-- One step. The command at the front of the queue is taken out and run; on an empty queue one millisecond passes
(DESIGN CHOICE, log 2). The timers count down while RESET is held low too, where the manual is silent; power-on sets every
one of them anew (DESIGN CHOICE, log 14). -/
def step (s : State) : Host.Outcome State Fault Refusal :=
  match s.pending with
  | [] => .next s.tick
  | c :: rest => exec c (s.withPending rest)

/-- The command that a word spells put at the front of the queue; no row of the table gives bits, so no word spells one. -/
def State.withFetchWord (s : State) (nbits w : Nat) : State :=
  match decodeTableWord nbits w with
  | some c => s.withPending (c :: s.pending)
  | none => s

end Sys2Proof.Machine
end

