-- ==== Sys2Proof/Safety.lean ====
section
/-! DEFINITION. What a safe run keeps: the laws of the device that the manual states for its blocks, each as a property of one
state, and the conditions under which a request is taken at once. -/

namespace Sys2Proof.Machine

/-! ## The laws of the device -/

/-- The nodes of the grids and the free nodes make up the pool of 2048 (R43). -/
def State.GridLaw (s : State) : Prop := s.grids.used + s.grids.free = 2048

/-- The points of all defined shapes (R146). -/
def ShapeStore.used (st : ShapeStore) : Nat := (st.shapes.toList.map shapePoints).sum

/-- The points of the shapes and the free points make up the budget of 512 (R146). -/
def State.ShapeLaw (s : State) : Prop := s.shapes.used + s.shapes.free = 512

/-- At most four requests wait, eight reports, four FULL replies and one reply of the processor; nothing waits while the line
is idle, and the line is idle while RESET is held (R164, R165, R167, R168, R179). -/
def State.QueueLaw (s : State) : Prop :=
  s.control.requests.length ≤ 4 ∧ s.control.reports.length ≤ 8
    ∧ s.control.replies.countP (fun r => r.status = .full) ≤ 4 ∧ s.control.replies.countP (fun r => r.status ≠ .full) ≤ 1
    ∧ (s.control.sending = none → s.control.replies = [] ∧ s.control.reports = [])
    ∧ (s.held = true → s.control.sending = none)

/-- Every camera's gain lies in 128 to 1023 (R104). -/
def State.GainLaw (s : State) : Prop := ∀ c, 128 ≤ (s.tone c).gain ∧ (s.tone c).gain ≤ 1023

/-- The BUZZ line is driven only in RUN, only while the channel is ON, and never while silenced (R158). -/
def State.BuzzerLaw (s : State) : Prop :=
  (s.pins.buzz.isSome → s.mode = .run ∧ s.cadence.buzz.state = .on ∧ s.cadence.buzz.silenced = false)
    ∧ (s.cadence.buzz.silenced = true → s.cadence.buzz.state = .done)

/-- The output pins are those the state calls for. While RESET is held low every power switch is off and BUZZ is low (R179).
Otherwise a camera's power switch is on while the part is in RUN and its port ENABLED, and while the port sends its RELEASE
or the RELEASE waits (R4, R6); and BUZZ carries the tone in use while the part is in RUN and the BUZZ channel is ON, and is low
in every other case (R158). -/
def State.PinLaw (s : State) : Prop :=
  (s.held = true → (∀ c, look s.pins.power c = false) ∧ s.pins.buzz = none)
    ∧ (s.held = false →
      (∀ c, look s.pins.power c = true ↔ s.mode = .run ∧ (s.port c).enabled = true
        ∨ (s.port c).backSending = some .release ∨ .release ∈ (s.port c).backWaiting)
      ∧ s.pins.buzz = if s.mode = .run ∧ s.cadence.buzz.state = .on then some s.cadence.buzz.toneInUse else none)

/-- The present panes of both copies of the tables. -/
def State.HasPane (s : State) (p : Pane) : Prop :=
  ∃ v k, look (look s.views.live.views v).panes k = some p ∨ look (look s.views.edit.views v).panes k = some p

/-- Every grid a present pane names is READY and fits the pane (R44, R50). -/
def State.PaneLaw (s : State) : Prop := ∀ p, s.HasPane p → paneFits s.grids p = true

/-- Every shape an overlay list names is defined (R148). -/
def State.ListLaw (s : State) : Prop := ∀ k, shapeReferenced s.views k = true → (s.shape k).isSome

/-- One CLARITY window a camera and eight WATCH windows at most (R87). -/
def State.WindowLaw (s : State) : Prop := windowLimits s.windows = true

/-- The common list is the preference list filtered to the announced modes, and a port in TRAINING or STREAMING has a
current mode of both lists (R10, R12). -/
def State.ModeLaw (s : State) : Prop :=
  ∀ c, let p := s.port c
    p.common = commonList p.preference p.announceList
      ∧ (p.link = .training ∨ p.link = .streaming →
        ∃ m, p.mode = some m ∧ m ∈ p.preference ∧ m ∈ p.announceList)

/-- Every camera's health is the one its inputs give (R36, R37). -/
def State.HealthLaw (s : State) : Prop := ∀ c, (s.store c).health = s.healthOf c

/-- A window has a zone exactly while its active definition is WATCH; an ACTIVE zone is armed; the hazard zone list and the
hazard flag are those of the ACTIVE zones (R122, R123, R128). -/
def State.HazardLaw (s : State) : Prop :=
  (∀ w, (s.zone w).isSome = (s.window w).active.any (·.isWatch))
    ∧ (∀ w z, s.zone w = some z → z.state = .active → (s.window w).armed s.selector.situation = true)
    ∧ s.zones.hazardList = activeZones s.zones.zones ∧ s.zones.hazard = !(activeZones s.zones.zones).isEmpty

/-- Every channel's combined trigger is the one its inputs give (R155). -/
def State.TriggerLaw (s : State) : Prop :=
  s.cadence.blink.trigger = combinedTrigger s s.cadence.blink.mask
    ∧ s.cadence.buzz.trigger = combinedTrigger s s.cadence.buzz.mask

/-- The age law of a segment entry (R29). -/
def SegEntry.AgeLaw (e : SegEntry) (holdLimit : Nat) : Prop :=
  match e.state with
  | .empty => e.age = 0 ∧ e.lastGood = none
  | .fresh => e.age = 0
  | .held => 1 ≤ e.age ∧ e.age ≤ holdLimit ∧ e.age ≤ 15
  | .stale => e.age ≤ 15

/-- Every segment entry keeps the age law (R29). -/
def State.SegmentLaw (s : State) : Prop := ∀ c, ∀ e ∈ (s.store c).table, e.AgeLaw s.params.store.holdLimit

/-- A port that is OFF has no mode, and a camera's segment table has one entry for each segment of its port's mode, none
while the mode is absent (R3, R25). -/
def State.TableLaw (s : State) : Prop :=
  ∀ c, ((s.port c).link = .off → (s.port c).mode = none)
    ∧ (s.store c).table.length = ((s.port c).mode.map modeSegments).getD 0

/-- Every list of banks is in its canonical form, the latched ones too. -/
def State.BankLaw (s : State) : Prop :=
  ∀ c, banksWf (s.store c).banks = true ∧ banksWf (s.store c).latch.contents = true

/-- The laws together: what a safe run keeps. -/
structure State.Safe (s : State) : Prop where
  grid : s.GridLaw
  shape : s.ShapeLaw
  queue : s.QueueLaw
  gain : s.GainLaw
  buzzer : s.BuzzerLaw
  pin : s.PinLaw
  pane : s.PaneLaw
  list : s.ListLaw
  window : s.WindowLaw
  mode : s.ModeLaw
  health : s.HealthLaw
  hazard : s.HazardLaw
  trigger : s.TriggerLaw
  segment : s.SegmentLaw
  table : s.TableLaw
  bank : s.BankLaw

/-! ## What an event leaves as it was -/

/-- A channel's settings (R154). -/
def Channel.settings (ch : Channel) : Nat × Nat × Nat × TriggerMask × Nat :=
  (ch.onTime, ch.offTime, ch.burst, ch.mask, ch.tone)

/-- What an event leaves outside the blocks it acts on: of the control link the line rate and the receiver, which reports and
counts do not touch (R168, R174), of the cadence generator the settings and the latch, which triggers do not touch (R155). -/
structure Beside (s t : State) : Prop where
  rate : t.control.rate = s.control.rate
  rx : t.control.rx = s.control.rx
  blink : t.cadence.blink.settings = s.cadence.blink.settings
  buzz : t.cadence.buzz.settings = s.cadence.buzz.settings
  phase : t.cadence.latchedPhase = s.cadence.latchedPhase

/-- What an event of camera `c` leaves: the other cameras' shares of every block, the windows and zones that do not serve
`c`, every window's definition and pending change, and the blocks that no camera event reaches. -/
structure CameraFrame (c : Cam) (s t : State) : Prop extends Beside s t where
  ports : ∀ d, d ≠ c → t.port d = s.port d
  stores : ∀ d, d ≠ c → t.store d = s.store d
  tones : ∀ d, d ≠ c → t.tone d = s.tone d
  clarities : ∀ d, d ≠ c → t.clarity d = s.clarity d
  windows : ∀ w, (s.window w).serves c = false → t.window w = s.window w ∧ t.zone w = s.zone w
  changes : ∀ w, (t.window w).active = (s.window w).active ∧ (t.window w).change = (s.window w).change
  latches : t.zones.latchedHazard = s.zones.latchedHazard ∧ t.zones.latchedZones = s.zones.latchedZones
  rest : { t with
    ports := s.ports, stores := s.stores, tones := s.tones, clarities := s.clarities, windows := s.windows
    zones := s.zones, seams := s.seams, cadence := s.cadence, control := s.control, choices := s.choices
    pins := s.pins } = s

/-- What an event of the situation selector leaves: every block but the selector, the zones, the cadence channels and the
reports. -/
structure SelectorFrame (s t : State) : Prop extends Beside s t where
  latches : t.zones.latchedHazard = s.zones.latchedHazard ∧ t.zones.latchedZones = s.zones.latchedZones
  kept : t.selector.shown = s.selector.shown ∧ t.selector.dwell = s.selector.dwell ∧ t.selector.latch = s.selector.latch
  rest : { t with
    params := s.params, selector := s.selector, zones := s.zones, cadence := s.cadence, control := s.control
    pins := s.pins } = s

/-- A window whose camera's port has left STREAMING: no measurement, the accumulators at 0, no latest result (R97). -/
def Window.unmeasured (w : Window) : Window :=
  { w with measuring := false, acc := ⟨0, 0, 0, 0, List.replicate 16 0, List.replicate 16 0⟩, ranges := none, result := none }

/-- What leaving STREAMING does to what follows camera `c`: its windows lose their result and measurement (R97), its tone
counts become 0 (R107), its zones lose their stored means and a COUNTING zone becomes IDLE (R127). -/
structure LeavesStreaming (c : Cam) (s t : State) : Prop where
  windows : ∀ w, t.window w = if (s.window w).serves c then (s.window w).unmeasured else s.window w
  tone : t.tone c = { s.tone c with high := 0, low := 0, settle := 0 }
  zones : ∀ w, t.zone w = if (s.window w).serves c then
      (s.zone w).map fun z =>
        { z with valid := false, count := 0, state := if z.state = .counting then .idle else z.state }
    else s.zone w
  hazard : t.zones.hazard = s.zones.hazard ∧ t.zones.hazardList = s.zones.hazardList

/-- What leaving STREAMING would act on is left as it was. -/
structure KeepsStreaming (c : Cam) (s t : State) : Prop where
  windows : t.windows = s.windows
  tone : t.tone c = s.tone c
  zones : t.zones = s.zones

/-- A port as it stands once it has gone OFF: the "on going OFF" values of R3, and RELEASE as the last record of the back
channel where carrier is present (R6, R17). -/
def Port.gone (p : Port) : Port where
  enabled := p.enabled
  link := .off
  carrier := p.carrier
  preference := p.preference
  announceList := []
  common := []
  typeCode := none
  maxExposure := none
  mode := none
  exposure := 0
  announceTimer := none
  announceCount := 0
  trainTimer := none
  attempts := 0
  trainExpected := 0
  trainBad := 0
  phase := .noFrame
  frameNumber := 0
  expected := 0
  previous := none
  resultMap := []
  badFrames := 0
  backSending := if p.carrier ∧ p.backSending = none then some .release else p.backSending
  backWaiting := if p.carrier ∧ p.backSending ≠ none then [.release] else []

/-! ## Records and reports in their order -/

/-- What the back channel sends and what waits once a port has issued records: the first is sent where nothing is being
sent, the others wait, and without carrier all are discarded (R6). -/
def Port.backAfter (p : Port) (rs : List BackRecord) : Option BackRecord × List BackRecord :=
  if p.carrier = false then (p.backSending, p.backWaiting)
  else match p.backSending with
    | none => (rs.head?, p.backWaiting ++ rs.tail)
    | some r => (some r, p.backWaiting ++ rs)

/-- Reports queued one after another (R168). -/
def Control.queueAll (k : Control) (rs : List Report) : Control := rs.foldl Control.queueReport k

/-- The HEALTH report of camera `c` between two states, where its health differs (R37). -/
def healthReport (s t : State) (c : Cam) : List Report :=
  if (t.store c).health = (s.store c).health then []
  else [.health c (s.store c).health (t.store c).health ((t.store c).table.countP fun e =>
    e.state = .empty ∨ e.state = .stale)]

/-- The HAZARD report between two states, where the hazard zone list differs: the flag, and for each listed zone its window and
the camera of its active definition (R128). -/
def hazardReport (s t : State) : List Report :=
  if t.zones.hazardList = s.zones.hazardList then []
  else [.hazard (!t.zones.hazardList.isEmpty) (t.zones.hazardList.map fun w => (w, t.zoneCamera w))]

/-- What follows from a ranking that takes the selector from `s` to `t`, on the control link `k`: at a change of situation a
force that the new situation outranks ends by OVERRIDE, with its FORCE ENDED report and the force change flag set, every
zone that is unarmed becomes IDLE, and the HAZARD report follows; without a change nothing does (R123, R128, R138, R142). -/
structure SituationFollowed (s t : State) (k : Control) : Prop where
  force : t.selector.force = if t.selector.situation = s.selector.situation then s.selector.force
    else s.selector.force.filter fun f =>
      !(1 ≤ (situationCode t.selector.situation).val && (situationCode t.selector.situation).val ≤ f.ceiling.val)
  forceChange : t.selector.forceChange = (s.selector.forceChange || s.selector.force.isSome && t.selector.force.isNone)
  zones : ∀ w, t.zone w = if t.selector.situation = s.selector.situation then s.zone w
    else (s.zone w).map fun z => if (s.window w).armed t.selector.situation then z
      else { z with state := .idle, count := 0, hold := none }
  control : t.control = k.queueAll ((match s.selector.force, t.selector.force with
    | some f, none => [.forceEnded f.view f.ceiling .override t.selector.situation]
    | _, _ => []) ++ hazardReport s t)

/-! ## Marks on the screen -/

/-- The set pixels of a 16 × 16 pattern whose top left corner stands at `ox`, `oy`, each of its pixels `size` pixels wide and
high (R79, R151). -/
abbrev InMark (pattern : Nat → Nat → Bool) (size ox oy x y : Nat) : Prop :=
  ox ≤ x ∧ x < ox + 16 * size ∧ oy ≤ y ∧ y < oy + 16 * size ∧ pattern ((x - ox) / size) ((y - oy) / size) = true

/-! ## When a request is taken, and its reply -/

/-- A request that may be taken at once: RESET is not held, the queue is empty or the request stands at its head, and no
reply of the processor waits (R165). -/
structure Takes (s : State) (r : Instr) : Prop where
  live : s.held = false
  head : s.control.requests = [] ∨ s.control.requests.head? = some r
  free : s.control.processorFree = true

/-- The control link with a request taken from its queue and the reply made: it is being sent, or it waits in the reply
list (R165, R167). -/
def Control.replied (k : Control) (kind tag : Byte) (st : Status) (data : ReplyData) : Control :=
  if k.sending = none then
    { k with requests := k.requests.tail, sending := some (.reply ⟨replyKind kind, tag, st, data⟩) }
  else { k with requests := k.requests.tail, replies := k.replies ++ [⟨replyKind kind, tag, st, data⟩] }

/-- The state with a request taken and answered, its effect apart. -/
def State.replied (s : State) (kind tag : Byte) (st : Status) (data : ReplyData) : State :=
  { s with control := s.control.replied kind tag st data }

end Sys2Proof.Machine
end

