-- ==== Sys2Proof/WellFormed.lean ====
section
/-! DEFINITION. Which commands can come to the part at all: the checks that a command's operands' types do not make.

A request with fields out of range is well formed: the part answers it (R165). -/

namespace Sys2Proof

/-- The request kinds of R169, 0x01 to 0x1E. -/
def isRequestKind (kind : Byte) : Bool := decide (1 ≤ kind.toNat) && decide (kind.toNat ≤ 0x1E)

/-- The kinds of more than one row of the table: SET PARAMETERS, PORT CONTROL and MODE (R169). A selector of theirs that
is none of its defined values leaves the request to no row but UNKNOWN_REQUEST (R165, step 2). -/
def hasSelector (kind : Byte) : Bool := kind = 0x03 || kind = 0x04 || kind = 0x1D

/-- A SEGMENT record holds 16 lines of one of the modes' widths (R1, R5). -/
def segmentShape (body : SegmentBody) : Bool :=
  body.length = 16 && [1280, 1024, 800, 640].any fun w => body.all fun line => line.length = w

/-- A field of a camera record that is one byte (R5, log 16). -/
def oneByteField (n : Nat) : Bool := n < 256

/-- The commands that can come to the part. -/
def WellFormed : Instr → Bool
  | .announceArrival _ r _ => oneByteField r.maxExposure && r.modes.all oneByteField
  | .trainingSegmentArrival _ r _ => oneByteField r.index
  | .frameHeaderArrival _ h _ => oneByteField h.mode && oneByteField h.exposure
  | .segmentArrival _ i body _ => oneByteField i && segmentShape body
  | .unknownRequest kind _ => !isRequestKind kind || hasSelector kind
  | .vehicleState _ record => record.length ≤ 240
  | _ => true

/-- The KIND and the TAG of a request; an event is no request (R162, R169). -/
def requestOf? : Instr → Option (Byte × Byte)
  | .powerOn _ => none
  | .resetAssert => none
  | .carrierGain _ => none
  | .carrierLoss _ => none
  | .announceArrival _ _ _ => none
  | .trainingSegmentArrival _ _ _ => none
  | .frameHeaderArrival _ _ _ => none
  | .segmentArrival _ _ _ _ => none
  | .frameTrailerArrival _ _ _ => none
  | .unknownRecordArrival _ => none
  | .announceTimerExpiry _ => none
  | .trainTimerExpiry _ => none
  | .backChannelRecordSent _ => none
  | .outputFrameStart => none
  | .displaySenseChange _ => none
  | .displaySenseTimerExpiry => none
  | .holdTimerExpiry _ => none
  | .vehicleTimeoutExpiry => none
  | .turnDwellExpiry => none
  | .forceTimerExpiry => none
  | .viewDwellTimerExpiry => none
  | .onTimeExpiry _ => none
  | .offTimeExpiry _ => none
  | .byteGapTimerExpiry => none
  | .controlFrameComplete _ => none
  | .frameSendEnd => none
  | .unknownRequest kind tag => some (kind, tag)
  | .identify tag _ => some (0x01, tag)
  | .status tag _ => some (0x02, tag)
  | .setParametersLink tag _ => some (0x03, tag)
  | .setParametersStore tag _ => some (0x03, tag)
  | .setParametersTone tag _ => some (0x03, tag)
  | .setParametersToneLimits tag _ => some (0x03, tag)
  | .setParametersClarity tag _ => some (0x03, tag)
  | .setParametersClarityLimits tag _ => some (0x03, tag)
  | .setParametersZone tag _ => some (0x03, tag)
  | .setParametersSituation tag _ => some (0x03, tag)
  | .setParametersCadence tag _ => some (0x03, tag)
  | .portEnable tag _ => some (0x04, tag)
  | .portDisable tag _ => some (0x04, tag)
  | .linkRestart tag _ => some (0x04, tag)
  | .portPreferenceList tag _ => some (0x04, tag)
  | .windowSet tag _ => some (0x05, tag)
  | .windowDrop tag _ => some (0x06, tag)
  | .seamSet tag _ => some (0x07, tag)
  | .gridBegin tag _ => some (0x08, tag)
  | .gridNodes tag _ => some (0x09, tag)
  | .gridEnd tag _ => some (0x0A, tag)
  | .gridDrop tag _ => some (0x0B, tag)
  | .shapeSet tag _ => some (0x0C, tag)
  | .shapeDrop tag _ => some (0x0D, tag)
  | .setOverlayList tag _ => some (0x0E, tag)
  | .viewSet tag _ => some (0x0F, tag)
  | .paneSet tag _ => some (0x10, tag)
  | .paneDrop tag _ => some (0x11, tag)
  | .viewMapSet tag _ => some (0x12, tag)
  | .applyTables tag _ => some (0x13, tag)
  | .vehicleState tag _ => some (0x14, tag)
  | .forceView tag _ => some (0x15, tag)
  | .releaseView tag _ => some (0x16, tag)
  | .silence tag _ => some (0x17, tag)
  | .readCamera tag _ => some (0x18, tag)
  | .readMeter tag _ => some (0x19, tag)
  | .readTable tag _ => some (0x1A, tag)
  | .counterSelect tag _ => some (0x1B, tag)
  | .counterRead tag _ => some (0x1C, tag)
  | .modeConfig tag _ => some (0x1D, tag)
  | .modeRun tag _ => some (0x1D, tag)
  | .modeStandby tag _ => some (0x1D, tag)
  | .restart tag _ => some (0x1E, tag)
  | .byteReceived _ => none

end Sys2Proof
end

