-- ==== Sys2Proof/Certificates/Slice0/Obligations.lean ====
section
/-! DEFINITION. The statements for the provers.

`Takes s r` says that request `r` may be taken at once; `s.replied kind tag st data` is `s` with the request taken from its
queue and the reply made; `drivePins` sets the output pins by R4 and R158; `CameraFrame`, `SelectorFrame` and `Beside` say
what an event leaves as it was. -/

open Sys2Proof Sys2Proof.Machine

/-! ## The machine -/

/-- One step with a command at the front of the queue is that command on the state with the queue's rest. -/
def Obligations.StepRunsFrontCommand : Prop :=
  ∀ (s : State) (c : Instr) (q : List Instr), s.pending = c :: q → step s = exec c { s with pending := q }

/-- On an empty queue one millisecond passes: every running timer has one less remaining, down to none, and nothing else
changes. This is the model's choice (log 2), while RESET is held too (log 14). -/
def Obligations.EmptyQueuePassesOneMillisecond : Prop :=
  ∀ s : State, s.pending = [] → ∃ t, step s = .next t
    ∧ (∀ c, t.port c = { s.port c with
        announceTimer := (s.port c).announceTimer.map (· - 1), trainTimer := (s.port c).trainTimer.map (· - 1) })
    ∧ (∀ w, t.zone w = (s.zone w).map fun z => { z with hold := z.hold.map (· - 1) })
    ∧ t.selector = { s.selector with
        timeout := s.selector.timeout.map (· - 1), turnDwell := s.selector.turnDwell.map (· - 1)
        dwell := s.selector.dwell.map (· - 1)
        force := s.selector.force.map fun f => { f with timer := f.timer.map (· - 1) } }
    ∧ t.cadence = { s.cadence with
        blink := { s.cadence.blink with timer := s.cadence.blink.timer.map (· - 1) }
        buzz := { s.cadence.buzz with timer := s.cadence.buzz.timer.map (· - 1) } }
    ∧ t.control.rx = { s.control.rx with gap := s.control.rx.gap.map (· - 1) }
    ∧ t.display = { s.display with senseTimer := s.display.senseTimer.map (· - 1) }
    ∧ { t with
        ports := s.ports, zones := { t.zones with zones := s.zones.zones }, selector := s.selector
        cadence := s.cadence, control := { t.control with rx := s.control.rx }, display := s.display } = s

/-- POWER ON takes the after-power-on values of R179, block by block, with no report queued; the commands that wait are
kept. The values the manual does not give are the model's choice: the source choices, the latch of the output generator and
the latched shown banks (log 4), the empty result map while no mode is set (log 18), and BLINK's tone and the tones in use
(log 22). -/
def Obligations.PowerOnTakesPowerOnValues : Prop :=
  ∀ (levels : PowerInputs) (s : State), ∃ t, exec (.powerOn levels) s = .next t
    ∧ t.held = false ∧ t.mode = .config
    ∧ (∀ c, t.port c =
        { enabled := true, link := .off, carrier := look levels.carrier c
          preference := [.m1, .m3, .m4, .m5, .m6, .m2], announceList := [], common := [], typeCode := none
          maxExposure := none, mode := none, exposure := 0, announceTimer := none, announceCount := 0
          trainTimer := none, attempts := 0, trainExpected := 0, trainBad := 0, phase := .noFrame, frameNumber := 0
          expected := 0, previous := none, resultMap := [], badFrames := 0, backSending := none, backWaiting := [] })
    ∧ (∀ c, t.store c = ⟨Vector.replicate 50 .bank0, [], [], 0, .off, ⟨[], none, Vector.replicate 50 .bank0, [], .off⟩⟩)
    ∧ (∀ g, t.grid g = .empty) ∧ t.grids.free = 2048
    ∧ (∀ k, t.shape k = none) ∧ t.shapes.free = 512 ∧ (∀ k, look t.shapes.latched k = none)
    ∧ (∀ v, (look t.views.live.views v).isEmpty = true ∧ (look t.views.live.views v).background = ⟨0, 128, 128⟩
        ∧ (look t.views.live.views v).label = 0 ∧ look t.views.live.map v = 0)
    ∧ (∀ l, look t.views.live.lists l = []) ∧ t.views.edit = t.views.live
    ∧ t.views.applyPending = false ∧ (∀ k, look t.views.choice k = none)
    ∧ (∀ w, t.window w = ⟨none, .none, false, ⟨0, 0, 0, 0, List.replicate 16 0, List.replicate 16 0⟩, none, false, none⟩
        ∧ t.zone w = none)
    ∧ t.zones.hazard = false ∧ t.zones.hazardList = [] ∧ t.zones.latchedHazard = false ∧ t.zones.latchedZones = []
    ∧ (∀ k, look t.seams k = ⟨none, none, false, 0, none⟩)
    ∧ (∀ c, t.tone c = ⟨256, 4, 110, 110, 0, 0, 0, 256, 4⟩)
    ∧ (∀ c, t.clarity c = ⟨.fixed, 6, .clear, 0, 0⟩)
    ∧ t.params = ⟨⟨200, 150, 1, 10, 8⟩, ⟨3, 5, 4⟩, ⟨8, 4⟩, ⟨1, 24, 232, 60, 30⟩, ⟨2, 2, 1500⟩,
        ⟨500, 3000, 1000, 5, 30, 12, 18⟩⟩
    ∧ t.selector = ⟨⟨none, none, none, none, none⟩, false, none, false, none, .noData, none, false, 0, none,
        ⟨.noData, 0, none, none, true⟩⟩
    ∧ t.cadence = ⟨⟨300, 300, 0, ⟨true, false, false, false⟩, 0, .idle, none, 0, false, false, 0⟩,
        ⟨200, 300, 3, ⟨true, false, false, false⟩, 1, .idle, none, 0, false, false, 0⟩, false⟩
    ∧ t.control.rx = ⟨.hunt, 0, 0, 0, [], none, none, false⟩
    ∧ t.control.requests = [] ∧ t.control.replies = [] ∧ t.control.reports = [] ∧ t.control.sending = none
    ∧ t.control.lost = 0
    ∧ (∀ k, look t.control.counters k = ⟨.none, 0, 0⟩)
    ∧ t.control.rate = (match levels.strap1, levels.strap0 with
        | false, false => .r115200
        | false, true => .r460800
        | true, false => .r921600
        | true, true => .r1843200)
    ∧ t.display = ⟨0, levels.display, levels.display, none, ⟨.config, 0, .noData, false, []⟩⟩
    ∧ t.pins = ⟨Vector.replicate 4 false, none⟩ ∧ t.pending = s.pending

/-- RESET driven low holds the part: its camera power switches are off and BUZZ is low, the control link sends nothing
and nothing waits to be sent, and no output frame is sent; every later command but POWER ON then leaves it so. That no
other command has an effect then is the model's reading of R179 (log 14). -/
def Obligations.ResetHoldsThePart : Prop :=
  (∀ s : State, exec .resetAssert s = .next { s with
      held := true, pins := ⟨Vector.replicate 4 false, none⟩
      control := { s.control with sending := none, replies := [], reports := [] } })
    ∧ (∀ s : State, s.held = true → s.outputFrame = none)
    ∧ ∀ (s : State) (i : Instr), s.held = true → i ≠ .resetAssert → (∀ levels, i ≠ .powerOn levels) →
      exec i s = .next { s with pins := ⟨Vector.replicate 4 false, none⟩ }

/-! ## The laws of the device, kept by every step -/

/-- Every step keeps the node pool's law and the shape points' law. -/
def Obligations.StepKeepsPoolLaws : Prop :=
  (∀ s t : State, s.GridLaw → step s = .next t → t.GridLaw)
  ∧ (∀ s t : State, s.ShapeLaw → step s = .next t → t.ShapeLaw)

/-- Every step keeps the bounds of the request queue, the report queue and the reply list, leaves nothing waiting while
the line is idle, and leaves the line idle while RESET is held. -/
def Obligations.StepKeepsQueueLaw : Prop := ∀ s t : State, s.QueueLaw → step s = .next t → t.QueueLaw

/-- Every step keeps the gains in 128 to 1023, and every command but POWER ON and RESTART moves each by at most 16. -/
def Obligations.GainLawHolds : Prop :=
  (∀ s t : State, s.GainLaw → step s = .next t → t.GainLaw)
    ∧ ∀ (i : Instr) (s t : State) (c : Cam), s.GainLaw → exec i s = .next t →
      (∀ levels, i ≠ .powerOn levels) → (∀ tag b, i ≠ .restart tag b) →
      (t.tone c).gain ≤ (s.tone c).gain + 16 ∧ (s.tone c).gain ≤ (t.tone c).gain + 16

/-- Every step keeps the buzzer's law and the law of the output pins, and every command leaves the pins by that law from
any state: a power switch is on exactly in RUN with the port ENABLED and while the port's RELEASE is sent or waits, BUZZ
carries the tone in use exactly in RUN with the BUZZ channel ON, and all are off while RESET is held low. That the pins are
read off the state at the end of a command is the model's reading (log 21). -/
def Obligations.StepKeepsOutputLaws : Prop :=
  (∀ s t : State, s.BuzzerLaw → step s = .next t → t.BuzzerLaw)
  ∧ (∀ s t : State, s.PinLaw → step s = .next t → t.PinLaw)
  ∧ ∀ (i : Instr) (s t : State), exec i s = .next t → t.PinLaw

/-- Every step leaves every grid that a pane names READY and fitting the pane, and every shape that a list names defined. -/
def Obligations.StepKeepsReferenceLaws : Prop :=
  (∀ s t : State, s.PaneLaw → step s = .next t → t.PaneLaw)
  ∧ (∀ s t : State, s.ListLaw → step s = .next t → t.ListLaw)

/-- Every step keeps the limits on CLARITY and WATCH windows. -/
def Obligations.StepKeepsWindowLaw : Prop := ∀ s t : State, s.WindowLaw → step s = .next t → t.WindowLaw

/-- Every step keeps the law of the mode lists. -/
def Obligations.StepKeepsModeLaw : Prop := ∀ s t : State, s.ModeLaw → step s = .next t → t.ModeLaw

/-- Every step leaves every camera's health as its inputs give it; so no camera whose freeze count has reached FREEZE_LIMIT
has health better than FROZEN. The health its inputs give is the first of the six values whose condition holds. -/
def Obligations.StepKeepsHealthLaw : Prop :=
  (∀ s t : State, s.HealthLaw → step s = .next t → t.HealthLaw)
    ∧ (∀ (s : State) (c : Cam), s.HealthLaw → s.params.store.freezeLimit ≤ (s.store c).freeze →
      (s.store c).health = .off ∨ (s.store c).health = .absent ∨ (s.store c).health = .frozen)
    ∧ ∀ (link : LinkState) (freeze bad : Nat) (cl : ClarityState) (p : StoreParams),
      let h := deriveHealth link freeze bad cl p
      (h = .off ↔ link = .off) ∧ (h = .absent ↔ link ≠ .off ∧ link ≠ .streaming)
        ∧ (h = .frozen ↔ link = .streaming ∧ p.freezeLimit ≤ freeze)
        ∧ (h = .degraded ↔ link = .streaming ∧ freeze < p.freezeLimit ∧ p.degradeLimit < bad)
        ∧ (h = .obscured ↔ link = .streaming ∧ freeze < p.freezeLimit ∧ bad ≤ p.degradeLimit ∧ cl = .obscured)
        ∧ (h = .good ↔ link = .streaming ∧ freeze < p.freezeLimit ∧ bad ≤ p.degradeLimit ∧ cl = .clear)

/-- Every step keeps the hazard flag, the hazard zone list and the arming of ACTIVE zones in agreement. -/
def Obligations.StepKeepsHazardLaw : Prop := ∀ s t : State, s.HazardLaw → step s = .next t → t.HazardLaw

/-- Every step leaves every cadence channel's combined trigger as its inputs give it: true in RUN while a trigger that the mask
selects holds, and false otherwise. -/
def Obligations.StepKeepsTriggerLaw : Prop :=
  (∀ s t : State, s.TriggerLaw → step s = .next t → t.TriggerLaw)
    ∧ ∀ (s : State) (mask : TriggerMask), combinedTrigger s mask = true ↔ s.mode = .run
      ∧ (mask.hazard = true ∧ s.zones.hazard = true
        ∨ mask.cameraDown = true ∧ (∃ c, (s.port c).enabled = true
            ∧ ((s.store c).health = .absent ∨ (s.store c).health = .frozen))
        ∨ mask.obscured = true ∧ (∃ c, (s.clarity c).state = .obscured)
        ∨ mask.noData = true ∧ s.selector.situation = .noData)

/-- Every step keeps the law of segment ages, the law that a segment table has one entry for each segment of the port's
mode and none while the port is OFF, and the pixel store's lists in their canonical form. The canonical form is the
model's representation (log 19). -/
def Obligations.StepKeepsStoreLaws : Prop :=
  (∀ s t : State, s.SegmentLaw → step s = .next t → t.SegmentLaw)
  ∧ (∀ s t : State, s.TableLaw → step s = .next t → t.TableLaw)
  ∧ ∀ s t : State, s.BankLaw → step s = .next t → t.BankLaw

/-- Every law holds after power-on, whatever the levels at the inputs, and so in the reset state. The reset state's
input levels are the model's choice (log 3). -/
def Obligations.LawsHoldAfterPowerOn : Prop :=
  State.reset.Safe ∧ ∀ (levels : PowerInputs) (epoch choices : Nat) (q : List Instr),
    (State.atPowerOn levels epoch choices q).Safe

/-- The shown view, the live tables and what drawing has latched change only at an output frame start (and at power-on): the
latches of the output generator with the zone watch's, of the selector, the segment store, the tone controller, the overlay
unit and the BLINK phase, and the source choices. -/
def Obligations.DrawingChangesOnlyAtFrameStart : Prop :=
  ∀ (i : Instr) (s t : State), exec i s = .next t → i ≠ .outputFrameStart → (∀ levels, i ≠ .powerOn levels) →
    t.selector.shown = s.selector.shown ∧ t.views.live = s.views.live
      ∧ t.display.latch = s.display.latch ∧ t.selector.latch = s.selector.latch ∧ t.views.choice = s.views.choice
      ∧ t.shapes.latched = s.shapes.latched ∧ t.cadence.latchedPhase = s.cadence.latchedPhase
      ∧ ∀ c, (t.store c).latch = (s.store c).latch ∧ (t.tone c).latchedGain = (s.tone c).latchedGain
        ∧ (t.tone c).latchedBlack = (s.tone c).latchedBlack

/-! ## Camera links -/

/-- Carrier gain: from DARK and LOST a new wait starts, with one LINK report; in any other state only the carrier is noted.
Carrier loss: the new link state by the old one with its LINK report, timers and back channel stopped, an open frame
abandoned, the lists, the mode and the camera's segment table kept, and LINK_LOST counted from TRAINING and STREAMING;
from STREAMING the camera's windows, tone counts and zones follow; in OFF only the carrier is noted. That the LINK report
comes before the HEALTH report is the model's reading (log 11). -/
def Obligations.CarrierEvents : Prop :=
  (∀ (s : State) (c : Cam), s.held = false → s.HealthLaw →
      exec (.carrierGain c) s = .next (State.drivePins
        (if (s.port c).link = .dark ∨ (s.port c).link = .lost then
          { s with
            ports := put s.ports c { s.port c with
              carrier := true, link := .announceWait, announceTimer := some s.params.link.announceWaitMs
              announceCount := 0 }
            control := s.control.queueReport (.link c .announceWait .carrier) }
        else { s with ports := put s.ports c { s.port c with carrier := true } })))
  ∧ (∀ (s : State) (c : Cam), s.held = false → ∃ t, exec (.carrierLoss c) s = .next t
      ∧ (t.port c).link = (match (s.port c).link with
          | .announceWait | .refused => .dark
          | .training | .streaming => .lost
          | l => l)
      ∧ t.port c = { s.port c with
          link := (t.port c).link, carrier := false, announceTimer := none, trainTimer := none, phase := .noFrame
          resultMap := List.replicate (s.port c).segments false, backSending := none, backWaiting := []
          attempts := if (s.port c).link = .training then 0 else (s.port c).attempts }
      ∧ { t.store c with health := (s.store c).health } = s.store c
      ∧ t.clarity c = s.clarity c ∧ t.seams = s.seams ∧ t.choices = s.choices
      ∧ (if (s.port c).link = .streaming then LeavesStreaming c s t else KeepsStreaming c s t)
      ∧ (match (s.port c).link with
          | .off | .dark | .lost => t.control = s.control ∧ (t.store c).health = (s.store c).health
          | .announceWait | .refused => (t.store c).health = .absent
              ∧ t.control = s.control.queueAll (.link c .dark .carrier :: healthReport s t c)
          | .training | .streaming => (t.store c).health = .absent
              ∧ t.control = (s.control.countEvents .linkLost (some c) 1).queueAll
                  (.link c .lost .carrier :: healthReport s t c))
      ∧ CameraFrame c s t
      ∧ ((s.port c).link = .training ∨ (s.port c).link = .streaming →
          ∀ k, (look s.control.counters k).event = .linkLost → (look s.control.counters k).mask.getLsbD c.val = true →
            (look t.control.counters k).count = min ((look s.control.counters k).count + 1) 4294967295))

/-- A good ANNOUNCE in ANNOUNCE_WAIT, TRAINING or STREAMING: the lists are built; with a common mode a training sequence
begins on its first, in place and without a LINK report from TRAINING; without one the port enters REFUSED. From
STREAMING an open frame is abandoned and the camera's windows, tone counts and zones follow. A bad record, and one in a
link state that takes none, changes nothing. The bytes a record's check covers (log 16), and that the LINK report comes
before the HEALTH report (log 11), are the model's reading. -/
def Obligations.AnnounceIsTakenOrDiscarded : Prop :=
  (∀ (s : State) (c : Cam) (r : AnnounceRecord), s.held = false →
    (s.port c).link ∈ [.announceWait, .training, .streaming] → 1 ≤ r.modes.length → r.modes.length ≤ 6 →
    let common := commonList (s.port c).preference (announcedModes r.modes)
    let stored := { s.port c with
      typeCode := some r.typeCode, maxExposure := some (min 31 r.maxExposure)
      announceList := announcedModes r.modes, common := common, phase := .noFrame, announceTimer := none }
    let offered := fun m => Port.issue { stored with
      link := .training, mode := some m, attempts := 1, trainExpected := 0, trainBad := 0
      trainTimer := some s.params.link.trainWaitMs, resultMap := List.replicate (modeSegments m) false } (.offer m)
    let emptied := fun m => if (s.port c).mode = some m then s.store c
      else { s.store c with
        table := List.replicate (modeSegments m) ⟨.empty, 0, none⟩, shown := Vector.replicate 50 .bank0 }
    let refused := { stored with
      link := .refused, trainTimer := none, resultMap := List.replicate (s.port c).segments false }
    ((s.port c).link ≠ .streaming → s.HealthLaw →
      (∀ m rest, common = m :: rest → exec (.announceArrival c r (linkCheck r.bytes)) s = .next (State.drivePins { s with
        ports := put s.ports c (offered m)
        stores := put s.stores c (emptied m)
        control := if (s.port c).link = .training then s.control
          else s.control.queueReport (.link c .training .announced) }))
      ∧ (common = [] → exec (.announceArrival c r (linkCheck r.bytes)) s = .next (State.drivePins { s with
        ports := put s.ports c refused
        control := s.control.queueReport (.link c .refused .noCommonMode) })))
    ∧ ((s.port c).link = .streaming → ∃ t, exec (.announceArrival c r (linkCheck r.bytes)) s = .next t
      ∧ (∀ m rest, common = m :: rest →
        t.port c = offered m ∧ t.store c = { emptied m with health := .absent }
          ∧ t.control = s.control.queueAll (.link c .training .announced :: healthReport s t c))
      ∧ (common = [] →
        t.port c = refused ∧ t.store c = { s.store c with health := .absent }
          ∧ t.control = s.control.queueAll (.link c .refused .noCommonMode :: healthReport s t c))
      ∧ LeavesStreaming c s t ∧ t.clarity c = s.clarity c ∧ t.seams = s.seams ∧ t.choices = s.choices
      ∧ CameraFrame c s t))
  ∧ ∀ (s : State) (c : Cam) (r : AnnounceRecord) (check : BitVec 16), s.held = false →
    check ≠ linkCheck r.bytes ∨ r.modes = [] ∨ 6 < r.modes.length ∨ (s.port c).link ∈ [.off, .dark, .lost, .refused] →
    exec (.announceArrival c r check) s = .next s.drivePins

/-- Announce timer expiry: SOLICIT and a new wait on the first to third, REFUSED on the fourth; nothing where the
timer has not run out (log 1). -/
def Obligations.AnnounceTimerExpiry : Prop :=
  ∀ (s : State) (c : Cam), s.held = false →
    ((s.port c).link = .announceWait → (s.port c).announceTimer = some 0 → (s.port c).announceCount < 3 →
      exec (.announceTimerExpiry c) s = .next (State.drivePins { s with
        ports := put s.ports c (Port.issue { s.port c with
          announceCount := (s.port c).announceCount + 1
          announceTimer := some s.params.link.announceWaitMs } .solicit) }))
    ∧ ((s.port c).link = .announceWait → (s.port c).announceTimer = some 0 → (s.port c).announceCount = 3 →
      s.HealthLaw →
      exec (.announceTimerExpiry c) s = .next (State.drivePins { s with
        ports := put s.ports c { s.port c with
          announceCount := 4, announceTimer := none, trainTimer := none, link := .refused, phase := .noFrame
          resultMap := List.replicate (s.port c).segments false }
        control := s.control.queueReport (.link c .refused .noAnnounce) }))
    ∧ ((s.port c).announceTimer ≠ some 0 → exec (.announceTimerExpiry c) s = .next s.drivePins)

/-- A training segment that does not end the attempt: the missing ones and a bad check count, the expected index follows; a
segment behind or beyond counts bad alone. The last segment, or the expiry of the train timer with every segment not
come counted missing, ends the attempt, which is judged: ACCEPT and STREAMING where the bad count is within
TRAIN_TOLERANCE; otherwise RETRY, counted as RETRAIN, with the next offer up to the fourth attempt, a step down emptying
the camera's table, and REFUSED after it. Outside TRAINING a segment changes nothing, and a train timer that has not run
out does not expire (log 1). The bytes a record's check covers (log 16), and that the LINK report comes before the HEALTH
report (log 11), are the model's reading. -/
def Obligations.TrainingIsCountedAndJudged : Prop :=
  (∀ (s : State) (c : Cam) (r : TrainRecord) (check : BitVec 16), s.held = false → (s.port c).link = .training →
      ¬((s.port c).trainExpected ≤ r.index ∧ r.index + 1 = (s.port c).segments) →
      exec (.trainingSegmentArrival c r check) s = .next (State.drivePins { s with
        ports := put s.ports c (if (s.port c).trainExpected ≤ r.index ∧ r.index < (s.port c).segments then
            { s.port c with
              trainBad := min 255 ((s.port c).trainBad + (r.index - (s.port c).trainExpected)
                + if check = linkCheck r.bytes then 0 else 1)
              trainExpected := r.index + 1 }
          else { s.port c with trainBad := min 255 ((s.port c).trainBad + 1) }) }))
  ∧ (∀ (s : State) (c : Cam), s.held = false →
      ((s.port c).link ≠ .training →
        ∀ r check, exec (.trainingSegmentArrival c r check) s = .next s.drivePins)
      ∧ ((s.port c).trainTimer ≠ some 0 → exec (.trainTimerExpiry c) s = .next s.drivePins))
  ∧ (∀ (s : State) (c : Cam) (m : CamMode) (i : Instr) (bad : Nat), s.held = false → (s.port c).link = .training →
      (s.port c).mode = some m →
      (i = .trainTimerExpiry c ∧ (s.port c).trainTimer = some 0
          ∧ bad = min 255 ((s.port c).trainBad + (modeSegments m - (s.port c).trainExpected))
        ∨ (∃ r check, i = .trainingSegmentArrival c r check ∧ r.index = modeSegments m - 1
          ∧ (s.port c).trainExpected ≤ modeSegments m - 1
          ∧ bad = min 255 ((s.port c).trainBad + (modeSegments m - 1 - (s.port c).trainExpected)
              + if check = linkCheck r.bytes then 0 else 1))) →
      ∃ t, exec i s = .next t
        ∧ (let back := ((t.port c).backSending, (t.port c).backWaiting)
          let retrain := s.control.countEvents .retrain (some c) 1
          if bad ≤ s.params.link.trainTolerance then
            (t.port c).link = .streaming ∧ (t.port c).phase = .noFrame ∧ (t.port c).previous = none
              ∧ (t.port c).badFrames = 0 ∧ (t.port c).mode = some m
              ∧ (t.port c).trainTimer = none ∧ back = (s.port c).backAfter [.accept]
              ∧ { t.store c with freeze := (s.store c).freeze, health := (s.store c).health } = s.store c
              ∧ (t.store c).freeze = 0
              ∧ t.control = s.control.queueAll (.link c .streaming .trained :: healthReport s t c)
          else if (s.port c).attempts < 4 then
            let next := (nextLower? m (s.port c).common).getD m
            (t.port c).link = .training ∧ (t.port c).attempts = (s.port c).attempts + 1
              ∧ (t.port c).mode = some next ∧ (t.port c).trainExpected = 0 ∧ (t.port c).trainBad = 0
              ∧ (t.port c).trainTimer = some s.params.link.trainWaitMs
              ∧ back = (s.port c).backAfter [.retry, .offer next]
              ∧ t.store c = (if next = m then s.store c
                else { s.store c with
                  table := List.replicate (modeSegments next) ⟨.empty, 0, none⟩, shown := Vector.replicate 50 .bank0 })
              ∧ t.control = retrain
          else (t.port c).link = .refused ∧ (t.port c).trainTimer = none ∧ (t.port c).announceTimer = none
              ∧ (t.port c).phase = .noFrame ∧ (t.port c).mode = some m ∧ back = (s.port c).backAfter [.retry]
              ∧ { t.store c with health := (s.store c).health } = s.store c
              ∧ t.control = retrain.queueAll (.link c .refused .trainFail :: healthReport s t c))
        ∧ { t.port c with
            link := (s.port c).link, mode := (s.port c).mode, announceTimer := (s.port c).announceTimer
            trainTimer := (s.port c).trainTimer, attempts := (s.port c).attempts
            trainExpected := (s.port c).trainExpected, trainBad := (s.port c).trainBad, phase := (s.port c).phase
            previous := (s.port c).previous, resultMap := (s.port c).resultMap, badFrames := (s.port c).badFrames
            backSending := (s.port c).backSending, backWaiting := (s.port c).backWaiting } = s.port c
        ∧ KeepsStreaming c s t ∧ t.clarity c = s.clarity c ∧ t.seams = s.seams ∧ t.choices = s.choices
        ∧ CameraFrame c s t)

/-- A good header in STREAMING: an open frame closes first as the trailer of another frame number closes it; the pending
window changes that wait for it take effect, with what follows for zones and clarity; then in the port's mode a frame
opens, every window of the camera measures it, and in another mode the port ignores it and counts FRAME_TRUNCATED. A
header that took the port out of STREAMING takes no further step. A header with a bad check counts FRAME_TRUNCATED in
STREAMING, and outside STREAMING every header changes nothing. The limit of the exposure index where no maximum is known
is the model's choice (log 22), and the bytes a record's check covers (log 16) and the order of the reports of the pending
changes (log 11) are its reading. -/
def Obligations.HeaderOpensAFrame : Prop :=
  (∀ (s : State) (c : Cam) (h : HeaderRecord) (m : CamMode), s.held = false → (s.port c).link = .streaming →
    (s.port c).phase ≠ .opened → (s.port c).mode = some m →
    let opens := modeOfCode? h.mode = some m
    let opened := { s.port c with
      exposure := min h.exposure ((s.port c).maxExposure.getD 31), phase := .opened, frameNumber := h.number
      previous := some h.number, expected := 0, resultMap := List.replicate (modeSegments m) false }
    ((∀ w, (s.window w).change = .none) → s.HazardLaw →
      exec (.frameHeaderArrival c h (linkCheck h.bytes)) s = .next (State.drivePins
        (if opens then
          { s with
            ports := put s.ports c opened
            windows := mapTable (fun w => w.openFrame c m) s.windows
            control := if (s.port c).previous.any (fun n => h.number ≠ n + 1) then
                s.control.countEvents .frameGap (some c) 1
              else s.control }
        else
          { s with
            ports := put s.ports c { s.port c with phase := .ignoring }
            control := s.control.countEvents .frameTruncated (some c) 1 })))
    ∧ ∃ t, exec (.frameHeaderArrival c h (linkCheck h.bytes)) s = .next t
      ∧ (∀ w, let old := s.window w
          let due := match old.change with
            | .none => false
            | .set d => old.serves c || d.camera = c
            | .drop => old.serves c
          let new : Window := if due then
              match old.change with
              | .set d => ⟨some d, .none, false, .zero, none, true, none⟩
              | _ => ⟨none, .none, false, .zero, none, false, none⟩
            else old
          t.window w = (if opens then new.openFrame c m else new)
            ∧ t.zone w = (if due then if new.active.any (·.isWatch) then some ⟨.idle, 0, none, [], none, false⟩ else none
              else s.zone w))
      ∧ (∀ k, t.clarity k = if (∃ w, (s.window w).changeDue c = true ∧ (s.window w).active.any (·.clarityOf k) = true)
            ∧ (∀ w, (t.window w).active.any (·.clarityOf k) = false) then
          { s.clarity k with state := .clear, low := 0, clear := 0 }
        else s.clarity k)
      ∧ t.port c = (if opens then opened else { s.port c with phase := .ignoring })
      ∧ t.zones.hazardList = activeZones t.zones.zones
      ∧ (∀ d, d ≠ c → t.port d = s.port d) ∧ (∀ d, { t.store d with health := (s.store d).health } = s.store d)
      ∧ t.zones.latchedHazard = s.zones.latchedHazard ∧ t.zones.latchedZones = s.zones.latchedZones
      ∧ { t with
          ports := s.ports, stores := s.stores, clarities := s.clarities, windows := s.windows, zones := s.zones
          cadence := s.cadence, control := s.control, pins := s.pins } = s
      ∧ Beside s t
      ∧ (let reported := s.control.queueAll (([0, 1, 2, 3] : List Cam).flatMap (healthReport s t) ++ hazardReport s t)
        t.control = if ¬opens then reported.countEvents .frameTruncated (some c) 1
          else if (s.port c).previous.any (fun n => h.number ≠ n + 1) then reported.countEvents .frameGap (some c) 1
          else reported))
  ∧ (∀ (s u : State) (c : Cam) (h : HeaderRecord) (n : Byte), s.held = false → (s.port c).link = .streaming →
      (s.port c).phase = .opened → n ≠ (s.port c).frameNumber →
      exec (.frameTrailerArrival c n (linkCheck [n])) s = .next u →
      exec (.frameHeaderArrival c h (linkCheck h.bytes)) s
        = if (u.port c).link = .streaming then exec (.frameHeaderArrival c h (linkCheck h.bytes)) u else .next u)
  ∧ (∀ (s : State) (c : Cam) (h : HeaderRecord) (check : BitVec 16), s.held = false →
      ((s.port c).link = .streaming → check ≠ linkCheck h.bytes → exec (.frameHeaderArrival c h check) s
        = .next (State.drivePins { s with control := s.control.countEvents .frameTruncated (some c) 1 }))
      ∧ ((s.port c).link ≠ .streaming → exec (.frameHeaderArrival c h check) s = .next s.drivePins))

/-- A segment of an open frame at or beyond the expected index is written into its pending bank and read by every window
that measures the camera; the missing ones and a bad check count SEGMENT_ERROR; the shown bank's contents stay. A segment
behind, or beyond the last, and one with no frame open, counts one error and changes nothing else; while the port ignores
a frame, and outside STREAMING, a segment changes nothing. The bytes a record's check covers are the model's reading
(log 16). -/
def Obligations.SegmentGoesToThePendingBank : Prop :=
  ∀ (s : State) (c : Cam) (i : Nat) (body : SegmentBody) (check : BitVec 16), s.held = false →
    let good := decide (check = linkCheck (segmentBytes i body))
    ((s.port c).link = .streaming → (s.port c).phase = .opened → (s.port c).expected ≤ i → i < (s.port c).segments →
      let key := bankKey i (shownBank (s.store c).shown i).other
      ∃ t, exec (.segmentArrival c i body check) s = .next t
        ∧ t.port c = { s.port c with expected := i + 1, resultMap := (s.port c).resultMap.set i good }
        ∧ readCell (t.store c).banks key = some body
        ∧ (∀ k, k ≠ key → readCell (t.store c).banks k = readCell (s.store c).banks k)
        ∧ { t.store c with banks := (s.store c).banks } = s.store c
        ∧ t.control = s.control.countEvents .segmentError (some c)
            (i - (s.port c).expected + if good then 0 else 1)
        ∧ t.windows = mapTable (Window.sample · c i (bodyLuma s.epoch c key body)) s.windows
        ∧ { t with
            ports := s.ports, stores := s.stores, windows := s.windows, control := s.control, pins := s.pins } = s
        ∧ CameraFrame c s t)
    ∧ ((s.port c).link = .streaming →
      (s.port c).phase = .opened ∧ (i < (s.port c).expected ∨ (s.port c).segments ≤ i) ∨ (s.port c).phase = .noFrame →
      exec (.segmentArrival c i body check) s
        = .next (State.drivePins { s with control := s.control.countEvents .segmentError (some c) 1 }))
    ∧ ((s.port c).link ≠ .streaming ∨ (s.port c).phase = .ignoring →
      exec (.segmentArrival c i body check) s = .next s.drivePins)

/-- A good trailer closes the open frame: FRAME_TRUNCATED for another frame number, SEGMENT_ERROR for each missing
segment, the freeze count 0, the windows' results, the gain moved by R104, and the frame judged by R23. A frame within
RETRAIN_THRESHOLD sets the bad-frame counter to 0, and a bad one raises it; where it reaches RETRAIN_FRAMES the link
retrains on the next lower mode, with RETRAIN counted, or without one NO_LOWER_MODE is reported. While the link streams
on, the good segments' banks toggle and every entry follows R29. The HEALTH reports are those of the store's event and of
the clarity change, in the one order or the other (log 10), and one HAZARD report follows where the list changes. A trailer
with a bad check in STREAMING counts FRAME_TRUNCATED alone; with no frame open, and outside STREAMING, a trailer changes
nothing. The bytes a record's check covers (log 16), and the order LINK before HEALTH and HAZARD after the close's HEALTH
(log 11), are the model's reading. -/
def Obligations.TrailerClosesTheFrame : Prop :=
  (∀ (s : State) (c : Cam) (number : Byte), s.held = false → (s.port c).link = .streaming → (s.port c).phase = .opened →
    ∃ t, exec (.frameTrailerArrival c number (linkCheck [number])) s = .next t
      ∧ (t.port c).phase = .noFrame ∧ (t.port c).exposure = (s.port c).exposure
      ∧ (t.store c).freeze = 0 ∧ (t.store c).banks = (s.store c).banks
      ∧ (let closed : Window → Window := fun w =>
          w.closeFrame c (s.port c).frameNumber (s.port c).exposure (s.port c).resultMap
        let windows := mapTable closed s.windows
        let table : List SegEntry := (s.store c).table.mapIdx fun k e =>
          if (s.port c).resultMap[k]? = some true then (⟨.fresh, 0, some (s.port c).frameNumber⟩ : SegEntry)
          else
            let age := min 15 (e.age + 1)
            match e.state with
            | .empty => ⟨.empty, 0, none⟩
            | .stale => ⟨.stale, age, e.lastGood⟩
            | .fresh | .held => ⟨if age ≤ s.params.store.holdLimit then .held else .stale, age, e.lastGood⟩
        let counted := (if number = (s.port c).frameNumber then s.control
          else s.control.countEvents .frameTruncated (some c) 1).countEvents .segmentError (some c)
            ((s.port c).segments - (s.port c).expected)
        let unusable := fun es : List SegEntry => es.countP fun e => e.state = .empty ∨ e.state = .stale
        let health := fun freeze es cl => deriveHealth .streaming freeze (unusable es) cl s.params.store
        let change := fun (old new : Health) es => if new = old then [] else [Report.health c old new (unusable es)]
        let before := (s.store c).health
        let after := health 0 table (t.clarity c).state
        let storeFirst := health 0 table (s.clarity c).state
        let clarityFirst := health (s.store c).freeze (s.store c).table (t.clarity c).state
        let bad := s.params.link.retrainThreshold < (s.port c).resultMap.countP (fun g => !g)
        let due := bad ∧ s.params.link.retrainFrames ≤ (s.port c).badFrames + 1
        (∃ rs, (rs = change before storeFirst table ++ change storeFirst after table
              ∨ (t.clarity c).state ≠ (s.clarity c).state
                ∧ rs = change before clarityFirst (s.store c).table ++ change clarityFirst after table)
          ∧ t.control = (match (if due then (s.port c).mode.bind fun m => nextLower? m (s.port c).common else none) with
            | none => counted.queueAll (rs ++ hazardReport s t ++ if due then [.link c .streaming .noLowerMode] else [])
            | some _ => ((counted.queueAll (rs ++ hazardReport s t)).countEvents .retrain (some c) 1).queueAll
                [.link c .training .downgrade, .health c after .absent (unusable (t.store c).table)]))
        ∧ (match (if due then (s.port c).mode.bind fun m => nextLower? m (s.port c).common else none) with
          | none =>
            (t.port c).link = .streaming ∧ (t.port c).mode = (s.port c).mode
              ∧ (t.port c).badFrames = (if bad ∧ ¬due then (s.port c).badFrames + 1 else 0)
              ∧ t.windows = windows
              ∧ (∀ k : Fin 50, look (t.store c).shown k
                  = if (s.port c).resultMap[k.val]? = some true then (look (s.store c).shown k).other
                    else look (s.store c).shown k)
              ∧ (t.store c).table = table ∧ (t.store c).health = after
          | some m =>
            (t.port c).link = .training ∧ (t.port c).mode = some m ∧ (t.port c).attempts = 1
              ∧ (t.port c).trainExpected = 0 ∧ (t.port c).trainBad = 0
              ∧ (t.port c).trainTimer = some s.params.link.trainWaitMs
              ∧ (∃ asked ∈ ([[], [.exposureUp], [.exposureDown]] : List (List BackRecord)),
                  ((t.port c).backSending, (t.port c).backWaiting) = (s.port c).backAfter (asked ++ [.offer m]))
              ∧ (∀ w, t.window w = if (s.window w).serves c then
                    { look windows w with measuring := false, acc := .zero, ranges := none, result := none }
                  else s.window w)
              ∧ (t.tone c).high = 0 ∧ (t.tone c).low = 0 ∧ (t.tone c).settle = 0
              ∧ (∀ w z, (s.window w).serves c = true → t.zone w = some z →
                  z.valid = false ∧ z.count = 0 ∧ z.state ≠ .counting)
              ∧ (t.store c).health = .absent
              ∧ (t.store c).table = (if (s.port c).mode = some m then table
                else List.replicate (modeSegments m) ⟨.empty, 0, none⟩))
        ∧ (t.tone c).effective = effectiveTarget (s.tone c).target (seamSum t.seams c)
        ∧ (match toneMean? windows c with
            | none => (t.tone c).gain = (s.tone c).gain
            | some m =>
              let g : Int := (s.tone c).gain
              let e := max (m - (s.tone c).black) 1
              let desired : Int := (((t.tone c).effective * 256 + e / 2) / e : Nat)
              ((t.tone c).gain : Int) = min 1023 (max 128 (g + min 16 (max (-16) (desired - g))))))
      ∧ CameraFrame c s t)
  ∧ (∀ (s : State) (c : Cam) (number : Byte) (check : BitVec 16), s.held = false →
      ((s.port c).link = .streaming → check ≠ linkCheck [number] → exec (.frameTrailerArrival c number check) s
        = .next (State.drivePins { s with control := s.control.countEvents .frameTruncated (some c) 1 }))
      ∧ ((s.port c).link = .streaming → (s.port c).phase ≠ .opened →
        exec (.frameTrailerArrival c number (linkCheck [number])) s = .next s.drivePins)
      ∧ ((s.port c).link ≠ .streaming → exec (.frameTrailerArrival c number check) s = .next s.drivePins))

/-- The back channel ends the record it sends and starts the next waiting one; what it sends is the record's kind, its body
and the check over the body, high byte first, so that the check over body and check together is 0. SOLICIT and RELEASE have
no body, OFFER has its mode code. A record of an unknown kind changes nothing. That a mode code takes one byte is the
model's reading (log 16). -/
def Obligations.BackChannelAndUnknownRecords : Prop :=
  (∀ (s : State) (c : Cam), s.held = false → (s.port c).backSending ≠ none →
      exec (.backChannelRecordSent c) s = .next (State.drivePins { s with
        ports := put s.ports c { s.port c with
          backSending := (s.port c).backWaiting.head?, backWaiting := (s.port c).backWaiting.tail } }))
  ∧ (∀ p : Port,
      (p.backSending = none → p.backLine = none)
      ∧ (p.backSending = some .solicit → p.backLine = some (.solicit, [0xFF, 0xFF]))
      ∧ (p.backSending = some .release → p.backLine = some (.release, [0xFF, 0xFF]))
      ∧ (∀ m, p.backSending = some (.offer m) →
        let code : Byte := match m with
          | .m1 => 1
          | .m2 => 2
          | .m3 => 3
          | .m4 => 4
          | .m5 => 5
          | .m6 => 6
        p.backLine = some (.offer,
          [code, (linkCheck [code]).extractLsb' 8 8, (linkCheck [code]).extractLsb' 0 8]))
      ∧ (∀ r, p.backSending = some r → ∃ kind bytes, p.backLine = some (kind, bytes) ∧ linkCheck bytes = 0))
  ∧ (∀ (s : State) (c : Cam), exec (.unknownRecordArrival c) s = .next s.drivePins)

/-- PORT ENABLE outside RUN, and of a port already out of OFF, sets the flag; PORT DISABLE of a port that is OFF clears it;
both re-form the cadence triggers. LINK RESTART outside REFUSED is BAD_STATE and changes nothing. A port number outside 0 to
3 is BAD_VALUE for each of the four. A preference list is taken where every code is valid and none repeats, and refused
BAD_VALUE otherwise. Outside TRAINING and STREAMING, and where the current mode is still preferred, it changes the two
lists alone; a link in a mode that is no longer preferred retrains on the first common mode, in place from TRAINING, and
is REFUSED where there is none. That it keeps its values there as at R11 (log 17), and that the LINK report comes before
the HEALTH report (log 11), are the model's reading. -/
def Obligations.PortRequestsThatKeepTheLink : Prop :=
  (∀ (s : State) (tag : Byte) (c : Cam),
      (Takes s (.portEnable tag (.fields c.val)) → s.mode ≠ .run ∨ (s.port c).link ≠ .off →
        exec (.portEnable tag (.fields c.val)) s = .next (State.drivePins (State.reform
          { s.replied 0x04 tag .ok .none with ports := put s.ports c { s.port c with enabled := true } })))
      ∧ (Takes s (.portDisable tag (.fields c.val)) → (s.port c).link = .off → s.HazardLaw →
        exec (.portDisable tag (.fields c.val)) s = .next (State.drivePins (State.reform
          { s.replied 0x04 tag .ok .none with ports := put s.ports c { s.port c with enabled := false } })))
      ∧ (Takes s (.linkRestart tag (.fields c.val)) → (s.port c).link ≠ .refused →
        exec (.linkRestart tag (.fields c.val)) s = .next (s.replied 0x04 tag .badState .none).drivePins))
  ∧ (∀ (s : State) (tag : Byte) (n : Nat) (codes : List Nat) (i : Instr), 4 ≤ n →
      i ∈ ([.portEnable tag (.fields n), .portDisable tag (.fields n), .linkRestart tag (.fields n),
        .portPreferenceList tag (.fields ⟨n, codes⟩)] : List Instr) →
      Takes s i → exec i s = .next (s.replied 0x04 tag .badValue .none).drivePins)
  ∧ (∀ (s : State) (tag : Byte) (c : Cam) (codes : List Nat), Takes s (.portPreferenceList tag (.fields ⟨c.val, codes⟩)) →
      (∀ ms, preferenceOf? codes = some ms →
        ((s.port c).link ≠ .training ∧ (s.port c).link ≠ .streaming ∨ ∃ m ∈ ms, (s.port c).mode = some m) →
        exec (.portPreferenceList tag (.fields ⟨c.val, codes⟩)) s = .next (State.drivePins
          { s.replied 0x04 tag .ok .none with
            ports := put s.ports c { s.port c with
              preference := ms, common := ms.filter (· ∈ (s.port c).announceList) } }))
      ∧ (∀ ms old, preferenceOf? codes = some ms → (s.port c).link ∈ [.training, .streaming] →
        (s.port c).mode = some old → old ∉ ms →
        let common := ms.filter (· ∈ (s.port c).announceList)
        let stored := { s.port c with
          preference := ms, common := common, announceTimer := none, phase := .noFrame }
        let replied := s.control.replied 0x04 tag .ok .none
        ∃ t, exec (.portPreferenceList tag (.fields ⟨c.val, codes⟩)) s = .next t
          ∧ (∀ m rest, common = m :: rest →
            t.port c = Port.issue { stored with
                link := .training, mode := some m, attempts := 1, trainExpected := 0, trainBad := 0
                trainTimer := some s.params.link.trainWaitMs
                resultMap := List.replicate (modeSegments m) false } (.offer m)
            ∧ { t.store c with health := (s.store c).health } = { s.store c with
                table := List.replicate (modeSegments m) ⟨.empty, 0, none⟩, shown := Vector.replicate 50 .bank0 }
            ∧ t.control = (if (s.port c).link = .training then replied
              else replied.queueAll (.link c .training .preference :: healthReport s t c)))
          ∧ (common = [] →
            t.port c = { stored with
                link := .refused, trainTimer := none, resultMap := List.replicate (s.port c).segments false }
            ∧ { t.store c with health := (s.store c).health } = s.store c
            ∧ t.control = replied.queueAll (.link c .refused .noCommonMode :: healthReport s t c))
          ∧ (if (s.port c).link = .streaming then LeavesStreaming c s t else KeepsStreaming c s t)
          ∧ t.clarity c = s.clarity c ∧ t.seams = s.seams ∧ t.choices = s.choices ∧ CameraFrame c s t)
      ∧ (codes = [] ∨ ¬codes.Nodup ∨ (∃ n ∈ codes, n = 0 ∨ 7 ≤ n) →
        exec (.portPreferenceList tag (.fields ⟨c.val, codes⟩)) s
          = .next (s.replied 0x04 tag .badValue .none).drivePins))

/-- PORT ENABLE in RUN takes an OFF port to ANNOUNCE_WAIT or DARK; PORT DISABLE takes a port OFF, with RELEASE where carrier
is present and the camera's table emptied, the camera's zones initial; LINK RESTART takes a REFUSED port to a new wait. Each
is answered OK and queues its LINK report with the cause ENABLED, DISABLED or HOST_RESTART, the HEALTH report that follows
it, and at a disable the HAZARD report where the list changes; enable and disable re-form the triggers. At a disable in
STREAMING the camera's windows lose their latest result, measuring flag and accumulators, and the tone counts become 0; at
every disable the clarity state becomes CLEAR with its counts 0. Otherwise windows, tone and clarity stay. The order of these
reports is the model's reading (log 11). -/
def Obligations.PortRequestsMoveTheLink : Prop :=
  ∀ (s : State) (tag : Byte) (c : Cam),
    (Takes s (.portEnable tag (.fields c.val)) → s.mode = .run → (s.port c).link = .off →
      ∃ t, exec (.portEnable tag (.fields c.val)) s = .next t
        ∧ t.port c = (if (s.port c).carrier then
            { s.port c with
              enabled := true, link := .announceWait, announceTimer := some s.params.link.announceWaitMs
              announceCount := 0 }
          else { s.port c with enabled := true, link := .dark })
        ∧ t.control = (s.control.replied 0x04 tag .ok .none).queueAll
            (.link c (if (s.port c).carrier then .announceWait else .dark) .enabled :: healthReport s t c)
        ∧ t.store c = { s.store c with health := .absent } ∧ KeepsStreaming c s t
        ∧ t.clarity c = s.clarity c ∧ t.seams = s.seams
        ∧ t.cadence.blink.trigger = combinedTrigger t t.cadence.blink.mask
        ∧ t.cadence.buzz.trigger = combinedTrigger t t.cadence.buzz.mask
        ∧ look t.pins.power c = true ∧ CameraFrame c s t)
    ∧ (Takes s (.portDisable tag (.fields c.val)) → (s.port c).link ≠ .off →
      ∃ t, exec (.portDisable tag (.fields c.val)) s = .next t
        ∧ t.port c = { (s.port c).gone with enabled := false }
        ∧ t.control = (s.control.replied 0x04 tag .ok .none).queueAll
            (.link c .off .disabled :: (healthReport s t c ++ hazardReport s t))
        ∧ (∀ w, (s.window w).serves c = true → t.zone w = (s.zone w).map fun _ => ⟨.idle, 0, none, [], none, false⟩)
        ∧ t.zones.hazardList = activeZones t.zones.zones
        ∧ t.cadence.blink.trigger = combinedTrigger t t.cadence.blink.mask
        ∧ t.cadence.buzz.trigger = combinedTrigger t t.cadence.buzz.mask
        ∧ (t.store c).table = [] ∧ (t.store c).freeze = 0 ∧ (t.store c).health = .off
        ∧ (∀ k, look (t.store c).shown k = .bank0)
        ∧ (∀ w, t.window w = if (s.port c).link = .streaming ∧ (s.window w).serves c = true then (s.window w).unmeasured
            else s.window w)
        ∧ t.tone c = (if (s.port c).link = .streaming then { s.tone c with high := 0, low := 0, settle := 0 } else s.tone c)
        ∧ t.clarity c = { s.clarity c with state := .clear, low := 0, clear := 0 } ∧ t.seams = s.seams
        ∧ (t.store c).banks = (s.store c).banks ∧ (t.store c).latch = (s.store c).latch
        ∧ CameraFrame c s t)
    ∧ (Takes s (.linkRestart tag (.fields c.val)) → (s.port c).link = .refused →
      ∃ t, exec (.linkRestart tag (.fields c.val)) s = .next t
        ∧ t.port c = { s.port c with
            link := .announceWait, announceTimer := some s.params.link.announceWaitMs, announceCount := 0 }
        ∧ t.control = (s.control.replied 0x04 tag .ok .none).queueAll
            (.link c .announceWait .hostRestart :: healthReport s t c)
        ∧ KeepsStreaming c s t ∧ t.clarity c = s.clarity c ∧ t.seams = s.seams
        ∧ { t.store c with health := (s.store c).health } = s.store c
        ∧ t.pins.power = s.drivePins.pins.power
        ∧ CameraFrame c s t)

/-! ## Parameters -/

/-- SET PARAMETERS of the groups whose values no state follows: each value is clamped to its range, stored, and returned,
with OK_CLAMPED where one was changed. -/
def Obligations.ParametersAreClampedAndStored : Prop :=
  ∀ (s : State) (tag : Byte),
    (∀ p q : LinkParams, Takes s (.setParametersLink tag (.fields p)) →
      q = ⟨min 1000 (max 50 p.announceWaitMs), min 500 (max 50 p.trainWaitMs), min 4 (max 0 p.trainTolerance),
        min 25 (max 1 p.retrainThreshold), min 30 (max 1 p.retrainFrames)⟩ →
      exec (.setParametersLink tag (.fields p)) s = .next (State.drivePins
        { s.replied 0x03 tag (if q = p then .ok else .okClamped) (.link q) with
          params := { s.params with link := q } }))
    ∧ (∀ p q : ToneLimits, Takes s (.setParametersToneLimits tag (.fields p)) →
      q = ⟨min 30 (max 2 p.satFrames), min 15 (max 1 p.exposureSettle)⟩ →
      exec (.setParametersToneLimits tag (.fields p)) s = .next (State.drivePins
        { s.replied 0x03 tag (if q = p then .ok else .okClamped) (.toneLimits q) with
          params := { s.params with toneLimits := q } }))
    ∧ (∀ p q : ClarityLimits, Takes s (.setParametersClarityLimits tag (.fields p)) →
      q = ⟨min 8 (max 1 p.clrStep), min 127 (max 0 p.validLo), min 255 (max 128 p.validHi),
        min 255 (max 10 p.obscureFrames), min 255 (max 5 p.clearFrames)⟩ →
      exec (.setParametersClarityLimits tag (.fields p)) s = .next (State.drivePins
        { s.replied 0x03 tag (if q = p then .ok else .okClamped) (.clarityLimits q) with
          params := { s.params with clarityLimits := q } }))
    ∧ (∀ p q : ZoneParams, Takes s (.setParametersZone tag (.fields p)) →
      q = ⟨min 8 (max 1 p.actStep), min 8 (max 1 p.actFrames), min 5000 (max 100 p.actHold)⟩ →
      exec (.setParametersZone tag (.fields p)) s = .next (State.drivePins
        { s.replied 0x03 tag (if q = p then .ok else .okClamped) (.zone q) with
          params := { s.params with zone := q } }))

/-- SET PARAMETERS of the store group stores the clamped values and turns every HELD entry above the new HOLD_LIMIT STALE,
age and last good frame number kept; the reply carries the group, and after it one HEALTH report is queued for each camera
whose health the new parameters change, in the order camera 0 to 3, which is the model's choice (log 11). -/
def Obligations.StoreParametersAgeTheTables : Prop :=
  ∀ (s : State) (tag : Byte) (p q : StoreParams), Takes s (.setParametersStore tag (.fields p)) →
    q = ⟨min 8 (max 1 p.holdLimit), min 50 (max 1 p.degradeLimit), min 15 (max 2 p.freezeLimit)⟩ →
    ∃ t, exec (.setParametersStore tag (.fields p)) s = .next t
      ∧ t.params = { s.params with store := q }
      ∧ (∀ c, (t.store c).table = (s.store c).table.map fun e =>
          if e.state = .held ∧ q.holdLimit < e.age then { e with state := .stale } else e)
      ∧ t.HealthLaw
      ∧ (∀ c, { t.store c with table := (s.store c).table, health := (s.store c).health } = s.store c)
      ∧ { t with
          params := s.params, stores := s.stores, cadence := s.cadence, control := s.control, pins := s.pins } = s
      ∧ t.control = (s.control.replied 0x03 tag (if q = p then .ok else .okClamped) (.store q)).queueAll
          (([0, 1, 2, 3] : List Cam).flatMap (healthReport s t))
      ∧ Beside s t

/-- SET PARAMETERS of the tone group: the target clamped to 32 to 224, the black offset to an even value up to 14; no count
and no gain moves. A camera outside 0 to 3 is BAD_VALUE. SET PARAMETERS of the clarity group: mode, partner and clamped
level are stored; a change of mode or partner sets both counts to 0; the clarity state stays. A PAIRED request without
another camera as partner is BAD_VALUE. -/
def Obligations.ToneAndClarityParameters : Prop :=
  (∀ (s : State) (tag : Byte) (f : ToneFields), Takes s (.setParametersTone tag (.fields f)) →
      (∀ (c : Cam) (target black : Nat), f.camera = c.val → target = min 224 (max 32 f.target) →
        black = (if 14 < f.black then 14 else f.black - f.black % 2) →
        exec (.setParametersTone tag (.fields f)) s = .next (State.drivePins
          { s.replied 0x03 tag (if target = f.target ∧ black = f.black then .ok else .okClamped)
              (.tone c target black) with
            tones := put s.tones c { s.tone c with target := target, black := black } }))
      ∧ (4 ≤ f.camera →
        exec (.setParametersTone tag (.fields f)) s = .next (s.replied 0x03 tag .badValue .none).drivePins))
  ∧ (∀ (s : State) (tag : Byte) (f : ClarityFields), Takes s (.setParametersClarity tag (.fields f)) →
      (∀ (c : Cam) (mode : ClarityMode), f.camera = c.val →
        (f.mode = some .fixed ∧ mode = .fixed ∨ f.mode = some .paired ∧ ∃ p : Cam, f.partner = p.val ∧ p ≠ c ∧ mode = .paired p) →
        exec (.setParametersClarity tag (.fields f)) s = .next (State.drivePins
          { s.replied 0x03 tag (if 1 ≤ f.level ∧ f.level ≤ 15 then .ok else .okClamped)
              (.clarity c mode (min 15 (max 1 f.level))) with
            clarities := put s.clarities c { s.clarity c with
              mode := mode, level := min 15 (max 1 f.level)
              low := if (s.clarity c).mode = mode then (s.clarity c).low else 0
              clear := if (s.clarity c).mode = mode then (s.clarity c).clear else 0 } }))
      ∧ (4 ≤ f.camera ∨ f.mode = none ∨ (f.mode = some .paired ∧ (4 ≤ f.partner ∨ f.partner = f.camera)) →
        exec (.setParametersClarity tag (.fields f)) s = .next (s.replied 0x03 tag .badValue .none).drivePins))

/-! ## Windows, seams, zones -/

/-- WINDOW SET within the limits makes the definition the window's pending change and nothing else; beyond the CLARITY or
the WATCH limit it is NO_ROOM. A body that carries a level and an arming mask without role WATCH, or not with it, is
BAD_LENGTH, and an id, camera, role, rectangle, step or level out of range is BAD_VALUE; neither changes anything. -/
def Obligations.WindowSetStoresAPendingChange : Prop :=
  (∀ (s : State) (tag : Byte) (f : WindowFields) (w : WindowId) (d : WindowDef), s.WindowLaw →
    Takes s (.windowSet tag (.fields f)) → windowLengthOk f = true → f.id = w.val → windowDefOf? f = some d →
    exec (.windowSet tag (.fields f)) s = .next (State.drivePins
      (if windowLimits (put s.windows w { s.window w with change := .set d }) then
        { s.replied 0x05 tag .ok .none with windows := put s.windows w { s.window w with change := .set d } }
      else s.replied 0x05 tag .noRoom .none)))
  ∧ ∀ (s : State) (tag : Byte) (f : WindowFields), Takes s (.windowSet tag (.fields f)) →
    let badLength := f.role = some .watch ∧ f.watch = none
      ∨ f.role ≠ none ∧ f.role ≠ some .watch ∧ f.watch ≠ none
    (badLength → exec (.windowSet tag (.fields f)) s = .next (s.replied 0x05 tag .badLength .none).drivePins)
    ∧ (¬badLength → 16 ≤ f.id ∨ 4 ≤ f.camera ∨ f.role = none ∨ 256 < f.left ∨ 256 < f.top ∨ 256 < f.right ∨ 256 < f.bottom
        ∨ f.right ≤ f.left ∨ f.bottom ≤ f.top ∨ f.step = 0 ∨ 4 < f.step
        ∨ (∃ l m, f.role = some .watch ∧ f.watch = some (l, m) ∧ (l = 0 ∨ 15 < l)) →
      exec (.windowSet tag (.fields f)) s = .next (s.replied 0x05 tag .badValue .none).drivePins)

/-- WINDOW DROP, by the window's active definition and its pending change; an id out of range is BAD_VALUE. SEAM SET gives the
pair its windows and flag with correction 0 and no correction camera; a pair id or window id out of range, or one window
twice, is BAD_VALUE. -/
def Obligations.WindowDropAndSeamSet : Prop :=
  (∀ (s : State) (tag : Byte) (id : Nat), Takes s (.windowDrop tag (.fields id)) → 16 ≤ id →
      exec (.windowDrop tag (.fields id)) s = .next (s.replied 0x06 tag .badValue .none).drivePins)
  ∧ (∀ (s : State) (tag : Byte) (w : WindowId), Takes s (.windowDrop tag (.fields w.val)) →
      exec (.windowDrop tag (.fields w.val)) s = .next (State.drivePins
        (match (s.window w).active, (s.window w).change with
          | none, .set _ =>
            { s.replied 0x06 tag .ok .none with windows := put s.windows w { s.window w with change := .none } }
          | none, .none | none, .drop => s.replied 0x06 tag .notFound .none
          | some _, _ =>
            { s.replied 0x06 tag .ok .none with windows := put s.windows w { s.window w with change := .drop } })))
  ∧ (∀ (s : State) (tag : Byte) (f : SeamFields), Takes s (.seamSet tag (.fields f)) →
      (∀ (k : Fin 4) (a b : WindowId) (p : SeamPair), f.pair = k.val → f.windowA = a.val → f.windowB = b.val → a ≠ b →
        p = ⟨some a, some b, f.enabled, 0, none⟩ →
        exec (.seamSet tag (.fields f)) s = .next (State.drivePins
          { s.replied 0x07 tag .ok (.seam p (seamInForce s.windows p).isSome) with seams := put s.seams k p }))
      ∧ (4 ≤ f.pair ∨ 16 ≤ f.windowA ∨ 16 ≤ f.windowB ∨ f.windowA = f.windowB →
        exec (.seamSet tag (.fields f)) s = .next (s.replied 0x07 tag .badValue .none).drivePins))

/-- Hold timer expiry makes an ACTIVE zone IDLE with its count 0, its stored means kept, and queues one HAZARD report where the
hazard zone list changes, with the flag and each listed zone's window and camera. Where the timer has not run out,
as when a frame close taken before has restarted it, or is stopped, the expiry does not happen (log 1). -/
def Obligations.HoldTimerExpiry : Prop :=
  ∀ (s : State) (w : WindowId), s.held = false →
    (∀ z, s.zone w = some z → z.state = .active → z.hold = some 0 →
      ∃ t, exec (.holdTimerExpiry w) s = .next t
        ∧ t.zone w = some { z with state := .idle, count := 0, hold := none }
        ∧ (∀ v, v ≠ w → t.zone v = s.zone v)
        ∧ t.zones.latchedZones = s.zones.latchedZones ∧ t.zones.latchedHazard = s.zones.latchedHazard
        ∧ t.zones.hazardList = activeZones t.zones.zones
        ∧ t.control = s.control.queueAll (hazardReport s t)
        ∧ (s.HazardLaw → t.zones.hazardList = s.zones.hazardList.filter (· ≠ w)
          ∧ t.zones.hazard = !t.zones.hazardList.isEmpty ∧ w ∈ s.zones.hazardList)
        ∧ { t with zones := s.zones, cadence := s.cadence, control := s.control, pins := s.pins } = s
        ∧ Beside s t)
    ∧ ((∀ z, s.zone w = some z → z.hold ≠ some 0) → exec (.holdTimerExpiry w) s = .next s.drivePins)

/-- A frame close, while the link streams on: every seam pair by R110 and R111 on the gains before the step, the
saturation counts by R105, an exposure step by R106, the clarity decision by R117, R118 and R120, and every zone of the
camera by R124. Clarity and zones change state after as many frames in a row as their parameters say, and not before:
OBSCURE_FRAMES low frames, CLEAR_FRAMES frames that are not low, ACT_FRAMES active frames; a judged frame never ends
ACTIVE. A judged frame that is active raises the zone's count by one, up to ACT_FRAMES, to which a higher count comes down,
and starts or restarts the hold timer with ACT_HOLD exactly where the count then stands at ACT_FRAMES; one that is not sets
the count to 0 and leaves the hold timer as it was. -/
def Obligations.FramesInARowChangeTheState : Prop :=
  (∀ (s t : State) (c : Cam) (number : Byte), s.held = false → (s.port c).link = .streaming →
    (s.port c).phase = .opened → exec (.frameTrailerArrival c number (linkCheck [number])) s = .next t →
    (t.port c).link = .streaming →
    (∀ k, let p := look s.seams k
        let none0 := { p with correction := 0, camera := none }
        let lum : Cam → Nat → Int := fun cam mean =>
          ((min 255 (((mean - (s.tone cam).black) * (s.tone cam).gain + 128) / 256) : Nat) : Int)
        look t.seams k = if p.enabled = false then p
          else match seamInForce t.windows p, p.windowA, p.windowB with
            | some (ca, cb), some a, some b =>
              if cb ≠ c then if p.camera = none ∨ p.camera = some cb then p else none0
              else match (t.window a).valid?, (t.window b).valid? with
                | some ma, some mb =>
                  { p with
                    correction := min 24 (max (-24) ((lum ca ma.mean - lum cb mb.mean).tdiv 2)), camera := some c }
                | _, _ => if p.camera = some c then p else { p with correction := 0, camera := some c }
            | _, _, _ => none0)
    ∧ (let sat := s.params.toneLimits.satFrames
        let old := s.tone c
        let settle := old.settle - 1
        let desired := fun m => desiredGain m old.black (t.tone c).effective
        let high := match toneMean? t.windows c with
          | none => min sat old.high
          | some m => if (t.tone c).gain = 1023 ∧ 1023 < desired m then min sat (old.high + 1) else 0
        let low := match toneMean? t.windows c with
          | none => min sat old.low
          | some m => if (t.tone c).gain = 128 ∧ desired m < 128 then min sat (old.low + 1) else 0
        let up := high = sat ∧ settle = 0 ∧ ∃ top, (s.port c).maxExposure = some top ∧ (s.port c).exposure < top
        let down := ¬up ∧ low = sat ∧ settle = 0 ∧ 0 < (s.port c).exposure
        (t.tone c).high = (if up then 0 else high) ∧ (t.tone c).low = (if down then 0 else low)
          ∧ (t.tone c).settle = (if up ∨ down then s.params.toneLimits.exposureSettle else settle)
          ∧ ((t.port c).backSending, (t.port c).backWaiting) = (if up then (s.port c).backAfter [.exposureUp]
            else if down then (s.port c).backAfter [.exposureDown]
            else ((s.port c).backSending, (s.port c).backWaiting)))
    ∧ (let lim := s.params.clarityLimits
        let result := (clarityWindow? t.windows c).bind (·.result)
        let old := if result.any (·.first) then { s.clarity c with low := 0, clear := 0 } else s.clarity c
        t.clarity c = match result.map (·.verdict) with
          | some (.valid m) =>
            if m.mean < lim.validLo ∨ lim.validHi < m.mean then old
            else match old.mode with
              | .fixed => old.decide lim (decide (m.contrast < old.level * lim.clrStep))
              | .paired p => match (clarityWindow? t.windows p).bind Window.valid? with
                | some pm => if (t.port p).link = .streaming then
                    old.decide lim (decide (m.contrast * 16 < pm.contrast * old.level))
                  else old
                | none => old
          | _ => old)
    ∧ (∀ w, (s.window w).serves c = true →
        t.zone w = (s.zone w).map fun z => match (t.window w).result, (s.window w).active with
          | some ⟨_, _, e, .valid m, _⟩, some d =>
            let kept := { z with means := m.blocks, exposure := some e, valid := true }
            let level := match d.role with
              | .watch l _ => l
              | _ => 0
            let difference := (List.zipWith (fun a b => max a b - min a b) m.blocks z.means).sum / 16
            if (s.window w).armed s.selector.situation = false ∨ z.valid = false ∨ z.exposure ≠ some e then kept
            else kept.judge s.params.zone (decide (level * s.params.zone.actStep ≤ difference))
          | _, _ => { z with valid := false })
    ∧ t.zones.hazardList = activeZones t.zones.zones
    ∧ (∀ flag zs, .hazard flag zs ∈ hazardReport s t → t.zones.hazardList ≠ s.zones.hazardList
      ∧ flag = t.zones.hazard ∧ zs.map (·.1) = t.zones.hazardList
      ∧ ∀ p ∈ zs, ∀ d, (s.window p.1).active = some d → p.2 = d.camera))
  ∧ (∀ (cl : Clarity) (lim : ClarityLimits), cl.state = .clear → cl.low = 0 → 1 ≤ lim.obscureFrames →
    let after := fun n => (fun x : Clarity => x.decide lim true)^[n] cl
    (∀ n, n < lim.obscureFrames → (after n).state = .clear ∧ (after n).low = n)
      ∧ (after lim.obscureFrames).state = .obscured ∧ (after lim.obscureFrames).low = 0
      ∧ (after lim.obscureFrames).clear = 0)
  ∧ (∀ (cl : Clarity) (lim : ClarityLimits), cl.state = .obscured → cl.clear = 0 → 1 ≤ lim.clearFrames →
    let after := fun n => (fun x : Clarity => x.decide lim false)^[n] cl
    (∀ n, n < lim.clearFrames → (after n).state = .obscured ∧ (after n).clear = n)
      ∧ (after lim.clearFrames).state = .clear ∧ (after lim.clearFrames).low = 0
      ∧ (after lim.clearFrames).clear = 0)
  ∧ (∀ (z : Zone) (p : ZoneParams), z.state = .idle → z.count = 0 → 1 ≤ p.actFrames →
    let after := fun n => (fun x : Zone => x.judge p true)^[n] z
    (∀ n, 1 ≤ n → n < p.actFrames → (after n).state = .counting ∧ (after n).count = n ∧ (after n).hold = z.hold)
      ∧ (after p.actFrames).state = .active ∧ (after p.actFrames).hold = some p.actHold)
  ∧ (∀ (z : Zone) (p : ZoneParams), z.state = .active → z.count = 0 → 1 ≤ p.actFrames →
    let after := fun n => (fun x : Zone => x.judge p true)^[n] z
    (∀ n, n < p.actFrames → (after n).state = .active ∧ (after n).count = n ∧ (after n).hold = z.hold)
      ∧ ∀ n, p.actFrames ≤ n →
        (after n).state = .active ∧ (after n).count = p.actFrames ∧ (after n).hold = some p.actHold)
  ∧ ∀ (z : Zone) (p : ZoneParams),
    (∀ active, (z.judge p active).means = z.means ∧ (z.judge p active).exposure = z.exposure
      ∧ (z.judge p active).valid = z.valid)
    ∧ (z.judge p false).count = 0 ∧ (z.judge p false).hold = z.hold
    ∧ (z.judge p false).state = (if z.state = .active then .active else .idle)
    ∧ (z.count + 1 < p.actFrames → (z.judge p true).count = z.count + 1 ∧ (z.judge p true).hold = z.hold
      ∧ (z.judge p true).state = if z.state = .active then .active else .counting)
    ∧ (p.actFrames ≤ z.count + 1 → (z.judge p true).count = p.actFrames ∧ (z.judge p true).hold = some p.actHold
      ∧ (z.judge p true).state = .active)

/-- A sampled row adds one point for each of its sampled columns and one contrast point for each that has a right neighbour:
their luminances to the sum, the differences to the right neighbours without sign to the contrast sum. A flat row of luminance
v adds v for each point and no contrast; no point adds more than 255. Each point adds to the one block whose columns and rows
hold it, three of nw div 4 and the rest, so the block sums and counts rise together as the sum and the count do. The sampled
columns and rows are every step-th one of the ranges, and a segment adds its sampled rows to a measuring window of its camera.
A frame open gives a window of the camera its ranges in the mode, from the accumulators at 0. A frame close gives a measuring
window of the camera its result: SMALL below 16 columns or rows; otherwise ERRORED where a segment of its rows is errored;
otherwise VALID with the sums, the counts and the quotients. The tone mean is the sum of the sums of the camera's TONE windows
with a VALID result div the sum of their counts, and none without such a window. -/
def Obligations.RowsAreMeasured : Prop :=
  (∀ (acc : Accumulators) (r : PixelRanges) (step y : Nat) (lum : Nat → Nat), 1 ≤ step →
    let t := acc.addRow r step y lum
    let n := (r.nw + step - 1) / step
    let within : Nat → Nat → Nat → Nat → Bool := fun a n k x =>
      decide (a + k * (n / 4) ≤ x) && (decide (k = 3) || decide (x < a + (k + 1) * (n / 4)))
    t.count = acc.count + n ∧ t.contrastCount = acc.contrastCount + (n - 1)
      ∧ t.sum = acc.sum + ((sampledColumns r step).map lum).sum
      ∧ t.contrastSum = acc.contrastSum + (((sampledColumns r step).filter fun x => decide (x + step < r.xe)).map
          fun x => ((lum x : Int) - lum (x + step)).natAbs).sum
      ∧ (∀ v, (∀ x, lum x = v) → t.sum = acc.sum + v * n ∧ t.contrastSum = acc.contrastSum)
      ∧ ((∀ x, lum x ≤ 255) → t.sum ≤ acc.sum + 255 * n ∧ t.contrastSum ≤ acc.contrastSum + 255 * (n - 1))
      ∧ (r.ya ≤ y → ∀ b, b < 16 →
        let points := (sampledColumns r step).filter fun x =>
          within r.ya r.nh (b / 4) y && within r.xa r.nw (b % 4) x
        t.blockSums[b]? = (acc.blockSums[b]?).map (· + (points.map lum).sum)
          ∧ t.blockCounts[b]? = (acc.blockCounts[b]?).map (· + points.length))
      ∧ (acc.blockSums.length = 16 → acc.blockCounts.length = 16 →
        t.blockSums.length = 16 ∧ t.blockCounts.length = 16
          ∧ t.blockSums.sum + acc.sum = acc.blockSums.sum + t.sum
          ∧ t.blockCounts.sum + acc.count = acc.blockCounts.sum + t.count)
      ∧ (∀ x, x ∈ sampledColumns r step ↔ r.xa ≤ x ∧ x < r.xe ∧ ∃ k, x = r.xa + k * step))
  ∧ (∀ (w : Window) (c : Cam) (i : Nat) (lum : Nat → Nat → Nat) (d : WindowDef) (r : PixelRanges),
      w.active = some d → w.ranges = some r →
      (w.measuring = true ∧ d.camera = c → w.sample c i lum =
        { w with acc := (((List.range 16).map fun k => 16 * i + k).filter fun y =>
            decide (r.ya ≤ y ∧ y < r.ye ∧ (y - r.ya) % d.step = 0)).foldl (fun a y => a.addRow r d.step y (lum y)) w.acc })
      ∧ (w.measuring = false ∨ d.camera ≠ c → w.sample c i lum = w))
  ∧ (∀ (w : Window) (c : Cam) (m : CamMode) (d : WindowDef), w.active = some d →
      let size : Nat × Nat := match m with
        | .m1 => (1280, 800)
        | .m2 => (1280, 800)
        | .m3 => (1024, 640)
        | .m4 => (800, 512)
        | .m5 => (640, 400)
        | .m6 => (640, 400)
      w.openFrame c m = if d.camera = c then
        { w with
          measuring := true, acc := ⟨0, 0, 0, 0, List.replicate 16 0, List.replicate 16 0⟩
          ranges := some ⟨d.left * size.1 / 256, d.right * size.1 / 256, d.top * size.2 / 256, d.bottom * size.2 / 256⟩ }
      else w)
  ∧ (∀ (w : Window) (c : Cam) (frame : Byte) (exposure : Nat) (map : List Bool) (d : WindowDef) (r : PixelRanges),
      w.active = some d → w.ranges = some r →
      (w.measuring = false ∨ d.camera ≠ c → w.closeFrame c frame exposure map = w)
      ∧ (w.measuring = true → d.camera = c → ∃ v, w.closeFrame c frame exposure map =
          ⟨some d, w.change, false, ⟨0, 0, 0, 0, List.replicate 16 0, List.replicate 16 0⟩, none, false,
            some ⟨c, frame, exposure, v, w.first⟩⟩
        ∧ (let errored := ∃ k, r.ya / 16 ≤ k ∧ k ≤ (r.ye - 1) / 16 ∧ map[k]? ≠ some true
          (r.xe - r.xa < 16 ∨ r.ye - r.ya < 16 → v = .small)
          ∧ (16 ≤ r.xe - r.xa → 16 ≤ r.ye - r.ya → errored → v = .errored)
          ∧ (16 ≤ r.xe - r.xa → 16 ≤ r.ye - r.ya → ¬errored → ∃ m : Measures, v = .valid m
            ∧ m.sum = w.acc.sum ∧ m.count = w.acc.count ∧ m.mean = w.acc.sum / w.acc.count
            ∧ m.contrastSum = w.acc.contrastSum ∧ m.contrastCount = w.acc.contrastCount
            ∧ m.contrast = w.acc.contrastSum / w.acc.contrastCount
            ∧ ∀ b : Nat, m.blocks[b]? = match w.acc.blockSums[b]?, w.acc.blockCounts[b]? with
              | some total, some count => some (total / count)
              | _, _ => none))))
  ∧ ∀ (ws : Vector Window 16) (c : Cam),
      let part : WindowId → Option (Nat × Nat) := fun w => match (look ws w).active, (look ws w).result with
        | some ⟨camera, _, _, _, _, _, .tone⟩, some ⟨_, _, _, .valid m, _⟩ => if camera = c then some (m.sum, m.count) else none
        | _, _ => none
      let total := fun f : Nat × Nat → Nat => ((List.finRange 16).map fun w => ((part w).map f).getD 0).sum
      ((∀ w, part w = none) → toneMean? ws c = none)
      ∧ ((∃ w, part w ≠ none) → toneMean? ws c = some (total (·.1) / total (·.2)))

/-! ## Grids -/

/-- GRID BEGIN by its checks in order: BAD_VALUE, BAD_STATE, NO_ROOM, or a LOADING grid with every node unwritten and its
nodes taken from the pool; an id out of range is BAD_VALUE. -/
def Obligations.GridBeginByItsChecks : Prop :=
  (∀ (s : State) (tag : Byte) (f : GridBeginFields), Takes s (.gridBegin tag (.fields f)) → 16 ≤ f.id →
    exec (.gridBegin tag (.fields f)) s = .next (s.replied 0x08 tag .badValue .none).drivePins)
  ∧ ∀ (s : State) (tag : Byte) (g : Fin 16) (cols rows : Nat), Takes s (.gridBegin tag (.fields ⟨g.val, cols, rows⟩)) →
    exec (.gridBegin tag (.fields ⟨g.val, cols, rows⟩)) s = .next (State.drivePins
      (let old := fun st => s.replied 0x08 tag st (.grid (s.grid g).state (s.grid g).written s.grids.free)
      if ¬(2 ≤ cols ∧ cols ≤ 17 ∧ 2 ≤ rows ∧ rows ≤ 17) then old .badValue
      else if (s.grid g).isReady = true ∧ gridReferenced s.views g = true then old .badState
      else if s.grids.free + (s.grid g).size < cols * rows then old .noRoom
      else
        let free := s.grids.free + (s.grid g).size - cols * rows
        { s.replied 0x08 tag .ok (.grid .loading 0 free) with
          grids := ⟨put s.grids.grids g (.loading cols rows (List.replicate (cols * rows) none)), free⟩ }))

/-- GRID NODES writes every node it carries at consecutive indices of a LOADING grid, each with its written mark, and leaves
every other node and the free count as they were; the reply is OK with the number of written marks. GRID NODES is
refused with nothing written: first BAD_LENGTH with no node or more than forty, whatever the id, then BAD_VALUE for an id
out of range, BAD_STATE
for a grid that is not LOADING, BAD_VALUE past the last node. -/
def Obligations.GridNodesByTheirChecks : Prop :=
  (∀ (s : State) (tag : Byte) (g : Fin 16) (first cols rows : Nat) (new : List Node) (nodes : List (Option Node)),
      Takes s (.gridNodes tag (.fields ⟨g.val, first, new⟩)) → 1 ≤ new.length → new.length ≤ 40 →
      s.grid g = .loading cols rows nodes → nodes.length = cols * rows → first + new.length ≤ cols * rows →
      ∃ t written, exec (.gridNodes tag (.fields ⟨g.val, first, new⟩)) s = .next t
        ∧ t.grid g = .loading cols rows written ∧ written.length = nodes.length
        ∧ (∀ i, i < new.length → written[first + i]? = some new[i]?)
        ∧ (∀ i, i < first ∨ first + new.length ≤ i → written[i]? = nodes[i]?)
        ∧ t.grids.free = s.grids.free ∧ (∀ k, k ≠ g → t.grid k = s.grid k)
        ∧ t.control = s.control.replied 0x09 tag .ok
            (.grid .loading (written.countP fun x => x.isSome) s.grids.free)
        ∧ { t with grids := s.grids, control := s.control, pins := s.pins } = s)
  ∧ (∀ (s : State) (tag : Byte) (f : GridNodesFields), Takes s (.gridNodes tag (.fields f)) →
      (f.nodes = [] ∨ 40 < f.nodes.length →
        exec (.gridNodes tag (.fields f)) s = .next (s.replied 0x09 tag .badLength .none).drivePins)
      ∧ (16 ≤ f.id → 1 ≤ f.nodes.length → f.nodes.length ≤ 40 →
        exec (.gridNodes tag (.fields f)) s = .next (s.replied 0x09 tag .badValue .none).drivePins))
  ∧ (∀ (s : State) (tag : Byte) (g : Fin 16) (first : Nat) (new : List Node),
      Takes s (.gridNodes tag (.fields ⟨g.val, first, new⟩)) →
      let answer := fun st => exec (.gridNodes tag (.fields ⟨g.val, first, new⟩)) s = .next (State.drivePins
        (s.replied 0x09 tag st (.grid (s.grid g).state (s.grid g).written s.grids.free)))
      (1 ≤ new.length → new.length ≤ 40 → (s.grid g).state ≠ .loading → answer .badState)
      ∧ (1 ≤ new.length → new.length ≤ 40 → (s.grid g).state = .loading → (s.grid g).size < first + new.length →
        answer .badValue))

/-- GRID END makes a LOADING grid with every node written READY with those nodes; an incomplete one, and one that is not
LOADING, is BAD_STATE. GRID DROP empties a LOADING grid, or a READY grid that no pane names, and returns its nodes to the
pool; an EMPTY grid is NOT_FOUND and a referenced READY grid BAD_STATE. An id out of range is BAD_VALUE. -/
def Obligations.GridEndAndDrop : Prop :=
  (∀ (s : State) (tag : Byte) (id : Nat), 16 ≤ id →
      (Takes s (.gridEnd tag (.fields id)) →
        exec (.gridEnd tag (.fields id)) s = .next (s.replied 0x0A tag .badValue .none).drivePins)
      ∧ (Takes s (.gridDrop tag (.fields id)) →
        exec (.gridDrop tag (.fields id)) s = .next (s.replied 0x0B tag .badValue .none).drivePins))
  ∧ (∀ (s : State) (tag : Byte) (g : Fin 16), Takes s (.gridEnd tag (.fields g.val)) →
      (∀ (cols rows : Nat) (nodes : List Node), s.grid g = .loading cols rows (nodes.map some) →
        exec (.gridEnd tag (.fields g.val)) s = .next (State.drivePins
          { s.replied 0x0A tag .ok (.grid .ready 0 s.grids.free) with
            grids := ⟨put s.grids.grids g (.ready cols rows nodes), s.grids.free⟩ }))
      ∧ ((∀ (cols rows : Nat) (nodes : List Node), s.grid g ≠ .loading cols rows (nodes.map some)) →
        exec (.gridEnd tag (.fields g.val)) s = .next (State.drivePins
          (s.replied 0x0A tag .badState (.grid (s.grid g).state (s.grid g).written s.grids.free)))))
  ∧ (∀ (s : State) (tag : Byte) (g : Fin 16), Takes s (.gridDrop tag (.fields g.val)) →
      exec (.gridDrop tag (.fields g.val)) s = .next (State.drivePins
        (if (s.grid g).state = .empty then s.replied 0x0B tag .notFound (.grid .empty 0 s.grids.free)
        else if (s.grid g).state = .ready ∧ gridReferenced s.views g = true then
          s.replied 0x0B tag .badState (.grid .ready 0 s.grids.free)
        else
          { s.replied 0x0B tag .ok (.grid .empty 0 (s.grids.free + (s.grid g).size)) with
            grids := ⟨put s.grids.grids g .empty, s.grids.free + (s.grid g).size⟩ })))

/-! ## View tables -/

/-- PANE DROP makes a present slot of the edit copy absent; an absent one is NOT_FOUND, and a view or a slot out of range is
BAD_VALUE. VIEW SET gives a view of the edit copy its background and label, its slots unchanged; a view or glyph out of
range is BAD_VALUE. -/
def Obligations.PaneDropAndViewSet : Prop :=
  (∀ (s : State) (tag : Byte) (f : PaneDropFields), Takes s (.paneDrop tag (.fields f)) →
      (∀ (v : ViewId) (k : Fin 6), f.view = v.val → f.slot = k.val →
        exec (.paneDrop tag (.fields f)) s = .next (State.drivePins
          (match look (s.editView v).panes k with
            | none => s.replied 0x11 tag .notFound .none
            | some _ =>
              { s.replied 0x11 tag .ok .none with
                views := { s.views with edit := { s.views.edit with
                  views := put s.views.edit.views v
                    { s.editView v with panes := put (s.editView v).panes k none } } } })))
      ∧ (8 ≤ f.view ∨ 6 ≤ f.slot →
        exec (.paneDrop tag (.fields f)) s = .next (s.replied 0x11 tag .badValue .none).drivePins))
  ∧ (∀ (s : State) (tag : Byte) (f : ViewSetFields), Takes s (.viewSet tag (.fields f)) →
      (∀ (v : ViewId) (label : Fin 32), f.view = v.val → f.label = label.val →
        exec (.viewSet tag (.fields f)) s = .next (State.drivePins
          { s.replied 0x0F tag .ok .none with
            views := { s.views with edit := { s.views.edit with
              views := put s.views.edit.views v
                { s.editView v with background := f.background, label := label } } } }))
      ∧ (8 ≤ f.view ∨ 32 ≤ f.label →
        exec (.viewSet tag (.fields f)) s = .next (s.replied 0x0F tag .badValue .none).drivePins))

/-- VIEW MAP SET gives each named entry of the edit view map its view and keeps the others; a code or view out of range, or
a code that appears twice, is BAD_VALUE, and no pair or more than eight is BAD_LENGTH. SET OVERLAY LIST replaces a list of
the edit copy by up to twelve distinct defined shapes; more are BAD_LENGTH, an id out of range or a shape twice is BAD_VALUE
and an undefined shape NOT_FOUND. -/
def Obligations.MapAndListEdits : Prop :=
  (∀ (s : State) (tag : Byte),
      (∀ pairs : List (Fin 8 × ViewId), let body := pairs.map fun p => (p.1.val, p.2.val)
        Takes s (.viewMapSet tag (.fields body)) → pairs ≠ [] → (pairs.map (·.1)).Nodup →
        ∃ map, exec (.viewMapSet tag (.fields body)) s = .next (State.drivePins
            { s.replied 0x12 tag .ok .none with views := { s.views with edit := { s.views.edit with map := map } } })
          ∧ ∀ k, (∀ v, (k, v) ∈ pairs → look map k = v)
            ∧ ((∀ v, (k, v) ∉ pairs) → look map k = look s.views.edit.map k))
      ∧ ∀ body : List (Nat × Nat), Takes s (.viewMapSet tag (.fields body)) →
        (body = [] ∨ 8 < body.length →
          exec (.viewMapSet tag (.fields body)) s = .next (s.replied 0x12 tag .badLength .none).drivePins)
        ∧ (1 ≤ body.length → body.length ≤ 8 → (∃ p ∈ body, 8 ≤ p.1 ∨ 8 ≤ p.2) ∨ ¬(body.map (·.1)).Nodup →
          exec (.viewMapSet tag (.fields body)) s = .next (s.replied 0x12 tag .badValue .none).drivePins))
  ∧ (∀ (s : State) (tag : Byte) (f : OverlayListFields), Takes s (.setOverlayList tag (.fields f)) →
      (12 < f.shapes.length →
        exec (.setOverlayList tag (.fields f)) s = .next (s.replied 0x0E tag .badLength .none).drivePins)
      ∧ (f.shapes.length ≤ 12 → 16 ≤ f.list ∨ (∃ n ∈ f.shapes, 64 ≤ n) →
        exec (.setOverlayList tag (.fields f)) s = .next (s.replied 0x0E tag .badValue .none).drivePins))
  ∧ (∀ (s : State) (tag : Byte) (l : Fin 16) (shapes : List (Fin 64)), let f := ⟨l.val, shapes.map Fin.val⟩
      Takes s (.setOverlayList tag (.fields f)) → shapes.length ≤ 12 →
      exec (.setOverlayList tag (.fields f)) s = .next (State.drivePins
        (if ¬shapes.Nodup then s.replied 0x0E tag .badValue .none
        else if ∃ k ∈ shapes, s.shape k = none then s.replied 0x0E tag .notFound .none
        else
          { s.replied 0x0E tag .ok .none with
            views := { s.views with edit := { s.views.edit with lists := put s.views.edit.lists l shapes } } })))

/-- PANE SET: an id, a geometry or a value out of range is BAD_VALUE. Otherwise, for any of the four groups carried, the
resulting record is the slot's with the carried groups in place, and the defaults of R61 for an absent slot; an alternate
group with NONE removes the alternate, and a dress group has its list or NONE. By the checks in order: one camera twice is
BAD_VALUE, an absent slot without geometry and primary BAD_STATE, a carried grid that is not READY BAD_STATE, a grid of the
record that does not fit GRID_FIT, another present pane overlapped OVERLAP; and otherwise the slot holds the record. -/
def Obligations.PaneSetByItsChecks : Prop :=
  (∀ (s : State) (tag : Byte) (v : ViewId) (k : Fin 6) (geo : Option Geometry) (primary : Option PaneSource)
      (alternate : Option (Option PaneSource)) (dress : Option Dress),
      let source : PaneSource → SourceFields := fun p => ⟨p.camera.val, p.grid.val⟩
      let f : PaneSetFields := ⟨v.val, k.val, geo, primary.map source, alternate.map (·.map source),
        dress.map fun d => ⟨d.list.map Fin.val, d.mirror, d.border, d.label.val⟩⟩
      let old := look (s.editView v).panes k
      let geo' := geo.or (old.map (·.geometry))
      let primary' := primary.or (old.map (·.primary))
      let alternate' := alternate.getD (old.bind (·.alternate))
      let dress' : Dress := dress.getD ((old.map fun p => ⟨p.list, p.mirror, p.border, p.label⟩).getD
        ⟨none, false, ⟨128, 128, 128⟩, 0⟩)
      (∀ g, geo = some g → geometryInRange g = true) → (∀ d, dress = some d → d.list ≠ some 0) →
      Takes s (.paneSet tag (.fields f)) →
      exec (.paneSet tag (.fields f)) s = .next (State.drivePins
        (if primary'.any (fun p => alternate'.any fun a => p.camera = a.camera) = true then
          s.replied 0x10 tag .badValue .none
        else match geo', primary' with
          | some g, some p =>
            if primary.any (fun q => !(s.grid q.grid).isReady) = true
                ∨ alternate.any (fun a => a.any fun q => !(s.grid q.grid).isReady) = true then
              s.replied 0x10 tag .badState .none
            else if (s.grid p.grid).fits g = false ∨ alternate'.any (fun a => !(s.grid a.grid).fits g) = true then
              s.replied 0x10 tag .gridFit .none
            else if ∃ j, j ≠ k ∧ (look (s.editView v).panes j).any (fun q => overlaps g q.geometry) = true then
              s.replied 0x10 tag .overlap .none
            else
              { s.replied 0x10 tag .ok .none with
                views := { s.views with edit := { s.views.edit with
                  views := put s.views.edit.views v { s.editView v with
                    panes := put (s.editView v).panes k (some
                      ⟨g, p, alternate', dress'.list, dress'.mirror, dress'.border, dress'.label⟩) } } } }
          | _, _ => s.replied 0x10 tag .badState .none)))
  ∧ (∀ (s : State) (tag : Byte) (f : PaneSetFields), Takes s (.paneSet tag (.fields f)) →
      let badSource : SourceFields → Prop := fun p => 4 ≤ p.camera ∨ 16 ≤ p.grid
      8 ≤ f.view ∨ 6 ≤ f.slot
        ∨ (∃ g, f.geometry = some g ∧ (960 < g.x ∨ 536 < g.y ∨ g.w % 8 ≠ 0 ∨ g.h % 8 ≠ 0 ∨ g.w < 64 ∨ 1024 < g.w ∨ g.h < 64
            ∨ 600 < g.h ∨ 1024 < g.x + g.w ∨ 600 < g.y + g.h))
        ∨ (∃ p, f.primary = some p ∧ badSource p) ∨ (∃ p, f.alternate = some (some p) ∧ badSource p)
        ∨ (∃ d, f.dress = some d ∧ (32 ≤ d.label ∨ ∃ n, d.list = some n ∧ (n = 0 ∨ 16 ≤ n))) →
      exec (.paneSet tag (.fields f)) s = .next (s.replied 0x10 tag .badValue .none).drivePins)

/-- APPLY TABLES sets the apply pending flag, but is BAD_STATE in RUN where the edit map names a view with no pane. -/
def Obligations.ApplyTables : Prop :=
  ∀ (s : State) (tag : Byte), Takes s (.applyTables tag (.fields ())) →
    exec (.applyTables tag (.fields ())) s = .next (State.drivePins
      (if s.mode = .run ∧ ∃ k, ∀ j, look (look s.views.edit.views (look s.views.edit.map k)).panes j = none then
        s.replied 0x13 tag .badState .none
      else { s.replied 0x13 tag .ok .none with views := { s.views with applyPending := true } }))

/-! ## Output frames -/

/-- Output frame start: the counter rises, a pending apply is made, the shown view follows the requested view where
the dwell has expired, the situation skips it, or a force changed; every block that draws takes its latch; the reports
enter the queue in the order of R168, and PANE_ALT is counted for each slot that takes its alternate; no block but those
that draw changes. That the BLINK phase is latched after the triggers of the same start is the model's reading (log 11). -/
def Obligations.OutputFrameStart : Prop :=
  ∀ s : State, s.held = false → ∃ t, exec .outputFrameStart s = .next t
    ∧ t.display.counter = s.display.counter + 1
    ∧ t.views.live = (if s.views.applyPending then s.views.edit else s.views.live) ∧ t.views.edit = s.views.edit
    ∧ t.views.applyPending = false
    ∧ (let wanted := match s.selector.force with
          | some f => f.view
          | none => look t.views.live.map (situationCode s.selector.situation)
        let follows := s.selector.dwell = none ∨ s.selector.situation ∈ [.noData, .reverse, .lift]
          ∨ s.selector.forceChange = true
        t.selector.shown = (if follows then wanted else s.selector.shown)
          ∧ t.selector.dwell = (if follows ∧ wanted ≠ s.selector.shown then
              (if s.params.situation.viewMinDwell = 0 then none else some s.params.situation.viewMinDwell)
            else s.selector.dwell))
    ∧ t.selector.forceChange = false
    ∧ t.selector.latch = ⟨s.selector.situation, t.selector.shown, s.selector.vehicle.gear, s.selector.vehicle.kerb,
        isMoving s.selector.vehicle⟩
    ∧ { t.selector with
        shown := s.selector.shown, dwell := s.selector.dwell, forceChange := s.selector.forceChange
        latch := s.selector.latch } = s.selector
    ∧ t.display.latch = ⟨s.mode, t.selector.shown, s.selector.situation, s.zones.hazard,
        allWindows.filterMap fun w => (s.zone w).map fun z =>
          ⟨w, s.zoneCamera w, z.state, (s.window w).armed s.selector.situation⟩⟩
    ∧ { t.display with counter := s.display.counter, latch := s.display.latch } = s.display
    ∧ (∀ c, (t.store c).freeze = (if (s.port c).link = .streaming then min 15 ((s.store c).freeze + 1)
          else (s.store c).freeze)
        ∧ (t.store c).latch.table = (s.store c).table ∧ (t.store c).latch.mode = (s.port c).mode
        ∧ (t.store c).latch.health = (t.store c).health ∧ (t.store c).latch.shown = (s.store c).shown
        ∧ (∀ segment bank, readCell (t.store c).latch.contents (bankKey segment bank)
            = if bank = shownBank (s.store c).shown segment then readCell (s.store c).banks (bankKey segment bank)
              else none)
        ∧ { t.store c with
            freeze := (s.store c).freeze, health := (s.store c).health, latch := (s.store c).latch } = s.store c)
    ∧ (∀ c, t.tone c = { s.tone c with latchedGain := (s.tone c).gain, latchedBlack := (s.tone c).black })
    ∧ t.shapes = { s.shapes with latched := s.shapes.shapes }
    ∧ t.zones = { s.zones with
        latchedHazard := s.zones.hazard
        latchedZones := allWindows.filterMap fun w => (s.zone w).map fun z =>
          ⟨w, s.zoneCamera w, z.state, (s.window w).armed s.selector.situation⟩ }
    ∧ t.cadence.latchedPhase = decide (t.cadence.blink.state = .on)
    ∧ t.cadence.blink.settings = s.cadence.blink.settings ∧ t.cadence.buzz.settings = s.cadence.buzz.settings
    ∧ t.control = t.views.choice.toList.foldl
        (fun k choice => match choice with
          | some ⟨source, true⟩ => k.countEvents .paneAlt (some source.camera) 1
          | _ => k)
        (s.control.queueAll (([0, 1, 2, 3] : List Cam).flatMap (healthReport s t)
          ++ (if s.views.applyPending then [.tablesLive] else [])
          ++ if t.selector.shown = s.selector.shown then []
            else [.view t.selector.shown s.selector.situation s.selector.force.isSome]))
    ∧ { t with
        stores := s.stores, views := s.views, tones := s.tones, zones := s.zones, selector := s.selector
        shapes := s.shapes, cadence := s.cadence, control := s.control, display := s.display, pins := s.pins } = s

/-- The source choice of an output frame: the alternate where its latched rank is higher, none where both ranks are 0, the
primary otherwise; the pane's picture therefore comes from a camera of latched rank 1 or more. -/
def Obligations.SourceChoiceFollowsRanks : Prop :=
  ∀ (s t : State) (k : Fin 6) (p : Pane), s.held = false → exec .outputFrameStart s = .next t →
    look (look t.views.live.views t.selector.shown).panes k = some p →
    let rank := fun c : Cam => healthRank (t.store c).latch.health
    let other := (p.alternate.map fun a => rank a.camera).getD 0
    (rank p.primary.camera = 0 ∧ other = 0 → look t.views.choice k = none)
    ∧ (rank p.primary.camera < other → ∃ a, p.alternate = some a ∧ look t.views.choice k = some ⟨a, true⟩)
    ∧ (other ≤ rank p.primary.camera → rank p.primary.camera ≠ 0 → look t.views.choice k = some ⟨p.primary, false⟩)
    ∧ ∀ ch, look t.views.choice k = some ch → 1 ≤ rank ch.source.camera

/-- A pane pixel whose deciding segment is latched EMPTY or STALE shows the stale hatch, whatever the banks hold.
Outside RUN the output frame is flat: grey with the SETUP mark in CONFIG, black in STANDBY. A pane's border covers two
pixels at each edge, in its border colour, and in the hazard colour where the zone watch's latch of the frame's start holds
an ACTIVE and armed zone of the border camera and the latched BLINK phase is ON. A pane with a chosen source takes the
sampler's value; without one it shows the frozen pattern where its primary is FROZEN, the hatch with the FROZEN mark, and
otherwise the no-picture pattern, flat grey with its label glyph. The LENS icon is drawn for a chosen camera of latched
health OBSCURED, the ALT icon for a chosen alternate. In RUN the layers are the background with the view label glyph, the
panes in slot order, each of them picture, shapes, icons and border inside its rectangle alone, the screen list, and the
NO DATA mark. The output frame is a function of the latched state in this model (log 8), and a mark's pattern is free
(log 13). -/
def Obligations.PatternsOfTheOutputFrame : Prop :=
  (∀ (s : State) (c : Cam) (m : CamMode) (u v x y : Nat) (e : SegEntry),
      (s.store c).latch.table[decidingRow (sourcePos v (modeHeight m)) / 16]? = some e →
      e.state = .empty ∨ e.state = .stale →
      s.sourcePixel c m u v x y = ⟨if (x + y) / 8 % 2 = 0 then 96 else 64, 128, 128⟩)
  ∧ (∀ (s : State) (x y : Nat),
      (s.display.latch.mode = .standby → s.pixelAt x y = ⟨0, 128, 128⟩)
      ∧ (s.display.latch.mode = .config → (x < 496 ∨ 528 ≤ x ∨ y < 284 ∨ 316 ≤ y) → s.pixelAt x y = ⟨40, 128, 128⟩)
      ∧ (s.display.latch.mode = .config → 496 ≤ x → x < 528 → 284 ≤ y → y < 316 →
        s.pixelAt x y = if Config.markPattern .setup ((x - 496) / 2) ((y - 284) / 2) then ⟨235, 128, 128⟩
          else ⟨40, 128, 128⟩))
  ∧ (∀ (s : State) (p : Pane) (choice : Option ChosenSource) (px py : Nat) (value : Pixel),
      let edge := px < 2 ∨ p.geometry.w ≤ px + 2 ∨ py < 2 ∨ p.geometry.h ≤ py + 2
      let cam := match choice with
        | some ch => ch.source.camera
        | none => p.primary.camera
      (¬edge → s.drawBorder p choice px py value = value)
      ∧ (edge → s.drawBorder p choice px py value
        = if (∃ z ∈ s.display.latch.zones, z.camera = cam ∧ z.state = .active ∧ z.armed = true)
            ∧ s.cadence.latchedPhase = true then ⟨180, 44, 200⟩ else p.border))
  ∧ (∀ (s : State) (p : Pane) (background : Pixel) (px py : Nat),
      let left := (p.geometry.w - 32) / 2
      let top := (p.geometry.h - 32) / 2
      (∀ ch, s.pictureLayer p (some ch) background px py = s.samplePane p ch.source background px py)
      ∧ ((s.store p.primary.camera).latch.health = .frozen → s.pictureLayer p none background px py
        = if InMark (Config.markPattern .frozen) 2 left top px py then ⟨235, 128, 128⟩
          else ⟨if (p.geometry.x + px + (p.geometry.y + py)) / 8 % 2 = 0 then 96 else 64, 128, 128⟩)
      ∧ ((s.store p.primary.camera).latch.health ≠ .frozen → s.pictureLayer p none background px py
        = if p.label ≠ 31 ∧ InMark (Config.glyphPattern p.label.val) 2 left top px py then ⟨235, 128, 128⟩
          else ⟨40, 128, 128⟩))
  ∧ (∀ (s : State) (p : Pane) (ch : ChosenSource) (px py : Nat) (value : Pixel),
      s.statusIcons p none px py value = value
      ∧ s.statusIcons p (some ch) px py value
        = if ch.alternate = true ∧ InMark (Config.markPattern .alt) 1 4 4 px py then ⟨235, 128, 128⟩
          else if (s.store ch.source.camera).latch.health = .obscured
            ∧ InMark (Config.markPattern .lens) 1 (p.geometry.w - 20) 4 px py then ⟨200, 40, 165⟩
          else value)
  ∧ (∀ (s : State) (view : View) (x y : Nat) (value : Pixel) (k : Fin 6),
      (look view.panes k = none → s.drawSlot view x y value k = value)
      ∧ ∀ p, look view.panes k = some p →
        let g := p.geometry
        let choice := look s.views.choice k
        let px := x - g.x
        let py := y - g.y
        let picture := s.pictureLayer p choice view.background px py
        let pane : PaneConditions := match choice with
          | some ch => ⟨ch.alternate, decide ((s.store ch.source.camera).latch.health ≠ .good)⟩
          | none => ⟨false, true⟩
        let shaped := match p.list with
          | some l => overlayList s pane l px py picture
          | none => picture
        s.drawSlot view x y value k = if g.x ≤ x ∧ x < g.x + g.w ∧ g.y ≤ y ∧ y < g.y + g.h then
            s.drawBorder p choice px py (s.statusIcons p choice px py shaped)
          else value)
  ∧ ∀ (s : State) (x y : Nat), s.display.latch.mode = .run →
      let view := look s.views.live.views s.display.latch.shown
      let back : Pixel := if view.label ≠ 31 ∧ InMark (Config.glyphPattern view.label.val) 1 1004 580 x y then
          ⟨235, 128, 128⟩ else view.background
      s.pixelAt x y
        = if s.display.latch.situation = .noData ∧ InMark (Config.markPattern .noData) 2 988 4 x y then ⟨200, 40, 165⟩
          else overlayList s ⟨false, false⟩ 0 x y (([0, 1, 2, 3, 4, 5] : List (Fin 6)).foldl (s.drawSlot view x y) back)

/-- Stages 1 to 3 place a pane pixel in its cell, mirrored where the pane is, give the background colour at a void node, and
otherwise the weighted average of the corners: a value between the smallest and the largest corner value, and at a node
the node's own. Stage 4 stays inside the picture: the pixel and its neighbour lie in it, they differ by one below the limit,
and the fraction is 0 to 15. Where the deciding row's segment is FRESH or HELD, stage 6 takes the bilinear sample of the
latched shown banks, with the deciding row in place of a row whose segment is EMPTY or STALE, and stage 7 the gain and the
black offset; the sample lies between the values it is taken from. A POLYLINE covers a pixel at a distance of at most half
its width from a segment, a POLYGON one from which a ray crosses an odd number of edges, an ICON the set pixels of its
glyph, whose patterns are free (log 13). A rectangle with corners (a, b), (c, b), (c, d) and (a, d) covers columns a to c − 1
of rows b to d − 1. A shape is drawn where one of its conditions holds on the latched values and it does not blink in an
off-phase; the shapes of a list are blended in its order. The blend of a component lies between the two components, is the
colour at α 16, and leaves the value at α 0. -/
def Obligations.PixelArithmetic : Prop :=
  (∀ (s : State) (p : Pane) (src : PaneSource) (background : Pixel) (px py cols rows : Nat) (nodes : List Node)
      (m : CamMode) (a b c d : Node),
      let cw := p.geometry.w / (cols - 1)
      let ch := p.geometry.h / (rows - 1)
      let mx := if p.mirror then p.geometry.w - 1 - px else px
      let i := py / ch * cols + mx / cw
      let fx := mx % cw
      let fy := py % ch
      let mean := fun v00 v10 v01 v11 : Nat =>
        (v00 * (cw - fx) * (ch - fy) + v10 * fx * (ch - fy) + v01 * (cw - fx) * fy + v11 * fx * fy + cw * ch / 2) / (cw * ch)
      s.grid src.grid = .ready cols rows nodes → (s.store src.camera).latch.mode = some m →
      nodes[i]? = some a → nodes[i + 1]? = some b → nodes[i + cols]? = some c → nodes[i + cols + 1]? = some d →
      s.samplePane p src background px py = if a.void || b.void || c.void || d.void then background
        else s.sourcePixel src.camera m (mean a.u.toNat b.u.toNat c.u.toNat d.u.toNat)
          (mean a.v.toNat b.v.toNat c.v.toNat d.v.toNat) (p.geometry.x + px) (p.geometry.y + py))
  ∧ (∀ (s : State) (cam : Cam) (m : CamMode) (u v x y : Nat) (e : SegEntry),
      let l := (s.store cam).latch
      let sx := sourcePos u (modeWidth m)
      let sy := sourcePos v (modeHeight m)
      let decides := if sy.a < 8 then sy.p0 else sy.p1
      let usable : SegEntry → Bool := fun e => decide (e.state = .fresh ∨ e.state = .held)
      let row := fun r => if (l.table[r / 16]?).any usable then r else decides
      let mix := fun part : Pixel → Byte =>
        ((part (l.pixel s.epoch cam sx.p0 (row sy.p0))).toNat * (16 - sx.a) * (16 - sy.a)
          + (part (l.pixel s.epoch cam sx.p1 (row sy.p0))).toNat * sx.a * (16 - sy.a)
          + (part (l.pixel s.epoch cam sx.p0 (row sy.p1))).toNat * (16 - sx.a) * sy.a
          + (part (l.pixel s.epoch cam sx.p1 (row sy.p1))).toNat * sx.a * sy.a + 128) / 256
      let gain := (s.tone cam).latchedGain
      let black := (s.tone cam).latchedBlack
      let luma := mix (·.y)
      l.table[decides / 16]? = some e → usable e = true →
      luma ≤ 255 ∧ mix (·.cb) ≤ 255 ∧ mix (·.cr) ≤ 255
        ∧ s.sourcePixel cam m u v x y
          = ⟨BitVec.ofNat 8 (if luma ≤ black then 0 else min 255 (((luma - black) * gain + 128) / 256)),
            BitVec.ofNat 8 (mix (·.cb)), BitVec.ofNat 8 (mix (·.cr))⟩)
  ∧ (∀ (l : CamLatch) (epoch : Nat) (cam : Cam) (x row : Nat) (body : SegmentBody) (pixels : List Pixel) (p : Pixel),
      readCell l.contents (bankKey (row / 16) (shownBank l.shown (row / 16))) = some body → body[row % 16]? = some pixels →
      pixels[x]? = some p → l.pixel epoch cam x row = p)
  ∧ (∀ (x y : SourcePos) (a b c d : Byte) (lo hi : Nat), x.a ≤ 15 → y.a ≤ 15 → lo ≤ a.toNat → lo ≤ b.toNat →
      lo ≤ c.toNat → lo ≤ d.toNat → a.toNat ≤ hi → b.toNat ≤ hi → c.toNat ≤ hi → d.toNat ≤ hi →
      lo ≤ (bilinear x y a b c d).toNat ∧ (bilinear x y a b c d).toNat ≤ hi
        ∧ (x.a = 0 → y.a = 0 → bilinear x y a b c d = a))
  ∧ (∀ (p : Pixel) (black : Nat), toned p 256 0 = p ∧ (p.y.toNat ≤ black → (toned p 256 black).y = 0)
      ∧ (black + 64 ≤ p.y.toNat → (toned p 1023 black).y = 255))
  ∧ (∀ (sh : Shape) (x y : Nat),
      (∀ width, sh.form = .polyline width → (sh.covers x y = true ↔
        ∃ e ∈ sh.points.zip sh.points.tail, ∃ t : ℚ, 0 ≤ t ∧ t ≤ 1
          ∧ 4 * (((x : ℚ) - ((e.1.x : ℚ) + t * ((e.2.x : ℚ) - e.1.x))) ^ 2
            + ((y : ℚ) - ((e.1.y : ℚ) + t * ((e.2.y : ℚ) - e.1.y))) ^ 2) ≤ (width : ℚ) ^ 2))
      ∧ (sh.form = .polygon → (sh.covers x y = true ↔
        Odd ((sh.points.zip (sh.points.tail ++ sh.points.head?.toList)).countP fun e =>
          decide ((e.1.y > y ∧ ¬e.2.y > y ∨ ¬e.1.y > y ∧ e.2.y > y)
            ∧ (x : ℚ) < e.1.x + ((y : ℚ) - e.1.y) * ((e.2.x : ℚ) - e.1.x) / ((e.2.y : ℚ) - e.1.y)))))
      ∧ (∀ glyph p, sh.form = .icon glyph → sh.points = [p] → (sh.covers x y = true ↔
        glyph ≠ 31 ∧ InMark (Config.glyphPattern glyph.val) 1 p.x p.y x y)))
  ∧ (∀ (s : State) (pane : PaneConditions) (sh : Shape),
      sh.drawn s pane = true ↔ (sh.blink = true → s.cadence.latchedPhase = true)
        ∧ ∃ cond ∈ sh.conditions, match cond with
          | .always => True
          | .hazard => s.display.latch.hazard = true
          | .kerbIndicator => s.selector.latch.kerb = some .on
          | .reverse => s.selector.latch.gear = some .reverse
          | .moving => s.selector.latch.moving = true
          | .altSource => pane.alternate = true
          | .sourceNotGood => pane.notGood = true)
  ∧ (∀ (s : State) (pane : PaneConditions) (list : Fin 16) (x y : Nat) (value : Pixel),
      overlayList s pane list x y value = (look s.views.live.lists list).foldl (fun v k =>
        match look s.shapes.latched k with
        | some sh => if sh.drawn s pane = true ∧ sh.covers x y = true then
            ⟨blendPart v.y sh.colour.y sh.alpha, blendPart v.cb sh.colour.cb sh.alpha, blendPart v.cr sh.colour.cr sh.alpha⟩
          else v
        | none => v) value)
  ∧ (∀ (p : CellPlace) (a b c d lo hi : Nat), p.fx < p.cw → p.fy < p.ch →
      lo ≤ a → lo ≤ b → lo ≤ c → lo ≤ d → a ≤ hi → b ≤ hi → c ≤ hi → d ≤ hi →
      lo ≤ interpolate p a b c d ∧ interpolate p a b c d ≤ hi ∧ (p.fx = 0 → p.fy = 0 → interpolate p a b c d = a))
  ∧ (∀ (u : Nat) (m : CamMode), u ≤ 65535 → ∀ size, size = modeWidth m ∨ size = modeHeight m →
      let p := sourcePos u size
      p.p0 ≤ size - 1 ∧ p.p1 ≤ size - 1 ∧ p.a ≤ 15
        ∧ 16 * p.p0 + p.a = min ((size - 1) * 16) ((u * size * 16 + 32768) / 65536) ∧ (p.p0 < size - 1 → p.p1 = p.p0 + 1)
        ∧ (p.p0 = size - 1 → p.p1 = p.p0 ∧ p.a = 0))
  ∧ (∀ (a b c d x y : Nat), a < c → b < d →
      (coversPolygon [⟨a, b⟩, ⟨c, b⟩, ⟨c, d⟩, ⟨a, d⟩] x y = true ↔ a ≤ x ∧ x < c ∧ b ≤ y ∧ y < d))
  ∧ (∀ (base colour : Byte) (alpha : Nat), alpha ≤ 16 →
      (blendPart base colour alpha).toNat = (base.toNat * (16 - alpha) + colour.toNat * alpha + 8) / 16
      ∧ min base.toNat colour.toNat ≤ (blendPart base colour alpha).toNat
      ∧ (blendPart base colour alpha).toNat ≤ max base.toNat colour.toNat
      ∧ blendPart base colour 16 = colour ∧ blendPart base colour 0 = base)

/-- The display sense: a level that differs from the presence starts the timer, one that equals it stops the timer,
and the expiry takes the level and reports it. A timer that has not run out does not expire (log 1). -/
def Obligations.DisplaySense : Prop :=
  ∀ s : State, s.held = false →
    (∀ level, level ≠ s.display.level →
      exec (.displaySenseChange level) s = .next (State.drivePins { s with display := { s.display with
        level := level, senseTimer := if level = s.display.present then none else some 50 } }))
    ∧ (s.display.senseTimer = some 0 →
      exec .displaySenseTimerExpiry s = .next (State.drivePins { s with
        display := { s.display with present := s.display.level, senseTimer := none }
        control := s.control.queueReport (.display s.display.level s.display.counter) }))
    ∧ (s.display.senseTimer ≠ some 0 → exec .displaySenseTimerExpiry s = .next s.drivePins)

/-! ## Situations and views -/

/-- A vehicle state record that is taken: each present field replaces the selector's, the data is FRESH, the timeout
restarts, the turn dwell follows the indicator, the creep flag follows the speed, and the situation is the first of the
table of R137 whose condition holds: its own condition holds, and none of a lower code. A change of situation ends a force
that it outranks, with FORCE ENDED and the force change flag, disarms zones, and the HAZARD report follows (that order is
the model's reading, log 11). A record that is refused, BAD_VALUE or BAD_LENGTH, changes nothing. -/
def Obligations.VehicleRecordIsTaken : Prop :=
  (∀ (s : State) (tag : Byte) (record : List Byte) (r : Vehicle) (clamped : Bool),
    Takes s (.vehicleState tag record) → readVehicle record = .taken r clamped →
    ∃ t, exec (.vehicleState tag record) s = .next t
      ∧ t.selector.vehicle = ⟨r.speed.or s.selector.vehicle.speed, r.gear.or s.selector.vehicle.gear,
          r.kerb.or s.selector.vehicle.kerb, r.lift.or s.selector.vehicle.lift, r.step.or s.selector.vehicle.step⟩
      ∧ t.selector.fresh = true ∧ t.selector.timeout = some s.params.situation.vehTimeout
      ∧ t.selector.turnDwell = (if t.selector.vehicle.kerb = some .on then none
          else if s.selector.vehicle.kerb = some .on ∧ t.selector.vehicle.kerb = some .off
            ∧ s.params.situation.turnDwell ≠ 0 then some s.params.situation.turnDwell
          else s.selector.turnDwell)
      ∧ t.selector.creep = (match t.selector.vehicle.speed with
          | none => s.selector.creep
          | some k => if k ≤ s.params.situation.creepEnter then true
              else if s.params.situation.creepLeave ≤ k then false else s.selector.creep)
      ∧ t.selector.situation = rankSituation s.params.situation t.selector
      ∧ SituationFollowed s t (s.control.replied 0x14 tag (if clamped then .okClamped else .ok)
          (.vehicle t.selector.situation (match t.selector.force with
            | some f => f.view
            | none => look s.views.live.map (situationCode t.selector.situation))))
      ∧ t.params = s.params ∧ SelectorFrame s t)
  ∧ (∀ (s : State) (tag : Byte) (record : List Byte), Takes s (.vehicleState tag record) →
      (readVehicle record = .badValue →
        exec (.vehicleState tag record) s = .next (s.replied 0x14 tag .badValue .none).drivePins)
      ∧ (readVehicle record = .badLength →
        exec (.vehicleState tag record) s = .next (s.replied 0x14 tag .badLength .none).drivePins))
  ∧ ∀ (p : SituationParams) (sel : Selector),
    let v := sel.vehicle
    let holds : Situation → Prop := fun x => match x with
      | .noData => sel.fresh = false
      | .reverse => v.gear = some .reverse
      | .lift => v.lift = some .active ∧ ∃ k, v.speed = some k ∧ k ≤ p.liftSpeed
      | .stepRide => v.step = some .occupied ∧ v.speed ≠ some 0
      | .kerbTurn => (v.kerb = some .on ∨ sel.turnDwell ≠ none) ∧ ∀ k, v.speed = some k → k ≤ p.turnSpeed
      | .parked => v.gear = some .park
      | .creep => sel.creep = true
      | .cruise => True
    holds (rankSituation p sel)
      ∧ ∀ x, (situationCode x).val < (situationCode (rankSituation p sel)).val → ¬holds x

/-- The bytes of a vehicle state record are read as the fields they stand for, a speed above 250 as 250. A code that is none of
its field's and a presence bit above bit 4 are BAD_VALUE, and a number of bytes other than the presence bits call for is
BAD_LENGTH; that the presence bits are judged before the length is the model's reading (log 12). -/
def Obligations.VehicleRecordLayout : Prop :=
  ∀ (speed : Byte) (gear : Gear) (kerb : Kerb) (lift : Lift) (foot : Footstep),
    let g : Byte := match gear with
      | .forward => 0
      | .neutral => 1
      | .reverse => 2
      | .park => 3
    let k : Byte := match kerb with
      | .off => 0
      | .on => 1
    let l : Byte := match lift with
      | .idle => 0
      | .active => 1
    let f : Byte := match foot with
      | .empty => 0
      | .occupied => 1
    readVehicle [0x1F, speed, g, k, l, f]
        = .taken ⟨some (min speed.toNat 250), some gear, some kerb, some lift, some foot⟩ (decide (250 < speed.toNat))
    ∧ readVehicle [0x01, speed] = .taken ⟨some (min speed.toNat 250), none, none, none, none⟩ (decide (250 < speed.toNat))
    ∧ readVehicle [0x02, g] = .taken ⟨none, some gear, none, none, none⟩ false
    ∧ readVehicle [0x0C, k, l] = .taken ⟨none, none, some kerb, some lift, none⟩ false
    ∧ readVehicle [0x10, f] = .taken ⟨none, none, none, none, some foot⟩ false
    ∧ readVehicle [0x00] = .taken ⟨none, none, none, none, none⟩ false
    ∧ (∀ b : Byte, (4 ≤ b.toNat → readVehicle [0x02, b] = .badValue)
      ∧ (2 ≤ b.toNat → readVehicle [0x04, b] = .badValue ∧ readVehicle [0x08, b] = .badValue
        ∧ readVehicle [0x10, b] = .badValue))
    ∧ readVehicle [] = .badLength
    ∧ ∀ (presence : Byte) (rest : List Byte),
      (32 ≤ presence.toNat → readVehicle (presence :: rest) = .badValue)
      ∧ (presence.toNat < 32 → rest.length ≠ ([0, 1, 2, 3, 4].filter fun i => presence.getLsbD i).length →
        readVehicle (presence :: rest) = .badLength)

/-- The timers of the selector: the vehicle timeout makes every field unknown and the situation NO_DATA; the turn dwell
stops and the situation is ranked; the view dwell timer expires and nothing else changes; a timer that has not run out does
not expire (log 1). SET PARAMETERS of the situation group stores the clamped values with CREEP_LEAVE above CREEP_ENTER,
replies with them, judges the creep flag on the present speed and ranks the situation. A change of situation has the
consequences for a force, the zones and the reports that it has at a vehicle record (order of the reports: log 11). -/
def Obligations.SelectorTimersAndParameters : Prop :=
  (∀ s : State, s.held = false →
      (s.selector.timeout = some 0 → ∃ t, exec .vehicleTimeoutExpiry s = .next t
        ∧ t.selector.vehicle = ⟨none, none, none, none, none⟩ ∧ t.selector.fresh = false ∧ t.selector.timeout = none
        ∧ t.selector.creep = false ∧ t.selector.turnDwell = none ∧ t.selector.situation = .noData
        ∧ t.selector.force = s.selector.force ∧ SituationFollowed s t s.control
        ∧ t.params = s.params ∧ SelectorFrame s t)
      ∧ (s.selector.turnDwell = some 0 → ∃ t, exec .turnDwellExpiry s = .next t
        ∧ t.selector.turnDwell = none ∧ t.selector.vehicle = s.selector.vehicle
        ∧ t.selector.situation = rankSituation s.params.situation t.selector
        ∧ t.selector.fresh = s.selector.fresh ∧ t.selector.timeout = s.selector.timeout
        ∧ t.selector.creep = s.selector.creep ∧ SituationFollowed s t s.control
        ∧ t.params = s.params ∧ SelectorFrame s t)
      ∧ (s.selector.dwell = some 0 → exec .viewDwellTimerExpiry s
        = .next (State.drivePins { s with selector := { s.selector with dwell := none } }))
      ∧ (s.selector.timeout ≠ some 0 → exec .vehicleTimeoutExpiry s = .next s.drivePins)
      ∧ (s.selector.turnDwell ≠ some 0 → exec .turnDwellExpiry s = .next s.drivePins)
      ∧ (s.selector.dwell ≠ some 0 → exec .viewDwellTimerExpiry s = .next s.drivePins))
  ∧ (∀ (s : State) (tag : Byte) (p q : SituationParams), Takes s (.setParametersSituation tag (.fields p)) →
      (let enter := min 30 (max 0 p.creepEnter)
        let leave := min 40 (max 1 p.creepLeave)
        q = ⟨min 2000 (max 100 p.vehTimeout), min 10000 (max 0 p.turnDwell), min 5000 (max 0 p.viewMinDwell),
          min 15 (max 0 p.liftSpeed), min 60 (max 0 p.turnSpeed), enter, if leave ≤ enter then enter + 1 else leave⟩) →
      ∃ t, exec (.setParametersSituation tag (.fields p)) s = .next t
        ∧ t.params = { s.params with situation := q } ∧ q.creepEnter < q.creepLeave
        ∧ t.selector.creep = (match s.selector.vehicle.speed with
            | none => s.selector.creep
            | some k => if k ≤ q.creepEnter then true else if q.creepLeave ≤ k then false else s.selector.creep)
        ∧ t.selector.situation = rankSituation q t.selector
        ∧ t.selector.vehicle = s.selector.vehicle ∧ t.selector.timeout = s.selector.timeout
        ∧ t.selector.turnDwell = s.selector.turnDwell ∧ t.selector.fresh = s.selector.fresh
        ∧ SituationFollowed s t (s.control.replied 0x03 tag (if q = p then .ok else .okClamped) (.situation q))
        ∧ SelectorFrame s t)

/-- FORCE VIEW: BAD_VALUE out of range, BAD_STATE where the situation outranks the ceiling, and otherwise the force holds
with its timer, the force change flag is set, and a force that held ends REPLACED with its report. A force ends at RELEASE
VIEW and at the expiry of its timer: it becomes absent, the force change flag is set, and FORCE ENDED is queued; without a
force, RELEASE VIEW is NOT_FOUND, and a force timer that has not run out does not expire (log 1). -/
def Obligations.ForcesStartAndEnd : Prop :=
  (∀ (s : State) (tag : Byte) (f : ForceFields), Takes s (.forceView tag (.fields f)) →
      (8 ≤ f.view ∨ 8 ≤ f.ceiling →
        exec (.forceView tag (.fields f)) s = .next (s.replied 0x15 tag .badValue .none).drivePins)
      ∧ ∀ v ceiling : Fin 8, f.view = v.val → f.ceiling = ceiling.val →
        exec (.forceView tag (.fields f)) s = .next (State.drivePins
          (let code := (situationCode s.selector.situation).val
          if 1 ≤ code ∧ code ≤ ceiling.val then s.replied 0x15 tag .badState .none
          else
            let seconds := min 600 f.timeout
            let k := s.control.replied 0x15 tag (if f.timeout ≤ 600 then .ok else .okClamped) .none
            { s with
              selector := { s.selector with
                force := some ⟨v, ceiling, if seconds = 0 then none else some (1000 * seconds)⟩, forceChange := true }
              control := match s.selector.force with
                | none => k
                | some old => k.queueReport (.forceEnded old.view old.ceiling .replaced s.selector.situation) })))
  ∧ (∀ (s : State) (tag : Byte),
      (∀ f, Takes s (.releaseView tag (.fields ())) → s.selector.force = some f →
        exec (.releaseView tag (.fields ())) s = .next (State.drivePins { s with
          selector := { s.selector with force := none, forceChange := true }
          control := (s.control.replied 0x16 tag .ok .none).queueReport
            (.forceEnded f.view f.ceiling .released s.selector.situation) }))
      ∧ (Takes s (.releaseView tag (.fields ())) → s.selector.force = none →
        exec (.releaseView tag (.fields ())) s = .next (s.replied 0x16 tag .notFound .none).drivePins)
      ∧ (∀ f, s.held = false → s.selector.force = some f → f.timer = some 0 →
        exec .forceTimerExpiry s = .next (State.drivePins { s with
          selector := { s.selector with force := none, forceChange := true }
          control := s.control.queueReport (.forceEnded f.view f.ceiling .timeout s.selector.situation) }))
      ∧ (s.held = false → (∀ f, s.selector.force = some f → f.timer ≠ some 0) →
        exec .forceTimerExpiry s = .next s.drivePins))

/-! ## Shapes and cadence -/

/-- SHAPE SET replaces the record where its points fit the budget, and is NO_ROOM otherwise; the reply carries the shape's
points and the free points. A body whose points, width or glyph do not match its kind and point count is BAD_LENGTH, and a
value out of range is BAD_VALUE; neither changes anything. SHAPE DROP: NOT_FOUND for an undefined shape, BAD_STATE for one
that a list of either copy names, and otherwise the shape becomes undefined and its points return; an id out of range is
BAD_VALUE. -/
def Obligations.ShapeRequests : Prop :=
  (∀ (s : State) (tag : Byte) (id : Nat), Takes s (.shapeDrop tag (.fields id)) → 64 ≤ id →
      exec (.shapeDrop tag (.fields id)) s = .next (s.replied 0x0D tag .badValue .none).drivePins)
  ∧ (∀ (s : State) (tag : Byte) (f : ShapeFields) (k : Fin 64) (sh : Shape), Takes s (.shapeSet tag (.fields f)) →
      shapeLengthOk f = true → f.id = k.val → shapeOf? f = some sh →
      exec (.shapeSet tag (.fields f)) s = .next (State.drivePins
        (let held := shapePoints (s.shape k)
        if s.shapes.free + held < sh.points.length then
          s.replied 0x0C tag .noRoom (.shape held s.shapes.free)
        else
          let free := s.shapes.free + held - sh.points.length
          { s.replied 0x0C tag .ok (.shape sh.points.length free) with
            shapes := { s.shapes with shapes := put s.shapes.shapes k (some sh), free := free } })))
  ∧ (∀ (s : State) (tag : Byte) (f : ShapeFields), Takes s (.shapeSet tag (.fields f)) →
      let badLength := f.kind ≠ none ∧ (f.points.length ≠ f.count
        ∨ ¬(f.width ≠ none ↔ f.kind = some .polyline) ∨ ¬(f.glyph ≠ none ↔ f.kind = some .icon))
      let badPoints := (∃ p ∈ f.points, 1023 < p.x ∨ 599 < p.y) ∨ 16 < f.alpha
        ∨ none ∈ f.conditions ∨ ¬f.conditions.Nodup
      let badForm := f.kind = none
        ∨ f.kind = some .polyline ∧ (f.count < 2 ∨ 16 < f.count ∨ ∃ w, f.width = some w ∧ (w = 0 ∨ 8 < w))
        ∨ f.kind = some .polygon ∧ (f.count < 3 ∨ 16 < f.count)
        ∨ f.kind = some .icon ∧ (f.count ≠ 1 ∨ ∃ g, f.glyph = some g ∧ 32 ≤ g)
      (badLength → exec (.shapeSet tag (.fields f)) s = .next (s.replied 0x0C tag .badLength .none).drivePins)
      ∧ (¬badLength → 64 ≤ f.id →
        exec (.shapeSet tag (.fields f)) s = .next (s.replied 0x0C tag .badValue .none).drivePins)
      ∧ (∀ k : Fin 64, ¬badLength → f.id = k.val → badPoints ∨ badForm →
        exec (.shapeSet tag (.fields f)) s
          = .next (s.replied 0x0C tag .badValue (.shape (shapePoints (s.shape k)) s.shapes.free)).drivePins))
  ∧ (∀ (s : State) (tag : Byte) (k : Fin 64), Takes s (.shapeDrop tag (.fields k.val)) →
      exec (.shapeDrop tag (.fields k.val)) s = .next (State.drivePins
        (match s.shape k with
          | none => s.replied 0x0D tag .notFound .none
          | some sh =>
            if ∃ l, k ∈ look s.views.live.lists l ∨ k ∈ look s.views.edit.lists l then
              s.replied 0x0D tag .badState .none
            else
              let free := s.shapes.free + sh.points.length
              { s.replied 0x0D tag .ok (.freePoints free) with
                shapes := { s.shapes with shapes := put s.shapes.shapes k none, free := free } })))

/-- The phase timers of the cadence channels, by state, trigger and the cycles that remain; a timer that has not run out, or
that belongs to the other phase, does nothing (log 1). SILENCE on the BUZZ channel, by its state and trigger; BLINK is
left as it was. A combined trigger that becomes true takes a channel from IDLE to ON with cycle count 1 and the on-time, and
one that becomes false takes it from OFF or DONE to IDLE with cycle count 0; otherwise the channel keeps its state. Both
channels re-form their triggers on the present values. SET PARAMETERS of the cadence group: times brought to multiples of 10
in 10 to 2550, burst and tone clamped and returned, the running timer kept, and the combined trigger re-formed with the new
mask. The tone of the reply for BLINK is the model's choice (log 22). -/
def Obligations.CadenceCommands : Prop :=
  (∀ (s : State) (id : ChannelId), s.held = false → (s.channel id).timer ≠ some 0 →
      exec (.onTimeExpiry id) s = .next s.drivePins ∧ exec (.offTimeExpiry id) s = .next s.drivePins)
  ∧ (∀ (s : State) (id : ChannelId), s.held = false →
      let ch := s.channel id
      ch.timer = some 0 →
      (ch.state = .on → exec (.onTimeExpiry id) s = .next (State.drivePins (s.setChannel id
        (if ch.trigger = false then { ch with state := .idle, timer := none, cycles := 0, silenced := false }
        else if ch.burst = 0 ∨ ch.cycles < ch.burst then { ch with state := .off, timer := some ch.offTime }
        else { ch with state := .done, timer := none }))))
      ∧ (ch.state = .off → exec (.offTimeExpiry id) s = .next (State.drivePins (s.setChannel id
        { ch with state := .on, timer := some ch.onTime, cycles := min 15 (ch.cycles + 1), toneInUse := ch.tone })))
      ∧ (ch.state ≠ .on → exec (.onTimeExpiry id) s = .next s.drivePins)
      ∧ (ch.state ≠ .off → exec (.offTimeExpiry id) s = .next s.drivePins))
  ∧ (∀ (s : State) (tag : Byte), Takes s (.silence tag (.fields ())) →
      exec (.silence tag (.fields ())) s = .next (State.drivePins
        (let ch := s.cadence.buzz
        let new : Channel := match ch.state with
          | .on => if ch.trigger then { ch with state := .done, timer := none, silenced := true }
              else { ch with state := .idle, timer := none, cycles := 0, silenced := false }
          | .off => { ch with state := .done, timer := none, silenced := true }
          | .idle | .done => ch
        { s.replied 0x17 tag .ok (.buzz new.state) with cadence := { s.cadence with buzz := new } })))
  ∧ (∀ (s : State) (tag : Byte) (f : CadenceFields), Takes s (.setParametersCadence tag (.fields f)) →
      (f.channel = none →
        exec (.setParametersCadence tag (.fields f)) s = .next (s.replied 0x03 tag .badValue .none).drivePins)
      ∧ ∀ id, f.channel = some id → exec (.setParametersCadence tag (.fields f)) s = .next (State.drivePins
        (let ch : Channel := { s.channel id with
          onTime := min 2550 (max 10 (f.onTime - f.onTime % 10))
          offTime := min 2550 (max 10 (f.offTime - f.offTime % 10))
          burst := min 15 f.burst, mask := f.mask
          tone := if id = .buzz then min 3 f.tone else (s.channel id).tone }
        let kept := ch.onTime = f.onTime ∧ ch.offTime = f.offTime ∧ ch.burst = f.burst ∧ (id = .buzz → ch.tone = f.tone)
        (s.replied 0x03 tag (if kept then .ok else .okClamped)
          (.cadence id ch.onTime ch.offTime ch.burst ch.mask ch.tone)).setChannel id
            (ch.retrigger (combinedTrigger s f.mask)))))
  ∧ (∀ ch : Channel, ch.retrigger ch.trigger = ch
      ∧ (ch.trigger = false → ch.retrigger true = if ch.state = .idle then
          { ch with trigger := true, state := .on, cycles := 1, timer := some ch.onTime, toneInUse := ch.tone }
        else { ch with trigger := true })
      ∧ (ch.trigger = true → ch.retrigger false = if ch.state = .off ∨ ch.state = .done then
          { ch with trigger := false, state := .idle, cycles := 0, timer := none, silenced := false }
        else { ch with trigger := false }))
  ∧ (∀ (s : State) (id : ChannelId),
      s.reform.channel id = (s.channel id).retrigger (combinedTrigger s (s.channel id).mask)
      ∧ { s.reform with cadence := s.cadence } = s ∧ s.reform.cadence.latchedPhase = s.cadence.latchedPhase)

/-! ## The control link -/

/-- A frame of the layout of R162, received byte by byte from HUNT, is a request arrival of its KIND, TAG and body,
whatever they are, and leaves the receiver in HUNT; a byte without its stop bit makes the frame's check fail, and the frame
is discarded and counted. SET PARAMETERS is told by its group code, MODE by its mode code, and a code above theirs fixes no
length: its request is presented as UNKNOWN_REQUEST, which is the model's choice (log 7). Fields of two bytes come and go
high byte first: here the values of two groups, the nodes of GRID NODES, and the SET PARAMETERS reply. A sent frame has the
layout of R162, its body the status and the data, or the report's fields: here for IDENTIFY, READ CAMERA with its shares in
their order, and the DISPLAY report. The widths and the order of fields that the manual does not give, and that a count
stands first, are the model's reading (log 5). -/
def Obligations.FramesArriveAsRequests : Prop :=
  (∀ (k : Control) (kind tag : Byte) (body : List Byte) (stops : List Bool), k.rx = .initial → body.length ≤ 240 →
    stops.length = (frameBytes kind tag body).length →
    (List.zipWith LineByte.mk (frameBytes kind tag body) stops).foldl Control.receive k
      = if ∀ stop ∈ stops, stop = true then k.arrive (readRequest kind tag body) kind tag
        else k.countEvents .controlDiscard none 1)
  ∧ (∀ (tag code : Byte) (body : List Byte),
      readRequest 0x03 tag (code :: body) = (match code.toNat with
        | 0 => .setParametersLink tag (readLinkParams body)
        | 1 => .setParametersStore tag (readStoreParams body)
        | 2 => .setParametersTone tag (readToneFields body)
        | 3 => .setParametersToneLimits tag (readToneLimits body)
        | 4 => .setParametersClarity tag (readClarityFields body)
        | 5 => .setParametersClarityLimits tag (readClarityLimits body)
        | 6 => .setParametersZone tag (readZoneParams body)
        | 7 => .setParametersSituation tag (readSituationParams body)
        | 8 => .setParametersCadence tag (readCadenceFields body)
        | _ => .unknownRequest 0x03 tag)
      ∧ readRequest 0x1D tag [code] = (match code.toNat with
        | 0 => .modeConfig tag (.fields ())
        | 1 => .modeRun tag (.fields ())
        | 2 => .modeStandby tag (.fields ())
        | _ => .unknownRequest 0x1D tag))
  ∧ (∀ (tag a b h1 h0 id u1 u0 v1 v0 void : Byte) (p : ZoneParams),
      readRequest 0x03 tag [6, a, b, h1, h0]
        = .setParametersZone tag (.fields ⟨a.toNat, b.toNat, 256 * h1.toNat + h0.toNat⟩)
      ∧ (∀ body : List Byte, body.length ≠ 4 → readRequest 0x03 tag (6 :: body) = .setParametersZone tag .badLength)
      ∧ readRequest 0x09 tag [1, id, h1, h0, u1, u0, v1, v0, void]
        = .gridNodes tag (.fields ⟨id.toNat, 256 * h1.toNat + h0.toNat,
          [⟨u1 ++ u0, v1 ++ v0, decide (void = Config.flagByte true)⟩]⟩)
      ∧ (p.actStep ≤ 255 → p.actFrames ≤ 255 → p.actHold ≤ 65535 →
        readZoneParams (ReplyData.zone p).bytes = .fields p))
  ∧ (∀ (tag : Byte) (share : CameraShare), (TxFrame.reply ⟨0x98, tag, .ok, .camera share⟩).body
      = 0 :: (share.portBytes ++ share.storeBytes ++ share.toneBytes ++ share.clarityBytes))
  ∧ ∀ (tag : Byte) (present : Bool) (counter : BitVec 16),
      (TxFrame.reply ⟨0x81, tag, .ok, .identity 0x47A1 6420 1⟩).bytes
        = (let covered := [6, 0x81, tag, 0x00, 0x47, 0xA1, 0x19, 0x14, 0x01]
          0xC3 :: covered ++ [(linkCheck covered).extractLsb' 8 8, (linkCheck covered).extractLsb' 0 8])
      ∧ (TxFrame.report (.display present counter)).bytes
        = (let covered := [3, 0x45, 0, Config.flagByte present, counter.extractLsb' 8 8, counter.extractLsb' 0 8]
          0xC3 :: covered ++ [(linkCheck covered).extractLsb' 8 8, (linkCheck covered).extractLsb' 0 8])

/-- A byte, the completing check byte and the gap expiry act on the control link alone: a byte in HUNT other than SYNC is
dropped; SYNC starts a frame; LENGTH, KIND, TAG, each body byte and the first check byte are stored, the phase moves on and
the gap timer restarts with 10 ms; a LENGTH above 240 ends the frame without a count; the second check byte completes the
frame, and CONTROL_FRAME_COMPLETE does nothing where the receiver does not wait for it (log 1); a frame whose check fails,
or one of whose bytes lacked its stop bit, is discarded and counted; the gap expiry discards the frame in progress, and a gap
timer that has not run out does not expire (log 1). The end of a frame starts the oldest reply, or otherwise the oldest report;
with neither, the line is idle. -/
def Obligations.ReceiverAndTransmitterEvents : Prop :=
  (∀ (s : State) (b : Byte) (stop : Bool), s.held = false →
      (s.control.rx.phase = .hunt → b ≠ 0xC3 → exec (.byteReceived ⟨b, stop⟩) s = .next s.drivePins)
      ∧ (s.control.rx.phase = .hunt → exec (.byteReceived ⟨0xC3, stop⟩) s = .next (State.drivePins { s with
        control := { s.control with rx := ⟨.length, 0, 0, 0, [], none, some 10, !stop⟩ } }))
      ∧ (let rx := s.control.rx
        let becomes := fun rx' : Receiver => exec (.byteReceived ⟨b, stop⟩) s
          = .next (State.drivePins { s with control := { s.control with rx := rx' } })
        let damaged := rx.damaged || !stop
        (rx.phase = .length → b.toNat ≤ 240 →
          becomes { rx with phase := .kind, len := b.toNat, gap := some 10, damaged := damaged })
        ∧ (rx.phase = .length → 240 < b.toNat → becomes ⟨.hunt, 0, 0, 0, [], none, none, false⟩)
        ∧ (rx.phase = .kind → becomes { rx with phase := .tag, kind := b, gap := some 10, damaged := damaged })
        ∧ (rx.phase = .tag → becomes { rx with
            phase := if rx.len = 0 then .check else .body, tag := b, gap := some 10, damaged := damaged })
        ∧ (rx.phase = .body → becomes { rx with
            phase := if rx.body.length + 1 < rx.len then .body else .check, body := rx.body ++ [b], gap := some 10
            damaged := damaged })
        ∧ (rx.phase = .check → rx.checkHigh = none →
          becomes { rx with checkHigh := some b, gap := some 10, damaged := damaged })
        ∧ (rx.phase = .check → rx.checkHigh ≠ none →
          exec (.byteReceived ⟨b, stop⟩) s = exec (.controlFrameComplete ⟨b, stop⟩) s)
        ∧ (rx.phase ≠ .check ∨ rx.checkHigh = none → exec (.controlFrameComplete ⟨b, stop⟩) s = .next s.drivePins))
      ∧ (∀ high, s.control.rx.phase = .check → s.control.rx.checkHigh = some high →
        let rx := s.control.rx
        let hunting := { s.control with rx := ⟨.hunt, 0, 0, 0, [], none, none, false⟩ }
        let holds := rx.damaged = false ∧ stop = true
          ∧ linkCheck (BitVec.ofNat 8 rx.len :: rx.kind :: rx.tag :: rx.body) = high ++ b
        exec (.controlFrameComplete ⟨b, stop⟩) s = .next (State.drivePins { s with
          control := if holds then hunting.arrive (readRequest rx.kind rx.tag rx.body) rx.kind rx.tag
            else hunting.countEvents .controlDiscard none 1 }))
      ∧ (s.control.rx.gap = some 0 → exec .byteGapTimerExpiry s = .next (State.drivePins { s with
        control := { s.control with rx := ⟨.hunt, 0, 0, 0, [], none, none, false⟩ }.countEvents .controlDiscard none 1 }))
      ∧ (s.control.rx.gap ≠ some 0 → exec .byteGapTimerExpiry s = .next s.drivePins))
  ∧ (∀ (s : State), s.held = false → s.control.sending ≠ none →
      exec .frameSendEnd s = .next (State.drivePins { s with control := match s.control.replies, s.control.reports with
        | r :: rs, _ => { s.control with sending := some (.reply r), replies := rs }
        | [], r :: rs => { s.control with sending := some (.report r), reports := rs }
        | [], [] => { s.control with sending := none } }))

/-- A request that finds four waiting is answered FULL with its tag, or not answered and counted where four FULL
replies already wait; a request that may not be taken joins the queue; nothing else changes. The FULL reply is sent at once
where the line is idle and no reply waits before it. The command of a request that does not stand at the head of the queue,
and that may not be taken, is such an arrival; that of the request at the head changes nothing while it may not be taken
(log 6). A request of no known
KIND is answered BAD_KIND under the received KIND with its top bit set. A request whose body is of a length its kind
does not allow is answered BAD_LENGTH, with the status alone, and changes nothing: here for a request of each family.
That every other reply's KIND too is the received one with its top bit set is the model's reading (log 15). -/
def Obligations.RequestsThatAreTurnedAway : Prop :=
  (∀ (k : Control) (r : Instr) (kind tag : Byte),
      (k.requests.length < 4 → k.arrive r kind tag = { k with requests := k.requests ++ [r] })
      ∧ (4 ≤ k.requests.length → 4 ≤ k.replies.countP (fun q => q.status = .full) →
        k.arrive r kind tag = k.countEvents .controlDiscard none 1)
      ∧ (4 ≤ k.requests.length → k.replies.countP (fun q => q.status = .full) < 4 → k.sending ≠ none →
        k.arrive r kind tag = { k with replies := k.replies ++ [⟨kind ||| 0x80, tag, .full, .none⟩] })
      ∧ (4 ≤ k.requests.length → k.replies.countP (fun q => q.status = .full) < 4 → k.sending = none →
        k.arrive r kind tag = match k.replies with
          | [] => { k with sending := some (.reply ⟨kind ||| 0x80, tag, .full, .none⟩) }
          | q :: qs => { k with
              sending := some (.reply q), replies := qs ++ [⟨kind ||| 0x80, tag, .full, .none⟩] }))
  ∧ (∀ (s : State) (i : Instr) (kind tag : Byte), requestOf? i = some (kind, tag) → s.held = false →
      (s.control.requests.head? ≠ some i → s.control.requests ≠ [] ∨ s.control.processorFree = false →
        exec i s = .next (State.drivePins { s with control := s.control.arrive i kind tag }))
      ∧ (s.control.requests.head? = some i → s.control.processorFree = false → exec i s = .next s.drivePins))
  ∧ (∀ (s : State) (kind tag : Byte), Takes s (.unknownRequest kind tag) → kind = 0 ∨ 0x1F ≤ kind.toNat →
      exec (.unknownRequest kind tag) s = .next (State.drivePins { s with
        control := if s.control.sending = none then
            { s.control with
              requests := s.control.requests.tail, sending := some (.reply ⟨kind ||| 0x80, tag, .badKind, .none⟩) }
          else { s.control with
              requests := s.control.requests.tail
              replies := s.control.replies ++ [⟨kind ||| 0x80, tag, .badKind, .none⟩] } }))
  ∧ (∀ (s : State) (tag : Byte) (i : Instr) (kind : Byte),
      (i, kind) ∈ ([(.identify tag .badLength, 0x01), (.setParametersLink tag .badLength, 0x03),
        (.portEnable tag .badLength, 0x04), (.windowSet tag .badLength, 0x05), (.seamSet tag .badLength, 0x07),
        (.gridBegin tag .badLength, 0x08), (.shapeSet tag .badLength, 0x0C), (.paneSet tag .badLength, 0x10),
        (.forceView tag .badLength, 0x15), (.silence tag .badLength, 0x17), (.modeRun tag .badLength, 0x1D),
        (.restart tag .badLength, 0x1E)] : List (Instr × Byte)) →
      Takes s i → exec i s = .next (s.replied kind tag .badLength .none).drivePins)

/-- Requests that only read: IDENTIFY, READ CAMERA, READ METER, READ TABLE and COUNTER READ reply with what they read and
change no state of any block. READ CAMERA gives the port's share, the health with the segment table summary, the tone
controller's and the clarity monitor's share, READ METER the window's and a WATCH window's zone, READ TABLE a view, the map
or a list of either copy with the apply pending flag; an id out of range is BAD_VALUE, of READ TABLE with the flag. STATUS
replies with the summary of the part, the requested view in it (log 22), and sets the
report lost count to 0. COUNTER SELECT gives the counter its event and mask with count 0; a counter or event out of range is
BAD_VALUE and changes nothing. -/
def Obligations.ReadingAndCounterRequests : Prop :=
  (∀ (s : State) (tag : Byte),
      (Takes s (.identify tag (.fields ())) → exec (.identify tag (.fields ())) s
        = .next (s.replied 0x01 tag .ok (.identity 0x47A1 6420 1)).drivePins)
      ∧ (Takes s (.status tag (.fields ())) → exec (.status tag (.fields ())) s
        = .next (State.drivePins { s with
            control := { s.control.replied 0x02 tag .ok (.status
              { mode := s.mode, links := mapTable (·.link) s.ports, health := mapTable (·.health) s.stores
                situation := s.selector.situation, shown := s.selector.shown
                requested := match s.selector.force with
                  | some f => f.view
                  | none => look s.views.live.map (situationCode s.selector.situation)
                forced := s.selector.force.isSome, hazard := s.zones.hazard
                blink := ⟨s.cadence.blink.state, s.cadence.blink.cycles, s.cadence.blink.trigger⟩
                buzz := ⟨s.cadence.buzz.state, s.cadence.buzz.cycles, s.cadence.buzz.trigger⟩
                silenced := s.cadence.buzz.silenced, display := s.display.present, counter := s.display.counter
                lost := s.control.lost }) with lost := 0 } }))
      ∧ (∀ c : Cam, Takes s (.readCamera tag (.fields c.val)) → exec (.readCamera tag (.fields c.val)) s
        = .next (State.drivePins (s.replied 0x18 tag .ok (.camera
          (let p := s.port c
          let st := s.store c
          let t := s.tone c
          let cl := s.clarity c
          { link := p.link, mode := p.mode, exposure := p.exposure, typeCode := p.typeCode, maxExposure := p.maxExposure
            health := st.health
            numEmpty := st.table.countP fun e => e.state = .empty
            numFresh := st.table.countP fun e => e.state = .fresh
            numHeld := st.table.countP fun e => e.state = .held
            numStale := st.table.countP fun e => e.state = .stale
            staleOrEmpty := st.table.countP fun e => e.state = .empty ∨ e.state = .stale
            table := st.table
            gain := t.gain, black := t.black, target := t.target, effective := t.effective
            high := t.high, low := t.low, settle := t.settle
            corrections := ([0, 1, 2, 3] : List (Fin 4)).filterMap fun k =>
              if (look s.seams k).enabled = true ∧ (look s.seams k).camera = some c then
                some (k, (look s.seams k).correction)
              else none
            clarityMode := cl.mode, level := cl.level, clarity := cl.state, lowCount := cl.low
            clearCount := cl.clear })))))
      ∧ (∀ n, 4 ≤ n → Takes s (.readCamera tag (.fields n)) → exec (.readCamera tag (.fields n)) s
        = .next (s.replied 0x18 tag .badValue .none).drivePins)
      ∧ (∀ w : WindowId, Takes s (.readMeter tag (.fields w.val)) → exec (.readMeter tag (.fields w.val)) s
        = .next (s.replied 0x19 tag .ok (.meter ⟨(s.window w).active, (s.window w).change, (s.window w).measuring,
            (s.window w).result, match (s.window w).active with
              | some ⟨_, _, _, _, _, _, .watch _ mask⟩ => (s.zone w).map fun z =>
                  ⟨z.state, mask.getLsbD (situationCode s.selector.situation).val, z.count, z.hold, z.valid, z.exposure⟩
              | _ => none⟩)).drivePins)
      ∧ (∀ n, 16 ≤ n → Takes s (.readMeter tag (.fields n)) → exec (.readMeter tag (.fields n)) s
        = .next (s.replied 0x19 tag .badValue .none).drivePins)
      ∧ (∀ (copy : TableCopy) (item : TableItem), Takes s (.readTable tag (.fields ⟨some copy, some item⟩)) →
        let tables := match copy with
          | .edit => s.views.edit
          | .live => s.views.live
        let answer := fun st x => exec (.readTable tag (.fields ⟨some copy, some item⟩)) s
          = .next (s.replied 0x1A tag st (.table x s.views.applyPending)).drivePins
        (∀ v : ViewId, item = .view v.val → answer .ok (some (.view (look tables.views v))))
        ∧ (item = .map → answer .ok (some (.map tables.map)))
        ∧ (∀ l : Fin 16, item = .list l.val → answer .ok (some (.list (look tables.lists l))))
        ∧ (∀ n, item = .view n ∧ 8 ≤ n ∨ item = .list n ∧ 16 ≤ n → answer .badValue none))
      ∧ (∀ copy item, copy = none ∨ item = none → Takes s (.readTable tag (.fields ⟨copy, item⟩)) →
        exec (.readTable tag (.fields ⟨copy, item⟩)) s
          = .next (s.replied 0x1A tag .badValue (.table none s.views.applyPending)).drivePins)
      ∧ (Takes s (.counterRead tag (.fields ())) → exec (.counterRead tag (.fields ())) s
        = .next (s.replied 0x1C tag .ok (.counters s.control.counters)).drivePins))
  ∧ (∀ (s : State) (tag : Byte) (f : CounterFields), Takes s (.counterSelect tag (.fields f)) →
      (∀ (i : Fin 4) (e : StatEvent), f.counter = i.val →
        [StatEvent.none, .segmentError, .frameGap, .frameTruncated, .linkLost, .retrain, .paneAlt, .controlDiscard,
          .reportLost][f.event]? = some e →
        exec (.counterSelect tag (.fields f)) s = .next (State.drivePins { s with
          control := { s.control.replied 0x1B tag .ok .none with
            counters := put s.control.counters i ⟨e, f.mask, 0⟩ } }))
      ∧ (4 ≤ f.counter ∨ 9 ≤ f.event →
        exec (.counterSelect tag (.fields f)) s = .next (s.replied 0x1B tag .badValue .none).drivePins))

/-! ## Operating modes -/

/-- MODE by the present mode, where no port's link is concerned: the requests that change nothing, those refused, and
STANDBY to CONFIG. MODE RUN with every mapped view filled enters RUN: OK is answered, every ENABLED port that is OFF enters
ANNOUNCE_WAIT or DARK with its camera powered and queues LINK with cause ENABLED, and each channel re-forms its trigger; the
tables, the gains and the selector stay. That the ports report in the order 0 to 3, each LINK before its HEALTH, is the
model's choice (log 11). -/
def Obligations.ModeRequests : Prop :=
  (∀ (s : State) (tag : Byte),
      (Takes s (.modeConfig tag (.fields ())) → s.mode ≠ .run → exec (.modeConfig tag (.fields ())) s
        = .next (State.drivePins { s.replied 0x1D tag .ok (.mode .config) with mode := .config }))
      ∧ (Takes s (.modeRun tag (.fields ())) → s.mode = .run → exec (.modeRun tag (.fields ())) s
        = .next (s.replied 0x1D tag .ok (.mode .run)).drivePins)
      ∧ (∀ k, Takes s (.modeRun tag (.fields ())) → s.mode ≠ .run →
        (∀ j, look (look s.views.live.views (look s.views.live.map k)).panes j = none) →
        exec (.modeRun tag (.fields ())) s = .next (s.replied 0x1D tag .badState (.mode s.mode)).drivePins)
      ∧ (Takes s (.modeStandby tag (.fields ())) → s.mode = .config → exec (.modeStandby tag (.fields ())) s
        = .next (s.replied 0x1D tag .badState (.mode .config)).drivePins)
      ∧ (Takes s (.modeStandby tag (.fields ())) → s.mode = .standby → exec (.modeStandby tag (.fields ())) s
        = .next (s.replied 0x1D tag .ok (.mode .standby)).drivePins))
  ∧ (∀ (s : State) (tag : Byte), Takes s (.modeRun tag (.fields ())) → s.mode ≠ .run →
      (∀ k, ∃ j, look (look s.views.live.views (look s.views.live.map k)).panes j ≠ none) →
      ∃ t, exec (.modeRun tag (.fields ())) s = .next t ∧ t.mode = .run
        ∧ (∀ c, (s.port c).enabled = true → (s.port c).link = .off →
            t.port c = if (s.port c).carrier then
              { s.port c with
                link := .announceWait, announceTimer := some s.params.link.announceWaitMs, announceCount := 0 }
            else { s.port c with link := .dark })
        ∧ (∀ c, (s.port c).enabled = false ∨ (s.port c).link ≠ .off → t.port c = s.port c)
        ∧ (∀ c, (s.port c).enabled = true → look t.pins.power c = true)
        ∧ (∀ c, { t.store c with health := (s.store c).health } = s.store c)
        ∧ { t with
            mode := s.mode, ports := s.ports, stores := s.stores, cadence := s.cadence, control := s.control
            pins := s.pins } = s
        ∧ t.control = (s.control.replied 0x1D tag .ok (.mode .run)).queueAll
            (([0, 1, 2, 3] : List Cam).flatMap fun c =>
              if (s.port c).enabled = true ∧ (s.port c).link = .off then
                .link c (if (s.port c).carrier then .announceWait else .dark) .enabled :: healthReport s t c
              else [])
        ∧ (s.TriggerLaw → ∀ id,
            t.channel id = (s.channel id).retrigger (combinedTrigger t (s.channel id).mask))
        ∧ Beside s t)

/-- MODE CONFIG and MODE STANDBY from RUN: every port that was out of OFF is OFF with the values of R3 and its RELEASE where
carrier is present, and reports LEFT_RUN; a port that was OFF stays as it was; the windows of a camera that streamed lose
their latest result, measuring flag and accumulators, and its tone counts become 0; every table is empty, the channels are IDLE
and BUZZ is low; one HAZARD report follows where the list changes; the gains, the tables, the selector and the shapes stay,
and the output frame in progress is drawn to its end as it was. -/
def Obligations.LeavingRunTakesThePortsOff : Prop :=
  ∀ (s : State) (tag : Byte) (standby : Bool),
    let i : Instr := if standby then .modeStandby tag (.fields ()) else .modeConfig tag (.fields ())
    let mode : OpMode := if standby then .standby else .config
    Takes s i → s.mode = .run → ∃ t, exec i s = .next t
      ∧ t.mode = mode
      ∧ (∀ c, t.port c = if (s.port c).link = .off then s.port c else (s.port c).gone)
      ∧ (∀ c, if (s.port c).link = .off then t.store c = s.store c ∧ t.clarity c = s.clarity c
          else (t.store c).table = [] ∧ (t.store c).health = .off ∧ (t.store c).freeze = 0
            ∧ (∀ k, look (t.store c).shown k = .bank0)
            ∧ t.clarity c = { s.clarity c with state := .clear, low := 0, clear := 0 })
      ∧ (s.TableLaw → ∀ c, (t.store c).table = [])
      ∧ t.control = (s.control.replied 0x1D tag .ok (.mode mode)).queueAll
          (([0, 1, 2, 3] : List Cam).flatMap (fun c => if (s.port c).link = .off then []
            else .link c .off .leftRun :: healthReport s t c) ++ hazardReport s t)
      ∧ (∀ x y, t.pixelAt x y = s.pixelAt x y)
      ∧ (∀ w, t.zone w = (s.zone w).map fun z =>
          if (s.window w).active.any (fun d => (s.port d.camera).link ≠ .off) then ⟨.idle, 0, none, [], none, false⟩ else z)
      ∧ t.zones.hazardList = activeZones t.zones.zones
      ∧ t.cadence.blink.state = .idle ∧ t.cadence.buzz.state = .idle ∧ t.cadence.buzz.silenced = false
      ∧ t.pins.buzz = none
      ∧ (∀ w, t.window w = if (s.window w).active.any (fun d => (s.port d.camera).link = .streaming) then
            (s.window w).unmeasured
          else s.window w)
      ∧ (∀ c, t.tone c = if (s.port c).link = .streaming then { s.tone c with high := 0, low := 0, settle := 0 } else s.tone c)
      ∧ (∀ c, (t.store c).banks = (s.store c).banks ∧ (t.store c).latch = (s.store c).latch)
      ∧ t.zones.latchedZones = s.zones.latchedZones ∧ t.zones.latchedHazard = s.zones.latchedHazard
      ∧ { t with
          mode := s.mode, ports := s.ports, stores := s.stores, windows := s.windows, tones := s.tones
          clarities := s.clarities, zones := s.zones, cadence := s.cadence, control := s.control, pins := s.pins } = s
      ∧ Beside s t

/-- RESTART: OK first, the waiting requests and reports discarded, the lost count and every counter's count 0, then CONFIG,
every port OFF with its RELEASE where carrier is present, LOADING grids EMPTY, the edit copy equal to the live copy, pending
window changes dropped, gains 256, every zone and the zone watch's latched copy IDLE without hazard (where the manual also
says of latches that they are taken afresh, log 4), NO_DATA without a force; READY grids, live tables, shapes, parameters,
the frame counter and the presence are kept, and the output frame in progress is drawn to its end as it was. The reports
follow port by port, LINK before HEALTH, and HAZARD last where the list changes, as at leaving RUN; at RESTART that order is
the model's reading (log 11). -/
def Obligations.RestartKeepsAndResets : Prop :=
  ∀ (s : State) (tag : Byte), Takes s (.restart tag (.fields ())) →
    ∃ t, exec (.restart tag (.fields ())) s = .next t ∧ t.mode = .config
      ∧ t.control = ({ s.control.replied 0x1E tag .ok .none with
          requests := [], reports := [], lost := 0
          counters := mapTable (fun k => { k with count := 0 }) s.control.counters } : Control).queueAll
            (([0, 1, 2, 3] : List Cam).flatMap (fun c => if (s.port c).link = .off then []
              else .link c .off .restarted :: healthReport s t c) ++ hazardReport s t)
      ∧ (∀ x y, t.pixelAt x y = s.pixelAt x y)
      ∧ (s.control.sending = none → t.control.sending = some (.reply ⟨0x9E, tag, .ok, .none⟩))
      ∧ (s.control.sending ≠ none → t.control.replies = s.control.replies ++ [⟨0x9E, tag, .ok, .none⟩])
      ∧ t.control.requests = [] ∧ Beside s t
      ∧ (∀ k, (look t.control.counters k).event = (look s.control.counters k).event
          ∧ (look t.control.counters k).mask = (look s.control.counters k).mask
          ∧ ((look s.control.counters k).event ≠ .reportLost → (look t.control.counters k).count = 0))
      ∧ (∀ c, t.port c = if (s.port c).link = .off then s.port c else (s.port c).gone)
      ∧ (∀ c, if (s.port c).link = .off then t.store c = s.store c
          else (t.store c).table = [] ∧ (t.store c).health = .off ∧ (t.store c).freeze = 0
            ∧ (∀ k, look (t.store c).shown k = .bank0))
      ∧ (∀ c, (t.store c).banks = (s.store c).banks)
      ∧ (∀ g, t.grid g = match s.grid g with
          | .loading _ _ _ => .empty
          | x => x)
      ∧ t.views.live = s.views.live ∧ t.views.edit = s.views.live ∧ t.views.applyPending = false
      ∧ (∀ w, t.window w = ⟨(s.window w).active, .none, false, .zero, none, false, none⟩)
      ∧ (∀ c, let old := s.tone c
          t.tone c = ⟨256, old.black, old.target, old.target, 0, 0, 0, old.latchedGain, old.latchedBlack⟩)
      ∧ (∀ k, look t.seams k = { look s.seams k with correction := 0, camera := none })
      ∧ (∀ c, t.clarity c = { s.clarity c with state := .clear, low := 0, clear := 0 })
      ∧ (∀ w, t.zone w = (s.zone w).map fun _ => ⟨.idle, 0, none, [], none, false⟩)
      ∧ t.zones.hazardList = [] ∧ (s.HazardLaw → t.zones.hazard = false)
      ∧ t.zones.latchedHazard = false
      ∧ t.zones.latchedZones = s.zones.latchedZones.map (fun z => { z with state := .idle })
      ∧ t.selector = ⟨⟨none, none, none, none, none⟩, false, none, false, none, .noData, none, false, s.selector.shown,
          none, s.selector.latch⟩
      ∧ t.cadence.blink.state = .idle ∧ t.cadence.buzz.state = .idle ∧ t.cadence.buzz.silenced = false
      ∧ { t with
          mode := s.mode, ports := s.ports, stores := s.stores, grids := s.grids, views := s.views
          windows := s.windows, tones := s.tones, seams := s.seams, clarities := s.clarities, zones := s.zones
          selector := s.selector, cadence := s.cadence, control := s.control, pins := s.pins } = s
end

