-- ==== Sys2Proof/Laws/State.lean ====
section
/-! SUPPORT. The fixed tables (`look`, `put`) and the updates of the state: what each update leaves as it was. -/

namespace Sys2Proof

@[simp] theorem look_put_same {α : Type} {n : Nat} (t : Vector α n) (i : Fin n) (a : α) : look (put t i a) i = a := by
  simp [look, put]

theorem look_put {α : Type} {n : Nat} (t : Vector α n) (i j : Fin n) (a : α) :
    look (put t i a) j = if i = j then a else look t j := by
  simp [look, put, Vector.getElem_set, Fin.ext_iff]

@[simp] theorem look_ofFn {α : Type} {n : Nat} (f : Fin n → α) (i : Fin n) : look (Vector.ofFn f) i = f i := by
  simp [look]

@[simp] theorem look_mapTable {α β : Type} {n : Nat} (f : α → β) (t : Vector α n) (i : Fin n) :
    look (mapTable f t) i = f (look t i) := by
  simp [mapTable]

theorem anyEntry_iff {α : Type} {n : Nat} {t : Vector α n} {f : α → Bool} :
    anyEntry t f = true ↔ ∃ i, f (look t i) = true := by
  simp [anyEntry]

@[simp] theorem look_replicate {α : Type} {n : Nat} (a : α) (i : Fin n) : look (Vector.replicate n a) i = a := by
  simp [look]

theorem table_ext {α : Type} {n : Nat} {t u : Vector α n} (h : ∀ i, look t i = look u i) : t = u :=
  Vector.ext fun i hi => h ⟨i, hi⟩

theorem index?_eq_some {n k : Nat} {i : Fin n} : index? n k = some i ↔ k = i.val := by
  unfold index?
  split
  · simp [Fin.ext_iff]
  · simp only [reduceCtorEq, false_iff]
    omega

theorem index?_eq_none {n k : Nat} : index? n k = none ↔ n ≤ k := by
  unfold index?
  split <;> simp <;> omega

@[simp] theorem index?_val {n : Nat} (i : Fin n) : index? n i.val = some i := index?_eq_some.mpr rfl

end Sys2Proof

namespace Sys2Proof.Machine

/-! ### setPort -/

@[simp] theorem State.setPort_held (s : State) (c : Cam) (p : Port) : (s.setPort c p).held = s.held := rfl
@[simp] theorem State.setPort_mode (s : State) (c : Cam) (p : Port) : (s.setPort c p).mode = s.mode := rfl
@[simp] theorem State.setPort_params (s : State) (c : Cam) (p : Port) : (s.setPort c p).params = s.params := rfl
@[simp] theorem State.setPort_stores (s : State) (c : Cam) (p : Port) : (s.setPort c p).stores = s.stores := rfl
@[simp] theorem State.setPort_grids (s : State) (c : Cam) (p : Port) : (s.setPort c p).grids = s.grids := rfl
@[simp] theorem State.setPort_views (s : State) (c : Cam) (p : Port) : (s.setPort c p).views = s.views := rfl
@[simp] theorem State.setPort_windows (s : State) (c : Cam) (p : Port) : (s.setPort c p).windows = s.windows := rfl
@[simp] theorem State.setPort_tones (s : State) (c : Cam) (p : Port) : (s.setPort c p).tones = s.tones := rfl
@[simp] theorem State.setPort_seams (s : State) (c : Cam) (p : Port) : (s.setPort c p).seams = s.seams := rfl
@[simp] theorem State.setPort_clarities (s : State) (c : Cam) (p : Port) : (s.setPort c p).clarities = s.clarities := rfl
@[simp] theorem State.setPort_zones (s : State) (c : Cam) (p : Port) : (s.setPort c p).zones = s.zones := rfl
@[simp] theorem State.setPort_selector (s : State) (c : Cam) (p : Port) : (s.setPort c p).selector = s.selector := rfl
@[simp] theorem State.setPort_shapes (s : State) (c : Cam) (p : Port) : (s.setPort c p).shapes = s.shapes := rfl
@[simp] theorem State.setPort_cadence (s : State) (c : Cam) (p : Port) : (s.setPort c p).cadence = s.cadence := rfl
@[simp] theorem State.setPort_control (s : State) (c : Cam) (p : Port) : (s.setPort c p).control = s.control := rfl
@[simp] theorem State.setPort_display (s : State) (c : Cam) (p : Port) : (s.setPort c p).display = s.display := rfl
@[simp] theorem State.setPort_pins (s : State) (c : Cam) (p : Port) : (s.setPort c p).pins = s.pins := rfl
@[simp] theorem State.setPort_epoch (s : State) (c : Cam) (p : Port) : (s.setPort c p).epoch = s.epoch := rfl
@[simp] theorem State.setPort_choices (s : State) (c : Cam) (p : Port) : (s.setPort c p).choices = s.choices := rfl
@[simp] theorem State.setPort_pending (s : State) (c : Cam) (p : Port) : (s.setPort c p).pending = s.pending := rfl

/-! ### setStore -/

@[simp] theorem State.setStore_held (s : State) (c : Cam) (x : CamStore) : (s.setStore c x).held = s.held := rfl
@[simp] theorem State.setStore_mode (s : State) (c : Cam) (x : CamStore) : (s.setStore c x).mode = s.mode := rfl
@[simp] theorem State.setStore_params (s : State) (c : Cam) (x : CamStore) : (s.setStore c x).params = s.params := rfl
@[simp] theorem State.setStore_ports (s : State) (c : Cam) (x : CamStore) : (s.setStore c x).ports = s.ports := rfl
@[simp] theorem State.setStore_grids (s : State) (c : Cam) (x : CamStore) : (s.setStore c x).grids = s.grids := rfl
@[simp] theorem State.setStore_views (s : State) (c : Cam) (x : CamStore) : (s.setStore c x).views = s.views := rfl
@[simp] theorem State.setStore_windows (s : State) (c : Cam) (x : CamStore) : (s.setStore c x).windows = s.windows := rfl
@[simp] theorem State.setStore_tones (s : State) (c : Cam) (x : CamStore) : (s.setStore c x).tones = s.tones := rfl
@[simp] theorem State.setStore_seams (s : State) (c : Cam) (x : CamStore) : (s.setStore c x).seams = s.seams := rfl
@[simp] theorem State.setStore_clarities (s : State) (c : Cam) (x : CamStore) : (s.setStore c x).clarities = s.clarities := rfl
@[simp] theorem State.setStore_zones (s : State) (c : Cam) (x : CamStore) : (s.setStore c x).zones = s.zones := rfl
@[simp] theorem State.setStore_selector (s : State) (c : Cam) (x : CamStore) : (s.setStore c x).selector = s.selector := rfl
@[simp] theorem State.setStore_shapes (s : State) (c : Cam) (x : CamStore) : (s.setStore c x).shapes = s.shapes := rfl
@[simp] theorem State.setStore_cadence (s : State) (c : Cam) (x : CamStore) : (s.setStore c x).cadence = s.cadence := rfl
@[simp] theorem State.setStore_control (s : State) (c : Cam) (x : CamStore) : (s.setStore c x).control = s.control := rfl
@[simp] theorem State.setStore_display (s : State) (c : Cam) (x : CamStore) : (s.setStore c x).display = s.display := rfl
@[simp] theorem State.setStore_pins (s : State) (c : Cam) (x : CamStore) : (s.setStore c x).pins = s.pins := rfl
@[simp] theorem State.setStore_epoch (s : State) (c : Cam) (x : CamStore) : (s.setStore c x).epoch = s.epoch := rfl
@[simp] theorem State.setStore_choices (s : State) (c : Cam) (x : CamStore) : (s.setStore c x).choices = s.choices := rfl
@[simp] theorem State.setStore_pending (s : State) (c : Cam) (x : CamStore) : (s.setStore c x).pending = s.pending := rfl

/-! ### setTone -/

@[simp] theorem State.setTone_held (s : State) (c : Cam) (x : Tone) : (s.setTone c x).held = s.held := rfl
@[simp] theorem State.setTone_mode (s : State) (c : Cam) (x : Tone) : (s.setTone c x).mode = s.mode := rfl
@[simp] theorem State.setTone_params (s : State) (c : Cam) (x : Tone) : (s.setTone c x).params = s.params := rfl
@[simp] theorem State.setTone_ports (s : State) (c : Cam) (x : Tone) : (s.setTone c x).ports = s.ports := rfl
@[simp] theorem State.setTone_stores (s : State) (c : Cam) (x : Tone) : (s.setTone c x).stores = s.stores := rfl
@[simp] theorem State.setTone_grids (s : State) (c : Cam) (x : Tone) : (s.setTone c x).grids = s.grids := rfl
@[simp] theorem State.setTone_views (s : State) (c : Cam) (x : Tone) : (s.setTone c x).views = s.views := rfl
@[simp] theorem State.setTone_windows (s : State) (c : Cam) (x : Tone) : (s.setTone c x).windows = s.windows := rfl
@[simp] theorem State.setTone_seams (s : State) (c : Cam) (x : Tone) : (s.setTone c x).seams = s.seams := rfl
@[simp] theorem State.setTone_clarities (s : State) (c : Cam) (x : Tone) : (s.setTone c x).clarities = s.clarities := rfl
@[simp] theorem State.setTone_zones (s : State) (c : Cam) (x : Tone) : (s.setTone c x).zones = s.zones := rfl
@[simp] theorem State.setTone_selector (s : State) (c : Cam) (x : Tone) : (s.setTone c x).selector = s.selector := rfl
@[simp] theorem State.setTone_shapes (s : State) (c : Cam) (x : Tone) : (s.setTone c x).shapes = s.shapes := rfl
@[simp] theorem State.setTone_cadence (s : State) (c : Cam) (x : Tone) : (s.setTone c x).cadence = s.cadence := rfl
@[simp] theorem State.setTone_control (s : State) (c : Cam) (x : Tone) : (s.setTone c x).control = s.control := rfl
@[simp] theorem State.setTone_display (s : State) (c : Cam) (x : Tone) : (s.setTone c x).display = s.display := rfl
@[simp] theorem State.setTone_pins (s : State) (c : Cam) (x : Tone) : (s.setTone c x).pins = s.pins := rfl
@[simp] theorem State.setTone_epoch (s : State) (c : Cam) (x : Tone) : (s.setTone c x).epoch = s.epoch := rfl
@[simp] theorem State.setTone_choices (s : State) (c : Cam) (x : Tone) : (s.setTone c x).choices = s.choices := rfl
@[simp] theorem State.setTone_pending (s : State) (c : Cam) (x : Tone) : (s.setTone c x).pending = s.pending := rfl

/-! ### setClarity -/

@[simp] theorem State.setClarity_held (s : State) (c : Cam) (x : Clarity) : (s.setClarity c x).held = s.held := rfl
@[simp] theorem State.setClarity_mode (s : State) (c : Cam) (x : Clarity) : (s.setClarity c x).mode = s.mode := rfl
@[simp] theorem State.setClarity_params (s : State) (c : Cam) (x : Clarity) : (s.setClarity c x).params = s.params := rfl
@[simp] theorem State.setClarity_ports (s : State) (c : Cam) (x : Clarity) : (s.setClarity c x).ports = s.ports := rfl
@[simp] theorem State.setClarity_stores (s : State) (c : Cam) (x : Clarity) : (s.setClarity c x).stores = s.stores := rfl
@[simp] theorem State.setClarity_grids (s : State) (c : Cam) (x : Clarity) : (s.setClarity c x).grids = s.grids := rfl
@[simp] theorem State.setClarity_views (s : State) (c : Cam) (x : Clarity) : (s.setClarity c x).views = s.views := rfl
@[simp] theorem State.setClarity_windows (s : State) (c : Cam) (x : Clarity) : (s.setClarity c x).windows = s.windows := rfl
@[simp] theorem State.setClarity_tones (s : State) (c : Cam) (x : Clarity) : (s.setClarity c x).tones = s.tones := rfl
@[simp] theorem State.setClarity_seams (s : State) (c : Cam) (x : Clarity) : (s.setClarity c x).seams = s.seams := rfl
@[simp] theorem State.setClarity_zones (s : State) (c : Cam) (x : Clarity) : (s.setClarity c x).zones = s.zones := rfl
@[simp] theorem State.setClarity_selector (s : State) (c : Cam) (x : Clarity) : (s.setClarity c x).selector = s.selector := rfl
@[simp] theorem State.setClarity_shapes (s : State) (c : Cam) (x : Clarity) : (s.setClarity c x).shapes = s.shapes := rfl
@[simp] theorem State.setClarity_cadence (s : State) (c : Cam) (x : Clarity) : (s.setClarity c x).cadence = s.cadence := rfl
@[simp] theorem State.setClarity_control (s : State) (c : Cam) (x : Clarity) : (s.setClarity c x).control = s.control := rfl
@[simp] theorem State.setClarity_display (s : State) (c : Cam) (x : Clarity) : (s.setClarity c x).display = s.display := rfl
@[simp] theorem State.setClarity_pins (s : State) (c : Cam) (x : Clarity) : (s.setClarity c x).pins = s.pins := rfl
@[simp] theorem State.setClarity_epoch (s : State) (c : Cam) (x : Clarity) : (s.setClarity c x).epoch = s.epoch := rfl
@[simp] theorem State.setClarity_choices (s : State) (c : Cam) (x : Clarity) : (s.setClarity c x).choices = s.choices := rfl
@[simp] theorem State.setClarity_pending (s : State) (c : Cam) (x : Clarity) : (s.setClarity c x).pending = s.pending := rfl

/-! ### mapZonesOf -/

@[simp] theorem State.mapZonesOf_held (s : State) (c : Cam) (f : Zone → Zone) : (s.mapZonesOf c f).held = s.held := rfl
@[simp] theorem State.mapZonesOf_mode (s : State) (c : Cam) (f : Zone → Zone) : (s.mapZonesOf c f).mode = s.mode := rfl
@[simp] theorem State.mapZonesOf_params (s : State) (c : Cam) (f : Zone → Zone) : (s.mapZonesOf c f).params = s.params := rfl
@[simp] theorem State.mapZonesOf_ports (s : State) (c : Cam) (f : Zone → Zone) : (s.mapZonesOf c f).ports = s.ports := rfl
@[simp] theorem State.mapZonesOf_stores (s : State) (c : Cam) (f : Zone → Zone) : (s.mapZonesOf c f).stores = s.stores := rfl
@[simp] theorem State.mapZonesOf_grids (s : State) (c : Cam) (f : Zone → Zone) : (s.mapZonesOf c f).grids = s.grids := rfl
@[simp] theorem State.mapZonesOf_views (s : State) (c : Cam) (f : Zone → Zone) : (s.mapZonesOf c f).views = s.views := rfl
@[simp] theorem State.mapZonesOf_windows (s : State) (c : Cam) (f : Zone → Zone) : (s.mapZonesOf c f).windows = s.windows := rfl
@[simp] theorem State.mapZonesOf_tones (s : State) (c : Cam) (f : Zone → Zone) : (s.mapZonesOf c f).tones = s.tones := rfl
@[simp] theorem State.mapZonesOf_seams (s : State) (c : Cam) (f : Zone → Zone) : (s.mapZonesOf c f).seams = s.seams := rfl
@[simp] theorem State.mapZonesOf_clarities (s : State) (c : Cam) (f : Zone → Zone) : (s.mapZonesOf c f).clarities = s.clarities := rfl
@[simp] theorem State.mapZonesOf_selector (s : State) (c : Cam) (f : Zone → Zone) : (s.mapZonesOf c f).selector = s.selector := rfl
@[simp] theorem State.mapZonesOf_shapes (s : State) (c : Cam) (f : Zone → Zone) : (s.mapZonesOf c f).shapes = s.shapes := rfl
@[simp] theorem State.mapZonesOf_cadence (s : State) (c : Cam) (f : Zone → Zone) : (s.mapZonesOf c f).cadence = s.cadence := rfl
@[simp] theorem State.mapZonesOf_control (s : State) (c : Cam) (f : Zone → Zone) : (s.mapZonesOf c f).control = s.control := rfl
@[simp] theorem State.mapZonesOf_display (s : State) (c : Cam) (f : Zone → Zone) : (s.mapZonesOf c f).display = s.display := rfl
@[simp] theorem State.mapZonesOf_pins (s : State) (c : Cam) (f : Zone → Zone) : (s.mapZonesOf c f).pins = s.pins := rfl
@[simp] theorem State.mapZonesOf_epoch (s : State) (c : Cam) (f : Zone → Zone) : (s.mapZonesOf c f).epoch = s.epoch := rfl
@[simp] theorem State.mapZonesOf_choices (s : State) (c : Cam) (f : Zone → Zone) : (s.mapZonesOf c f).choices = s.choices := rfl
@[simp] theorem State.mapZonesOf_pending (s : State) (c : Cam) (f : Zone → Zone) : (s.mapZonesOf c f).pending = s.pending := rfl

/-! ### countTimes -/

@[simp] theorem State.countTimes_held (s : State) (e : StatEvent) (c : Cam) (n : Nat) : (s.countTimes e c n).held = s.held := rfl
@[simp] theorem State.countTimes_mode (s : State) (e : StatEvent) (c : Cam) (n : Nat) : (s.countTimes e c n).mode = s.mode := rfl
@[simp] theorem State.countTimes_params (s : State) (e : StatEvent) (c : Cam) (n : Nat) : (s.countTimes e c n).params = s.params := rfl
@[simp] theorem State.countTimes_ports (s : State) (e : StatEvent) (c : Cam) (n : Nat) : (s.countTimes e c n).ports = s.ports := rfl
@[simp] theorem State.countTimes_stores (s : State) (e : StatEvent) (c : Cam) (n : Nat) : (s.countTimes e c n).stores = s.stores := rfl
@[simp] theorem State.countTimes_grids (s : State) (e : StatEvent) (c : Cam) (n : Nat) : (s.countTimes e c n).grids = s.grids := rfl
@[simp] theorem State.countTimes_views (s : State) (e : StatEvent) (c : Cam) (n : Nat) : (s.countTimes e c n).views = s.views := rfl
@[simp] theorem State.countTimes_windows (s : State) (e : StatEvent) (c : Cam) (n : Nat) : (s.countTimes e c n).windows = s.windows := rfl
@[simp] theorem State.countTimes_tones (s : State) (e : StatEvent) (c : Cam) (n : Nat) : (s.countTimes e c n).tones = s.tones := rfl
@[simp] theorem State.countTimes_seams (s : State) (e : StatEvent) (c : Cam) (n : Nat) : (s.countTimes e c n).seams = s.seams := rfl
@[simp] theorem State.countTimes_clarities (s : State) (e : StatEvent) (c : Cam) (n : Nat) : (s.countTimes e c n).clarities = s.clarities := rfl
@[simp] theorem State.countTimes_zones (s : State) (e : StatEvent) (c : Cam) (n : Nat) : (s.countTimes e c n).zones = s.zones := rfl
@[simp] theorem State.countTimes_selector (s : State) (e : StatEvent) (c : Cam) (n : Nat) : (s.countTimes e c n).selector = s.selector := rfl
@[simp] theorem State.countTimes_shapes (s : State) (e : StatEvent) (c : Cam) (n : Nat) : (s.countTimes e c n).shapes = s.shapes := rfl
@[simp] theorem State.countTimes_cadence (s : State) (e : StatEvent) (c : Cam) (n : Nat) : (s.countTimes e c n).cadence = s.cadence := rfl
@[simp] theorem State.countTimes_display (s : State) (e : StatEvent) (c : Cam) (n : Nat) : (s.countTimes e c n).display = s.display := rfl
@[simp] theorem State.countTimes_pins (s : State) (e : StatEvent) (c : Cam) (n : Nat) : (s.countTimes e c n).pins = s.pins := rfl
@[simp] theorem State.countTimes_epoch (s : State) (e : StatEvent) (c : Cam) (n : Nat) : (s.countTimes e c n).epoch = s.epoch := rfl
@[simp] theorem State.countTimes_choices (s : State) (e : StatEvent) (c : Cam) (n : Nat) : (s.countTimes e c n).choices = s.choices := rfl
@[simp] theorem State.countTimes_pending (s : State) (e : StatEvent) (c : Cam) (n : Nat) : (s.countTimes e c n).pending = s.pending := rfl

/-! ### count -/

@[simp] theorem State.count_held (s : State) (e : StatEvent) (c : Cam) : (s.count e c).held = s.held := rfl
@[simp] theorem State.count_mode (s : State) (e : StatEvent) (c : Cam) : (s.count e c).mode = s.mode := rfl
@[simp] theorem State.count_params (s : State) (e : StatEvent) (c : Cam) : (s.count e c).params = s.params := rfl
@[simp] theorem State.count_ports (s : State) (e : StatEvent) (c : Cam) : (s.count e c).ports = s.ports := rfl
@[simp] theorem State.count_stores (s : State) (e : StatEvent) (c : Cam) : (s.count e c).stores = s.stores := rfl
@[simp] theorem State.count_grids (s : State) (e : StatEvent) (c : Cam) : (s.count e c).grids = s.grids := rfl
@[simp] theorem State.count_views (s : State) (e : StatEvent) (c : Cam) : (s.count e c).views = s.views := rfl
@[simp] theorem State.count_windows (s : State) (e : StatEvent) (c : Cam) : (s.count e c).windows = s.windows := rfl
@[simp] theorem State.count_tones (s : State) (e : StatEvent) (c : Cam) : (s.count e c).tones = s.tones := rfl
@[simp] theorem State.count_seams (s : State) (e : StatEvent) (c : Cam) : (s.count e c).seams = s.seams := rfl
@[simp] theorem State.count_clarities (s : State) (e : StatEvent) (c : Cam) : (s.count e c).clarities = s.clarities := rfl
@[simp] theorem State.count_zones (s : State) (e : StatEvent) (c : Cam) : (s.count e c).zones = s.zones := rfl
@[simp] theorem State.count_selector (s : State) (e : StatEvent) (c : Cam) : (s.count e c).selector = s.selector := rfl
@[simp] theorem State.count_shapes (s : State) (e : StatEvent) (c : Cam) : (s.count e c).shapes = s.shapes := rfl
@[simp] theorem State.count_cadence (s : State) (e : StatEvent) (c : Cam) : (s.count e c).cadence = s.cadence := rfl
@[simp] theorem State.count_display (s : State) (e : StatEvent) (c : Cam) : (s.count e c).display = s.display := rfl
@[simp] theorem State.count_pins (s : State) (e : StatEvent) (c : Cam) : (s.count e c).pins = s.pins := rfl
@[simp] theorem State.count_epoch (s : State) (e : StatEvent) (c : Cam) : (s.count e c).epoch = s.epoch := rfl
@[simp] theorem State.count_choices (s : State) (e : StatEvent) (c : Cam) : (s.count e c).choices = s.choices := rfl
@[simp] theorem State.count_pending (s : State) (e : StatEvent) (c : Cam) : (s.count e c).pending = s.pending := rfl

/-! ### queueReport -/

@[simp] theorem State.queueReport_held (s : State) (r : Report) : (s.queueReport r).held = s.held := rfl
@[simp] theorem State.queueReport_mode (s : State) (r : Report) : (s.queueReport r).mode = s.mode := rfl
@[simp] theorem State.queueReport_params (s : State) (r : Report) : (s.queueReport r).params = s.params := rfl
@[simp] theorem State.queueReport_ports (s : State) (r : Report) : (s.queueReport r).ports = s.ports := rfl
@[simp] theorem State.queueReport_stores (s : State) (r : Report) : (s.queueReport r).stores = s.stores := rfl
@[simp] theorem State.queueReport_grids (s : State) (r : Report) : (s.queueReport r).grids = s.grids := rfl
@[simp] theorem State.queueReport_views (s : State) (r : Report) : (s.queueReport r).views = s.views := rfl
@[simp] theorem State.queueReport_windows (s : State) (r : Report) : (s.queueReport r).windows = s.windows := rfl
@[simp] theorem State.queueReport_tones (s : State) (r : Report) : (s.queueReport r).tones = s.tones := rfl
@[simp] theorem State.queueReport_seams (s : State) (r : Report) : (s.queueReport r).seams = s.seams := rfl
@[simp] theorem State.queueReport_clarities (s : State) (r : Report) : (s.queueReport r).clarities = s.clarities := rfl
@[simp] theorem State.queueReport_zones (s : State) (r : Report) : (s.queueReport r).zones = s.zones := rfl
@[simp] theorem State.queueReport_selector (s : State) (r : Report) : (s.queueReport r).selector = s.selector := rfl
@[simp] theorem State.queueReport_shapes (s : State) (r : Report) : (s.queueReport r).shapes = s.shapes := rfl
@[simp] theorem State.queueReport_cadence (s : State) (r : Report) : (s.queueReport r).cadence = s.cadence := rfl
@[simp] theorem State.queueReport_display (s : State) (r : Report) : (s.queueReport r).display = s.display := rfl
@[simp] theorem State.queueReport_pins (s : State) (r : Report) : (s.queueReport r).pins = s.pins := rfl
@[simp] theorem State.queueReport_epoch (s : State) (r : Report) : (s.queueReport r).epoch = s.epoch := rfl
@[simp] theorem State.queueReport_choices (s : State) (r : Report) : (s.queueReport r).choices = s.choices := rfl
@[simp] theorem State.queueReport_pending (s : State) (r : Report) : (s.queueReport r).pending = s.pending := rfl

/-! ### reform -/

@[simp] theorem State.reform_held (s : State) : (s.reform).held = s.held := rfl
@[simp] theorem State.reform_mode (s : State) : (s.reform).mode = s.mode := rfl
@[simp] theorem State.reform_params (s : State) : (s.reform).params = s.params := rfl
@[simp] theorem State.reform_ports (s : State) : (s.reform).ports = s.ports := rfl
@[simp] theorem State.reform_stores (s : State) : (s.reform).stores = s.stores := rfl
@[simp] theorem State.reform_grids (s : State) : (s.reform).grids = s.grids := rfl
@[simp] theorem State.reform_views (s : State) : (s.reform).views = s.views := rfl
@[simp] theorem State.reform_windows (s : State) : (s.reform).windows = s.windows := rfl
@[simp] theorem State.reform_tones (s : State) : (s.reform).tones = s.tones := rfl
@[simp] theorem State.reform_seams (s : State) : (s.reform).seams = s.seams := rfl
@[simp] theorem State.reform_clarities (s : State) : (s.reform).clarities = s.clarities := rfl
@[simp] theorem State.reform_zones (s : State) : (s.reform).zones = s.zones := rfl
@[simp] theorem State.reform_selector (s : State) : (s.reform).selector = s.selector := rfl
@[simp] theorem State.reform_shapes (s : State) : (s.reform).shapes = s.shapes := rfl
@[simp] theorem State.reform_control (s : State) : (s.reform).control = s.control := rfl
@[simp] theorem State.reform_display (s : State) : (s.reform).display = s.display := rfl
@[simp] theorem State.reform_pins (s : State) : (s.reform).pins = s.pins := rfl
@[simp] theorem State.reform_epoch (s : State) : (s.reform).epoch = s.epoch := rfl
@[simp] theorem State.reform_choices (s : State) : (s.reform).choices = s.choices := rfl
@[simp] theorem State.reform_pending (s : State) : (s.reform).pending = s.pending := rfl

/-! ### setGrid -/

@[simp] theorem State.setGrid_held (s : State) (g : Fin 16) (x : Grid) : (s.setGrid g x).held = s.held := rfl
@[simp] theorem State.setGrid_mode (s : State) (g : Fin 16) (x : Grid) : (s.setGrid g x).mode = s.mode := rfl
@[simp] theorem State.setGrid_params (s : State) (g : Fin 16) (x : Grid) : (s.setGrid g x).params = s.params := rfl
@[simp] theorem State.setGrid_ports (s : State) (g : Fin 16) (x : Grid) : (s.setGrid g x).ports = s.ports := rfl
@[simp] theorem State.setGrid_stores (s : State) (g : Fin 16) (x : Grid) : (s.setGrid g x).stores = s.stores := rfl
@[simp] theorem State.setGrid_views (s : State) (g : Fin 16) (x : Grid) : (s.setGrid g x).views = s.views := rfl
@[simp] theorem State.setGrid_windows (s : State) (g : Fin 16) (x : Grid) : (s.setGrid g x).windows = s.windows := rfl
@[simp] theorem State.setGrid_tones (s : State) (g : Fin 16) (x : Grid) : (s.setGrid g x).tones = s.tones := rfl
@[simp] theorem State.setGrid_seams (s : State) (g : Fin 16) (x : Grid) : (s.setGrid g x).seams = s.seams := rfl
@[simp] theorem State.setGrid_clarities (s : State) (g : Fin 16) (x : Grid) : (s.setGrid g x).clarities = s.clarities := rfl
@[simp] theorem State.setGrid_zones (s : State) (g : Fin 16) (x : Grid) : (s.setGrid g x).zones = s.zones := rfl
@[simp] theorem State.setGrid_selector (s : State) (g : Fin 16) (x : Grid) : (s.setGrid g x).selector = s.selector := rfl
@[simp] theorem State.setGrid_shapes (s : State) (g : Fin 16) (x : Grid) : (s.setGrid g x).shapes = s.shapes := rfl
@[simp] theorem State.setGrid_cadence (s : State) (g : Fin 16) (x : Grid) : (s.setGrid g x).cadence = s.cadence := rfl
@[simp] theorem State.setGrid_control (s : State) (g : Fin 16) (x : Grid) : (s.setGrid g x).control = s.control := rfl
@[simp] theorem State.setGrid_display (s : State) (g : Fin 16) (x : Grid) : (s.setGrid g x).display = s.display := rfl
@[simp] theorem State.setGrid_pins (s : State) (g : Fin 16) (x : Grid) : (s.setGrid g x).pins = s.pins := rfl
@[simp] theorem State.setGrid_epoch (s : State) (g : Fin 16) (x : Grid) : (s.setGrid g x).epoch = s.epoch := rfl
@[simp] theorem State.setGrid_choices (s : State) (g : Fin 16) (x : Grid) : (s.setGrid g x).choices = s.choices := rfl
@[simp] theorem State.setGrid_pending (s : State) (g : Fin 16) (x : Grid) : (s.setGrid g x).pending = s.pending := rfl

/-! ### setEditView -/

@[simp] theorem State.setEditView_held (s : State) (v : ViewId) (x : View) : (s.setEditView v x).held = s.held := rfl
@[simp] theorem State.setEditView_mode (s : State) (v : ViewId) (x : View) : (s.setEditView v x).mode = s.mode := rfl
@[simp] theorem State.setEditView_params (s : State) (v : ViewId) (x : View) : (s.setEditView v x).params = s.params := rfl
@[simp] theorem State.setEditView_ports (s : State) (v : ViewId) (x : View) : (s.setEditView v x).ports = s.ports := rfl
@[simp] theorem State.setEditView_stores (s : State) (v : ViewId) (x : View) : (s.setEditView v x).stores = s.stores := rfl
@[simp] theorem State.setEditView_grids (s : State) (v : ViewId) (x : View) : (s.setEditView v x).grids = s.grids := rfl
@[simp] theorem State.setEditView_windows (s : State) (v : ViewId) (x : View) : (s.setEditView v x).windows = s.windows := rfl
@[simp] theorem State.setEditView_tones (s : State) (v : ViewId) (x : View) : (s.setEditView v x).tones = s.tones := rfl
@[simp] theorem State.setEditView_seams (s : State) (v : ViewId) (x : View) : (s.setEditView v x).seams = s.seams := rfl
@[simp] theorem State.setEditView_clarities (s : State) (v : ViewId) (x : View) : (s.setEditView v x).clarities = s.clarities := rfl
@[simp] theorem State.setEditView_zones (s : State) (v : ViewId) (x : View) : (s.setEditView v x).zones = s.zones := rfl
@[simp] theorem State.setEditView_selector (s : State) (v : ViewId) (x : View) : (s.setEditView v x).selector = s.selector := rfl
@[simp] theorem State.setEditView_shapes (s : State) (v : ViewId) (x : View) : (s.setEditView v x).shapes = s.shapes := rfl
@[simp] theorem State.setEditView_cadence (s : State) (v : ViewId) (x : View) : (s.setEditView v x).cadence = s.cadence := rfl
@[simp] theorem State.setEditView_control (s : State) (v : ViewId) (x : View) : (s.setEditView v x).control = s.control := rfl
@[simp] theorem State.setEditView_display (s : State) (v : ViewId) (x : View) : (s.setEditView v x).display = s.display := rfl
@[simp] theorem State.setEditView_pins (s : State) (v : ViewId) (x : View) : (s.setEditView v x).pins = s.pins := rfl
@[simp] theorem State.setEditView_epoch (s : State) (v : ViewId) (x : View) : (s.setEditView v x).epoch = s.epoch := rfl
@[simp] theorem State.setEditView_choices (s : State) (v : ViewId) (x : View) : (s.setEditView v x).choices = s.choices := rfl
@[simp] theorem State.setEditView_pending (s : State) (v : ViewId) (x : View) : (s.setEditView v x).pending = s.pending := rfl

/-! ### setShape -/

@[simp] theorem State.setShape_held (s : State) (k : Fin 64) (x : Option Shape) : (s.setShape k x).held = s.held := rfl
@[simp] theorem State.setShape_mode (s : State) (k : Fin 64) (x : Option Shape) : (s.setShape k x).mode = s.mode := rfl
@[simp] theorem State.setShape_params (s : State) (k : Fin 64) (x : Option Shape) : (s.setShape k x).params = s.params := rfl
@[simp] theorem State.setShape_ports (s : State) (k : Fin 64) (x : Option Shape) : (s.setShape k x).ports = s.ports := rfl
@[simp] theorem State.setShape_stores (s : State) (k : Fin 64) (x : Option Shape) : (s.setShape k x).stores = s.stores := rfl
@[simp] theorem State.setShape_grids (s : State) (k : Fin 64) (x : Option Shape) : (s.setShape k x).grids = s.grids := rfl
@[simp] theorem State.setShape_views (s : State) (k : Fin 64) (x : Option Shape) : (s.setShape k x).views = s.views := rfl
@[simp] theorem State.setShape_windows (s : State) (k : Fin 64) (x : Option Shape) : (s.setShape k x).windows = s.windows := rfl
@[simp] theorem State.setShape_tones (s : State) (k : Fin 64) (x : Option Shape) : (s.setShape k x).tones = s.tones := rfl
@[simp] theorem State.setShape_seams (s : State) (k : Fin 64) (x : Option Shape) : (s.setShape k x).seams = s.seams := rfl
@[simp] theorem State.setShape_clarities (s : State) (k : Fin 64) (x : Option Shape) : (s.setShape k x).clarities = s.clarities := rfl
@[simp] theorem State.setShape_zones (s : State) (k : Fin 64) (x : Option Shape) : (s.setShape k x).zones = s.zones := rfl
@[simp] theorem State.setShape_selector (s : State) (k : Fin 64) (x : Option Shape) : (s.setShape k x).selector = s.selector := rfl
@[simp] theorem State.setShape_cadence (s : State) (k : Fin 64) (x : Option Shape) : (s.setShape k x).cadence = s.cadence := rfl
@[simp] theorem State.setShape_control (s : State) (k : Fin 64) (x : Option Shape) : (s.setShape k x).control = s.control := rfl
@[simp] theorem State.setShape_display (s : State) (k : Fin 64) (x : Option Shape) : (s.setShape k x).display = s.display := rfl
@[simp] theorem State.setShape_pins (s : State) (k : Fin 64) (x : Option Shape) : (s.setShape k x).pins = s.pins := rfl
@[simp] theorem State.setShape_epoch (s : State) (k : Fin 64) (x : Option Shape) : (s.setShape k x).epoch = s.epoch := rfl
@[simp] theorem State.setShape_choices (s : State) (k : Fin 64) (x : Option Shape) : (s.setShape k x).choices = s.choices := rfl
@[simp] theorem State.setShape_pending (s : State) (k : Fin 64) (x : Option Shape) : (s.setShape k x).pending = s.pending := rfl

/-! ### withPending -/

@[simp] theorem State.withPending_held (s : State) (q : List Instr) : (s.withPending q).held = s.held := rfl
@[simp] theorem State.withPending_mode (s : State) (q : List Instr) : (s.withPending q).mode = s.mode := rfl
@[simp] theorem State.withPending_params (s : State) (q : List Instr) : (s.withPending q).params = s.params := rfl
@[simp] theorem State.withPending_ports (s : State) (q : List Instr) : (s.withPending q).ports = s.ports := rfl
@[simp] theorem State.withPending_stores (s : State) (q : List Instr) : (s.withPending q).stores = s.stores := rfl
@[simp] theorem State.withPending_grids (s : State) (q : List Instr) : (s.withPending q).grids = s.grids := rfl
@[simp] theorem State.withPending_views (s : State) (q : List Instr) : (s.withPending q).views = s.views := rfl
@[simp] theorem State.withPending_windows (s : State) (q : List Instr) : (s.withPending q).windows = s.windows := rfl
@[simp] theorem State.withPending_tones (s : State) (q : List Instr) : (s.withPending q).tones = s.tones := rfl
@[simp] theorem State.withPending_seams (s : State) (q : List Instr) : (s.withPending q).seams = s.seams := rfl
@[simp] theorem State.withPending_clarities (s : State) (q : List Instr) : (s.withPending q).clarities = s.clarities := rfl
@[simp] theorem State.withPending_zones (s : State) (q : List Instr) : (s.withPending q).zones = s.zones := rfl
@[simp] theorem State.withPending_selector (s : State) (q : List Instr) : (s.withPending q).selector = s.selector := rfl
@[simp] theorem State.withPending_shapes (s : State) (q : List Instr) : (s.withPending q).shapes = s.shapes := rfl
@[simp] theorem State.withPending_cadence (s : State) (q : List Instr) : (s.withPending q).cadence = s.cadence := rfl
@[simp] theorem State.withPending_control (s : State) (q : List Instr) : (s.withPending q).control = s.control := rfl
@[simp] theorem State.withPending_display (s : State) (q : List Instr) : (s.withPending q).display = s.display := rfl
@[simp] theorem State.withPending_pins (s : State) (q : List Instr) : (s.withPending q).pins = s.pins := rfl
@[simp] theorem State.withPending_epoch (s : State) (q : List Instr) : (s.withPending q).epoch = s.epoch := rfl
@[simp] theorem State.withPending_choices (s : State) (q : List Instr) : (s.withPending q).choices = s.choices := rfl

/-! ### drivePins -/

@[simp] theorem State.drivePins_held (s : State) : (s.drivePins).held = s.held := rfl
@[simp] theorem State.drivePins_mode (s : State) : (s.drivePins).mode = s.mode := rfl
@[simp] theorem State.drivePins_params (s : State) : (s.drivePins).params = s.params := rfl
@[simp] theorem State.drivePins_ports (s : State) : (s.drivePins).ports = s.ports := rfl
@[simp] theorem State.drivePins_stores (s : State) : (s.drivePins).stores = s.stores := rfl
@[simp] theorem State.drivePins_grids (s : State) : (s.drivePins).grids = s.grids := rfl
@[simp] theorem State.drivePins_views (s : State) : (s.drivePins).views = s.views := rfl
@[simp] theorem State.drivePins_windows (s : State) : (s.drivePins).windows = s.windows := rfl
@[simp] theorem State.drivePins_tones (s : State) : (s.drivePins).tones = s.tones := rfl
@[simp] theorem State.drivePins_seams (s : State) : (s.drivePins).seams = s.seams := rfl
@[simp] theorem State.drivePins_clarities (s : State) : (s.drivePins).clarities = s.clarities := rfl
@[simp] theorem State.drivePins_zones (s : State) : (s.drivePins).zones = s.zones := rfl
@[simp] theorem State.drivePins_selector (s : State) : (s.drivePins).selector = s.selector := rfl
@[simp] theorem State.drivePins_shapes (s : State) : (s.drivePins).shapes = s.shapes := rfl
@[simp] theorem State.drivePins_cadence (s : State) : (s.drivePins).cadence = s.cadence := rfl
@[simp] theorem State.drivePins_control (s : State) : (s.drivePins).control = s.control := rfl
@[simp] theorem State.drivePins_display (s : State) : (s.drivePins).display = s.display := rfl
@[simp] theorem State.drivePins_epoch (s : State) : (s.drivePins).epoch = s.epoch := rfl
@[simp] theorem State.drivePins_choices (s : State) : (s.drivePins).choices = s.choices := rfl
@[simp] theorem State.drivePins_pending (s : State) : (s.drivePins).pending = s.pending := rfl

/-! ### One entry -/

@[simp] theorem State.port_setPort (s : State) (c : Cam) (p : Port) : (s.setPort c p).port c = p := look_put_same ..

@[simp] theorem State.store_setStore (s : State) (c : Cam) (x : CamStore) : (s.setStore c x).store c = x :=
  look_put_same ..

@[simp] theorem State.tone_setTone (s : State) (c : Cam) (x : Tone) : (s.setTone c x).tone c = x := look_put_same ..

@[simp] theorem State.clarity_setClarity (s : State) (c : Cam) (x : Clarity) : (s.setClarity c x).clarity c = x :=
  look_put_same ..

@[simp] theorem State.grid_setGrid (s : State) (g : Fin 16) (x : Grid) : (s.setGrid g x).grid g = x := look_put_same ..

@[simp] theorem State.shape_setShape (s : State) (k : Fin 64) (x : Option Shape) : (s.setShape k x).shape k = x :=
  look_put_same ..

@[simp] theorem State.editView_setEditView (s : State) (v : ViewId) (x : View) : (s.setEditView v x).editView v = x :=
  look_put_same ..

theorem State.port_setPort_ne (s : State) {c d : Cam} (p : Port) (h : c ≠ d) : (s.setPort c p).port d = s.port d := by
  simp [State.port, State.setPort, look_put, h]

theorem State.store_setStore_ne (s : State) {c d : Cam} (x : CamStore) (h : c ≠ d) :
    (s.setStore c x).store d = s.store d := by
  simp [State.store, State.setStore, look_put, h]

theorem State.tone_setTone_ne (s : State) {c d : Cam} (x : Tone) (h : c ≠ d) : (s.setTone c x).tone d = s.tone d := by
  simp [State.tone, State.setTone, look_put, h]

theorem State.clarity_setClarity_ne (s : State) {c d : Cam} (x : Clarity) (h : c ≠ d) :
    (s.setClarity c x).clarity d = s.clarity d := by
  simp [State.clarity, State.setClarity, look_put, h]

theorem State.grid_setGrid_ne (s : State) {g k : Fin 16} (x : Grid) (h : g ≠ k) : (s.setGrid g x).grid k = s.grid k := by
  simp [State.grid, State.setGrid, GridStore.replace, look_put, h]

theorem State.shape_setShape_ne (s : State) {g k : Fin 64} (x : Option Shape) (h : g ≠ k) :
    (s.setShape g x).shape k = s.shape k := by
  simp [State.shape, State.setShape, ShapeStore.replace, look_put, h]

/-! ### Entries that another update leaves -/

@[simp] theorem State.setPort_store (s : State) (c : Cam) (p : Port) (i : Cam) :
    (s.setPort c p).store i = s.store i := rfl
@[simp] theorem State.setPort_tone (s : State) (c : Cam) (p : Port) (i : Cam) :
    (s.setPort c p).tone i = s.tone i := rfl
@[simp] theorem State.setPort_clarity (s : State) (c : Cam) (p : Port) (i : Cam) :
    (s.setPort c p).clarity i = s.clarity i := rfl
@[simp] theorem State.setPort_window (s : State) (c : Cam) (p : Port) (i : WindowId) :
    (s.setPort c p).window i = s.window i := rfl
@[simp] theorem State.setPort_zone (s : State) (c : Cam) (p : Port) (i : WindowId) :
    (s.setPort c p).zone i = s.zone i := rfl
@[simp] theorem State.setPort_grid (s : State) (c : Cam) (p : Port) (i : Fin 16) :
    (s.setPort c p).grid i = s.grid i := rfl
@[simp] theorem State.setPort_shape (s : State) (c : Cam) (p : Port) (i : Fin 64) :
    (s.setPort c p).shape i = s.shape i := rfl
@[simp] theorem State.setPort_editView (s : State) (c : Cam) (p : Port) (i : ViewId) :
    (s.setPort c p).editView i = s.editView i := rfl
@[simp] theorem State.setStore_port (s : State) (c : Cam) (x : CamStore) (i : Cam) :
    (s.setStore c x).port i = s.port i := rfl
@[simp] theorem State.setStore_tone (s : State) (c : Cam) (x : CamStore) (i : Cam) :
    (s.setStore c x).tone i = s.tone i := rfl
@[simp] theorem State.setStore_clarity (s : State) (c : Cam) (x : CamStore) (i : Cam) :
    (s.setStore c x).clarity i = s.clarity i := rfl
@[simp] theorem State.setStore_window (s : State) (c : Cam) (x : CamStore) (i : WindowId) :
    (s.setStore c x).window i = s.window i := rfl
@[simp] theorem State.setStore_zone (s : State) (c : Cam) (x : CamStore) (i : WindowId) :
    (s.setStore c x).zone i = s.zone i := rfl
@[simp] theorem State.setStore_grid (s : State) (c : Cam) (x : CamStore) (i : Fin 16) :
    (s.setStore c x).grid i = s.grid i := rfl
@[simp] theorem State.setStore_shape (s : State) (c : Cam) (x : CamStore) (i : Fin 64) :
    (s.setStore c x).shape i = s.shape i := rfl
@[simp] theorem State.setStore_editView (s : State) (c : Cam) (x : CamStore) (i : ViewId) :
    (s.setStore c x).editView i = s.editView i := rfl
@[simp] theorem State.setTone_port (s : State) (c : Cam) (x : Tone) (i : Cam) :
    (s.setTone c x).port i = s.port i := rfl
@[simp] theorem State.setTone_store (s : State) (c : Cam) (x : Tone) (i : Cam) :
    (s.setTone c x).store i = s.store i := rfl
@[simp] theorem State.setTone_clarity (s : State) (c : Cam) (x : Tone) (i : Cam) :
    (s.setTone c x).clarity i = s.clarity i := rfl
@[simp] theorem State.setTone_window (s : State) (c : Cam) (x : Tone) (i : WindowId) :
    (s.setTone c x).window i = s.window i := rfl
@[simp] theorem State.setTone_zone (s : State) (c : Cam) (x : Tone) (i : WindowId) :
    (s.setTone c x).zone i = s.zone i := rfl
@[simp] theorem State.setTone_grid (s : State) (c : Cam) (x : Tone) (i : Fin 16) :
    (s.setTone c x).grid i = s.grid i := rfl
@[simp] theorem State.setTone_shape (s : State) (c : Cam) (x : Tone) (i : Fin 64) :
    (s.setTone c x).shape i = s.shape i := rfl
@[simp] theorem State.setTone_editView (s : State) (c : Cam) (x : Tone) (i : ViewId) :
    (s.setTone c x).editView i = s.editView i := rfl
@[simp] theorem State.setClarity_port (s : State) (c : Cam) (x : Clarity) (i : Cam) :
    (s.setClarity c x).port i = s.port i := rfl
@[simp] theorem State.setClarity_store (s : State) (c : Cam) (x : Clarity) (i : Cam) :
    (s.setClarity c x).store i = s.store i := rfl
@[simp] theorem State.setClarity_tone (s : State) (c : Cam) (x : Clarity) (i : Cam) :
    (s.setClarity c x).tone i = s.tone i := rfl
@[simp] theorem State.setClarity_window (s : State) (c : Cam) (x : Clarity) (i : WindowId) :
    (s.setClarity c x).window i = s.window i := rfl
@[simp] theorem State.setClarity_zone (s : State) (c : Cam) (x : Clarity) (i : WindowId) :
    (s.setClarity c x).zone i = s.zone i := rfl
@[simp] theorem State.setClarity_grid (s : State) (c : Cam) (x : Clarity) (i : Fin 16) :
    (s.setClarity c x).grid i = s.grid i := rfl
@[simp] theorem State.setClarity_shape (s : State) (c : Cam) (x : Clarity) (i : Fin 64) :
    (s.setClarity c x).shape i = s.shape i := rfl
@[simp] theorem State.setClarity_editView (s : State) (c : Cam) (x : Clarity) (i : ViewId) :
    (s.setClarity c x).editView i = s.editView i := rfl
@[simp] theorem State.mapZonesOf_port (s : State) (c : Cam) (f : Zone → Zone) (i : Cam) :
    (s.mapZonesOf c f).port i = s.port i := rfl
@[simp] theorem State.mapZonesOf_store (s : State) (c : Cam) (f : Zone → Zone) (i : Cam) :
    (s.mapZonesOf c f).store i = s.store i := rfl
@[simp] theorem State.mapZonesOf_tone (s : State) (c : Cam) (f : Zone → Zone) (i : Cam) :
    (s.mapZonesOf c f).tone i = s.tone i := rfl
@[simp] theorem State.mapZonesOf_clarity (s : State) (c : Cam) (f : Zone → Zone) (i : Cam) :
    (s.mapZonesOf c f).clarity i = s.clarity i := rfl
@[simp] theorem State.mapZonesOf_window (s : State) (c : Cam) (f : Zone → Zone) (i : WindowId) :
    (s.mapZonesOf c f).window i = s.window i := rfl
@[simp] theorem State.mapZonesOf_grid (s : State) (c : Cam) (f : Zone → Zone) (i : Fin 16) :
    (s.mapZonesOf c f).grid i = s.grid i := rfl
@[simp] theorem State.mapZonesOf_shape (s : State) (c : Cam) (f : Zone → Zone) (i : Fin 64) :
    (s.mapZonesOf c f).shape i = s.shape i := rfl
@[simp] theorem State.mapZonesOf_editView (s : State) (c : Cam) (f : Zone → Zone) (i : ViewId) :
    (s.mapZonesOf c f).editView i = s.editView i := rfl
@[simp] theorem State.countTimes_port (s : State) (e : StatEvent) (c : Cam) (n : Nat) (i : Cam) :
    (s.countTimes e c n).port i = s.port i := rfl
@[simp] theorem State.countTimes_store (s : State) (e : StatEvent) (c : Cam) (n : Nat) (i : Cam) :
    (s.countTimes e c n).store i = s.store i := rfl
@[simp] theorem State.countTimes_tone (s : State) (e : StatEvent) (c : Cam) (n : Nat) (i : Cam) :
    (s.countTimes e c n).tone i = s.tone i := rfl
@[simp] theorem State.countTimes_clarity (s : State) (e : StatEvent) (c : Cam) (n : Nat) (i : Cam) :
    (s.countTimes e c n).clarity i = s.clarity i := rfl
@[simp] theorem State.countTimes_window (s : State) (e : StatEvent) (c : Cam) (n : Nat) (i : WindowId) :
    (s.countTimes e c n).window i = s.window i := rfl
@[simp] theorem State.countTimes_zone (s : State) (e : StatEvent) (c : Cam) (n : Nat) (i : WindowId) :
    (s.countTimes e c n).zone i = s.zone i := rfl
@[simp] theorem State.countTimes_grid (s : State) (e : StatEvent) (c : Cam) (n : Nat) (i : Fin 16) :
    (s.countTimes e c n).grid i = s.grid i := rfl
@[simp] theorem State.countTimes_shape (s : State) (e : StatEvent) (c : Cam) (n : Nat) (i : Fin 64) :
    (s.countTimes e c n).shape i = s.shape i := rfl
@[simp] theorem State.countTimes_editView (s : State) (e : StatEvent) (c : Cam) (n : Nat) (i : ViewId) :
    (s.countTimes e c n).editView i = s.editView i := rfl
@[simp] theorem State.count_port (s : State) (e : StatEvent) (c : Cam) (i : Cam) :
    (s.count e c).port i = s.port i := rfl
@[simp] theorem State.count_store (s : State) (e : StatEvent) (c : Cam) (i : Cam) :
    (s.count e c).store i = s.store i := rfl
@[simp] theorem State.count_tone (s : State) (e : StatEvent) (c : Cam) (i : Cam) :
    (s.count e c).tone i = s.tone i := rfl
@[simp] theorem State.count_clarity (s : State) (e : StatEvent) (c : Cam) (i : Cam) :
    (s.count e c).clarity i = s.clarity i := rfl
@[simp] theorem State.count_window (s : State) (e : StatEvent) (c : Cam) (i : WindowId) :
    (s.count e c).window i = s.window i := rfl
@[simp] theorem State.count_zone (s : State) (e : StatEvent) (c : Cam) (i : WindowId) :
    (s.count e c).zone i = s.zone i := rfl
@[simp] theorem State.count_grid (s : State) (e : StatEvent) (c : Cam) (i : Fin 16) :
    (s.count e c).grid i = s.grid i := rfl
@[simp] theorem State.count_shape (s : State) (e : StatEvent) (c : Cam) (i : Fin 64) :
    (s.count e c).shape i = s.shape i := rfl
@[simp] theorem State.count_editView (s : State) (e : StatEvent) (c : Cam) (i : ViewId) :
    (s.count e c).editView i = s.editView i := rfl
@[simp] theorem State.queueReport_port (s : State) (r : Report) (i : Cam) : (s.queueReport r).port i = s.port i := rfl
@[simp] theorem State.queueReport_store (s : State) (r : Report) (i : Cam) :
    (s.queueReport r).store i = s.store i := rfl
@[simp] theorem State.queueReport_tone (s : State) (r : Report) (i : Cam) : (s.queueReport r).tone i = s.tone i := rfl
@[simp] theorem State.queueReport_clarity (s : State) (r : Report) (i : Cam) :
    (s.queueReport r).clarity i = s.clarity i := rfl
@[simp] theorem State.queueReport_window (s : State) (r : Report) (i : WindowId) :
    (s.queueReport r).window i = s.window i := rfl
@[simp] theorem State.queueReport_zone (s : State) (r : Report) (i : WindowId) :
    (s.queueReport r).zone i = s.zone i := rfl
@[simp] theorem State.queueReport_grid (s : State) (r : Report) (i : Fin 16) :
    (s.queueReport r).grid i = s.grid i := rfl
@[simp] theorem State.queueReport_shape (s : State) (r : Report) (i : Fin 64) :
    (s.queueReport r).shape i = s.shape i := rfl
@[simp] theorem State.queueReport_editView (s : State) (r : Report) (i : ViewId) :
    (s.queueReport r).editView i = s.editView i := rfl
@[simp] theorem State.reform_port (s : State) (i : Cam) : (s.reform).port i = s.port i := rfl
@[simp] theorem State.reform_store (s : State) (i : Cam) : (s.reform).store i = s.store i := rfl
@[simp] theorem State.reform_tone (s : State) (i : Cam) : (s.reform).tone i = s.tone i := rfl
@[simp] theorem State.reform_clarity (s : State) (i : Cam) : (s.reform).clarity i = s.clarity i := rfl
@[simp] theorem State.reform_window (s : State) (i : WindowId) : (s.reform).window i = s.window i := rfl
@[simp] theorem State.reform_zone (s : State) (i : WindowId) : (s.reform).zone i = s.zone i := rfl
@[simp] theorem State.reform_grid (s : State) (i : Fin 16) : (s.reform).grid i = s.grid i := rfl
@[simp] theorem State.reform_shape (s : State) (i : Fin 64) : (s.reform).shape i = s.shape i := rfl
@[simp] theorem State.reform_editView (s : State) (i : ViewId) : (s.reform).editView i = s.editView i := rfl
@[simp] theorem State.setGrid_port (s : State) (g : Fin 16) (x : Grid) (i : Cam) :
    (s.setGrid g x).port i = s.port i := rfl
@[simp] theorem State.setGrid_store (s : State) (g : Fin 16) (x : Grid) (i : Cam) :
    (s.setGrid g x).store i = s.store i := rfl
@[simp] theorem State.setGrid_tone (s : State) (g : Fin 16) (x : Grid) (i : Cam) :
    (s.setGrid g x).tone i = s.tone i := rfl
@[simp] theorem State.setGrid_clarity (s : State) (g : Fin 16) (x : Grid) (i : Cam) :
    (s.setGrid g x).clarity i = s.clarity i := rfl
@[simp] theorem State.setGrid_window (s : State) (g : Fin 16) (x : Grid) (i : WindowId) :
    (s.setGrid g x).window i = s.window i := rfl
@[simp] theorem State.setGrid_zone (s : State) (g : Fin 16) (x : Grid) (i : WindowId) :
    (s.setGrid g x).zone i = s.zone i := rfl
@[simp] theorem State.setGrid_shape (s : State) (g : Fin 16) (x : Grid) (i : Fin 64) :
    (s.setGrid g x).shape i = s.shape i := rfl
@[simp] theorem State.setGrid_editView (s : State) (g : Fin 16) (x : Grid) (i : ViewId) :
    (s.setGrid g x).editView i = s.editView i := rfl
@[simp] theorem State.setEditView_port (s : State) (v : ViewId) (x : View) (i : Cam) :
    (s.setEditView v x).port i = s.port i := rfl
@[simp] theorem State.setEditView_store (s : State) (v : ViewId) (x : View) (i : Cam) :
    (s.setEditView v x).store i = s.store i := rfl
@[simp] theorem State.setEditView_tone (s : State) (v : ViewId) (x : View) (i : Cam) :
    (s.setEditView v x).tone i = s.tone i := rfl
@[simp] theorem State.setEditView_clarity (s : State) (v : ViewId) (x : View) (i : Cam) :
    (s.setEditView v x).clarity i = s.clarity i := rfl
@[simp] theorem State.setEditView_window (s : State) (v : ViewId) (x : View) (i : WindowId) :
    (s.setEditView v x).window i = s.window i := rfl
@[simp] theorem State.setEditView_zone (s : State) (v : ViewId) (x : View) (i : WindowId) :
    (s.setEditView v x).zone i = s.zone i := rfl
@[simp] theorem State.setEditView_grid (s : State) (v : ViewId) (x : View) (i : Fin 16) :
    (s.setEditView v x).grid i = s.grid i := rfl
@[simp] theorem State.setEditView_shape (s : State) (v : ViewId) (x : View) (i : Fin 64) :
    (s.setEditView v x).shape i = s.shape i := rfl
@[simp] theorem State.setShape_port (s : State) (k : Fin 64) (x : Option Shape) (i : Cam) :
    (s.setShape k x).port i = s.port i := rfl
@[simp] theorem State.setShape_store (s : State) (k : Fin 64) (x : Option Shape) (i : Cam) :
    (s.setShape k x).store i = s.store i := rfl
@[simp] theorem State.setShape_tone (s : State) (k : Fin 64) (x : Option Shape) (i : Cam) :
    (s.setShape k x).tone i = s.tone i := rfl
@[simp] theorem State.setShape_clarity (s : State) (k : Fin 64) (x : Option Shape) (i : Cam) :
    (s.setShape k x).clarity i = s.clarity i := rfl
@[simp] theorem State.setShape_window (s : State) (k : Fin 64) (x : Option Shape) (i : WindowId) :
    (s.setShape k x).window i = s.window i := rfl
@[simp] theorem State.setShape_zone (s : State) (k : Fin 64) (x : Option Shape) (i : WindowId) :
    (s.setShape k x).zone i = s.zone i := rfl
@[simp] theorem State.setShape_grid (s : State) (k : Fin 64) (x : Option Shape) (i : Fin 16) :
    (s.setShape k x).grid i = s.grid i := rfl
@[simp] theorem State.setShape_editView (s : State) (k : Fin 64) (x : Option Shape) (i : ViewId) :
    (s.setShape k x).editView i = s.editView i := rfl
@[simp] theorem State.drivePins_port (s : State) (i : Cam) : (s.drivePins).port i = s.port i := rfl
@[simp] theorem State.drivePins_store (s : State) (i : Cam) : (s.drivePins).store i = s.store i := rfl
@[simp] theorem State.drivePins_tone (s : State) (i : Cam) : (s.drivePins).tone i = s.tone i := rfl
@[simp] theorem State.drivePins_clarity (s : State) (i : Cam) : (s.drivePins).clarity i = s.clarity i := rfl
@[simp] theorem State.drivePins_window (s : State) (i : WindowId) : (s.drivePins).window i = s.window i := rfl
@[simp] theorem State.drivePins_zone (s : State) (i : WindowId) : (s.drivePins).zone i = s.zone i := rfl
@[simp] theorem State.drivePins_grid (s : State) (i : Fin 16) : (s.drivePins).grid i = s.grid i := rfl
@[simp] theorem State.drivePins_shape (s : State) (i : Fin 64) : (s.drivePins).shape i = s.shape i := rfl
@[simp] theorem State.drivePins_editView (s : State) (i : ViewId) : (s.drivePins).editView i = s.editView i := rfl

/-! ### Control.hushed -/

@[simp] theorem Control.hushed_rate (k : Control) : k.hushed.rate = k.rate := rfl
@[simp] theorem Control.hushed_rx (k : Control) : k.hushed.rx = k.rx := rfl
@[simp] theorem Control.hushed_requests (k : Control) : k.hushed.requests = k.requests := rfl
@[simp] theorem Control.hushed_replies (k : Control) : k.hushed.replies = [] := rfl
@[simp] theorem Control.hushed_sending (k : Control) : k.hushed.sending = none := rfl
@[simp] theorem Control.hushed_reports (k : Control) : k.hushed.reports = [] := rfl
@[simp] theorem Control.hushed_lost (k : Control) : k.hushed.lost = k.lost := rfl
@[simp] theorem Control.hushed_counters (k : Control) : k.hushed.counters = k.counters := rfl

end Sys2Proof.Machine
end

