-- ==== Sys2Proof/Laws/Banks.lean ====
section
/-! SUPPORT. The pixel store's list of banks: reads, writes, and the canonical form that every operation keeps. -/

namespace Sys2Proof.Machine

@[simp] theorem readCell_writeCell_same (l : List BankCell) (key : Nat) (b : SegmentBody) :
    readCell (writeCell l key b) key = some b := by
  induction l with
  | nil => simp [writeCell, readCell]
  | cons x l ih =>
    unfold writeCell
    split
    · simp [readCell]
    · split
      · simp [readCell]
      · next h => simp [readCell, Ne.symm h, ih]

/-- A write leaves every other bank as it was. -/
theorem readCell_writeCell_ne (l : List BankCell) {key other : Nat} (b : SegmentBody) (h : other ≠ key) :
    readCell (writeCell l key b) other = readCell l other := by
  induction l with
  | nil => simp [writeCell, readCell, Ne.symm h]
  | cons x l ih =>
    unfold writeCell
    split
    · simp [readCell, Ne.symm h]
    · split
      · next h1 => subst h1; simp [readCell, Ne.symm h]
      · simp [readCell, ih]

theorem banksWf_iff (l : List BankCell) : banksWf l = true ↔ l.Pairwise (fun a b => a.key < b.key) := by
  induction l with
  | nil => simp [banksWf]
  | cons x l ih =>
    cases l with
    | nil => simp [banksWf]
    | cons y l =>
      simp only [banksWf, Bool.and_eq_true, decide_eq_true_eq, ih, List.pairwise_cons]
      constructor
      · rintro ⟨h1, h2, h3⟩
        refine ⟨fun a ha => ?_, h2, h3⟩
        rcases List.mem_cons.mp ha with rfl | ha
        · exact h1
        · exact Nat.lt_trans h1 (h2 a ha)
      · rintro ⟨h1, h2, h3⟩
        exact ⟨h1 y (List.mem_cons_self ..), h2, h3⟩

theorem mem_writeCell {l : List BankCell} {key : Nat} {b : SegmentBody} {x : BankCell} (h : x ∈ writeCell l key b) :
    x.key = key ∨ x ∈ l := by
  induction l with
  | nil =>
    simp only [writeCell, List.mem_singleton] at h
    simp [h]
  | cons y l ih =>
    unfold writeCell at h
    split at h
    · rcases List.mem_cons.mp h with rfl | h
      · exact .inl rfl
      · exact .inr h
    · split at h
      · rcases List.mem_cons.mp h with rfl | h
        · exact .inl rfl
        · exact .inr (List.mem_cons_of_mem _ h)
      · rcases List.mem_cons.mp h with rfl | h
        · exact .inr (List.mem_cons_self ..)
        · exact (ih h).imp id (List.mem_cons_of_mem _)

/-- A write keeps the canonical form. -/
theorem banksWf_writeCell {l : List BankCell} (h : banksWf l = true) (key : Nat) (b : SegmentBody) :
    banksWf (writeCell l key b) = true := by
  rw [banksWf_iff] at h ⊢
  induction l with
  | nil => simp [writeCell]
  | cons x l ih =>
    obtain ⟨h1, h2⟩ := List.pairwise_cons.mp h
    unfold writeCell
    split
    · next hk =>
      refine List.pairwise_cons.mpr ⟨fun a ha => ?_, h⟩
      rcases List.mem_cons.mp ha with rfl | ha
      · exact hk
      · exact Nat.lt_trans hk (h1 a ha)
    · split
      · next hk => exact List.pairwise_cons.mpr ⟨fun a ha => hk ▸ h1 a ha, h2⟩
      · next hk1 hk2 =>
        refine List.pairwise_cons.mpr ⟨fun a ha => ?_, ih h2⟩
        rcases mem_writeCell ha with hk | ha
        · show x.key < a.key
          omega
        · exact h1 a ha

/-- The cells of the shown banks keep the canonical form. -/
theorem banksWf_shownCells (shown : Vector Bank 50) {l : List BankCell} (h : banksWf l = true) :
    banksWf (shownCells shown l) = true := by
  rw [banksWf_iff] at h ⊢
  exact h.filter _

/-- The two banks of a segment have different keys. -/
theorem bankKey_other (i : Nat) (b : Bank) : bankKey i b.other ≠ bankKey i b := by
  cases b <;> simp [bankKey, Bank.other]

/-- Segment and bank are read back from the key. -/
theorem bankKey_inj {i j : Nat} {a b : Bank} (h : bankKey i a = bankKey j b) : i = j ∧ a = b := by
  cases a <;> cases b <;> simp [bankKey] at h ⊢ <;> omega

/-- A segment's write goes to its pending bank and leaves its shown bank as it was (R26). -/
theorem CamStore.write_shown (st : CamStore) (i : Nat) (b : SegmentBody) :
    readCell (st.write i b).banks (bankKey i (shownBank st.shown i)) = readCell st.banks (bankKey i (shownBank st.shown i)) :=
  readCell_writeCell_ne _ _ (bankKey_other _ _).symm

/-- A store's write keeps the canonical form. -/
theorem CamStore.write_wf {st : CamStore} (h : banksWf st.banks = true) (i : Nat) (b : SegmentBody) :
    banksWf (st.write i b).banks = true :=
  banksWf_writeCell h _ _

/-- A frame close, an emptying, a freeze count and a latch leave the banks as they were. -/
@[simp] theorem CamStore.close_banks (st : CamStore) (h : Nat) (n : Byte) (map : List Bool) :
    (st.close h n map).banks = st.banks := by
  unfold CamStore.close
  rfl

@[simp] theorem CamStore.emptied_banks (st : CamStore) (n : Nat) : (st.emptied n).banks = st.banks := by
  unfold CamStore.emptied
  rfl

@[simp] theorem CamStore.takeLatch_banks (st : CamStore) (m : Option CamMode) : (st.takeLatch m).banks = st.banks := by
  unfold CamStore.takeLatch
  rfl

@[simp] theorem CamStore.raiseFreeze_banks (st : CamStore) (l : LinkState) : (st.raiseFreeze l).banks = st.banks := by
  unfold CamStore.raiseFreeze; split <;> rfl

end Sys2Proof.Machine
end

