-- ==== Sys2Proof/Laws/Frames.lean ====
section
/-! SUPPORT. What each shared operation leaves as it was. `LinkOnly s t` says that `t` differs from `s` in the blocks that an
event of a camera link may change; `SelectorOnly s t`, in those that an event of the situation selector may change. -/

namespace Sys2Proof.Machine

/-! ## Events of a camera link -/

/-- `t` holds what `s` holds outside the ports, the segment store, the windows, the tone controller, the clarity monitor, the
zones, the cadence channels and the control link. -/
structure LinkOnly (s t : State) : Prop where
  held : t.held = s.held
  mode : t.mode = s.mode
  params : t.params = s.params
  grids : t.grids = s.grids
  views : t.views = s.views
  selector : t.selector = s.selector
  shapes : t.shapes = s.shapes
  display : t.display = s.display
  pins : t.pins = s.pins
  epoch : t.epoch = s.epoch
  pending : t.pending = s.pending

theorem LinkOnly.rfl {s : State} : LinkOnly s s := ⟨.refl _, .refl _, .refl _, .refl _, .refl _, .refl _, .refl _, .refl _,
  .refl _, .refl _, .refl _⟩

theorem LinkOnly.trans {s t u : State} (a : LinkOnly s t) (b : LinkOnly t u) : LinkOnly s u :=
  ⟨b.held.trans a.held, b.mode.trans a.mode, b.params.trans a.params, b.grids.trans a.grids, b.views.trans a.views,
    b.selector.trans a.selector, b.shapes.trans a.shapes, b.display.trans a.display, b.pins.trans a.pins,
    b.epoch.trans a.epoch, b.pending.trans a.pending⟩

theorem LinkOnly.foldl {α : Type} {f : State → α → State} (h : ∀ t a, LinkOnly t (f t a)) (l : List α) (s : State) :
    LinkOnly s (l.foldl f s) := by
  induction l generalizing s with
  | nil => exact .rfl
  | cons a l ih => exact (h s a).trans (ih (f s a))

theorem linkOnly_setPort (s : State) (c : Cam) (p : Port) : LinkOnly s (s.setPort c p) := by constructor <;> exact .refl _

theorem linkOnly_setStore (s : State) (c : Cam) (x : CamStore) : LinkOnly s (s.setStore c x) := by constructor <;> exact .refl _

theorem linkOnly_setTone (s : State) (c : Cam) (x : Tone) : LinkOnly s (s.setTone c x) := by constructor <;> exact .refl _

theorem linkOnly_setClarity (s : State) (c : Cam) (x : Clarity) : LinkOnly s (s.setClarity c x) := by
  constructor <;> exact .refl _

theorem linkOnly_windows (s : State) (x : Vector Window 16) : LinkOnly s { s with windows := x } := by
  constructor <;> exact .refl _

theorem linkOnly_zones (s : State) (x : ZoneWatch) : LinkOnly s { s with zones := x } := by
  constructor <;> exact .refl _

theorem linkOnly_stores (s : State) (x : Vector CamStore 4) : LinkOnly s { s with stores := x } := by
  constructor <;> exact .refl _

theorem linkOnly_mapZonesOf (s : State) (c : Cam) (f : Zone → Zone) : LinkOnly s (s.mapZonesOf c f) :=
  linkOnly_zones ..

theorem linkOnly_countTimes (s : State) (e : StatEvent) (c : Cam) (n : Nat) : LinkOnly s (s.countTimes e c n) := by
  constructor <;> exact .refl _

theorem linkOnly_count (s : State) (e : StatEvent) (c : Cam) : LinkOnly s (s.count e c) := by constructor <;> exact .refl _

theorem linkOnly_queueReport (s : State) (r : Report) : LinkOnly s (s.queueReport r) := by constructor <;> exact .refl _

theorem linkOnly_reform (s : State) : LinkOnly s s.reform := by constructor <;> exact .refl _

theorem linkOnly_rederive (s : State) (c : Cam) : LinkOnly s (s.rederive c) := by
  unfold State.rederive
  dsimp only
  split
  · exact .rfl
  · constructor <;> exact .refl _

theorem linkOnly_refreshHazard (s : State) : LinkOnly s s.refreshHazard := by
  unfold State.refreshHazard
  dsimp only
  split
  · exact .rfl
  · constructor <;> exact .refl _

theorem linkOnly_judgeClarity (s : State) (c : Cam) (cl : Clarity) : LinkOnly s (s.judgeClarity c cl) :=
  ((linkOnly_setClarity ..).trans (linkOnly_rederive ..)).trans (linkOnly_reform _)

theorem linkOnly_applyChanges (s : State) (c : Cam) : LinkOnly s (s.applyChanges c) := by
  unfold State.applyChanges
  dsimp only
  refine .trans (.trans ?_ (LinkOnly.foldl (fun t k => ?_) _ _)) (linkOnly_refreshHazard _)
  · constructor <;> exact .refl _
  · split
    · exact linkOnly_judgeClarity ..
    · exact .rfl

theorem linkOnly_leaveStreaming (s : State) (c : Cam) : LinkOnly s (s.leaveStreaming c) := by
  unfold State.leaveStreaming
  dsimp only
  exact ((linkOnly_mapZonesOf s c Zone.leaveStreaming).trans (linkOnly_windows ..)).trans (linkOnly_setTone ..)

theorem linkOnly_setLink (s : State) (c : Cam) (l : LinkState) (cause : LinkCause) : LinkOnly s (s.setLink c l cause) := by
  unfold State.setLink
  dsimp only
  refine .trans (.trans (.trans ?_ (linkOnly_setPort ..)) (linkOnly_queueReport ..)) (linkOnly_rederive ..)
  split
  · exact linkOnly_leaveStreaming ..
  · exact .rfl

theorem linkOnly_goOff (s : State) (c : Cam) (cause : LinkCause) : LinkOnly s (s.goOff c cause) :=
  (((((linkOnly_setPort s c _).trans (linkOnly_setStore ..)).trans (linkOnly_setClarity ..)).trans
    (linkOnly_mapZonesOf ..)).trans (linkOnly_setLink ..)).trans (linkOnly_reform _)

theorem linkOnly_goOffUnlessOff (s : State) (c : Cam) (cause : LinkCause) : LinkOnly s (s.goOffUnlessOff c cause) := by
  unfold State.goOffUnlessOff
  split
  · exact .rfl
  · exact linkOnly_goOff ..

theorem linkOnly_leaveOff (s : State) (c : Cam) : LinkOnly s (s.leaveOff c) := by
  unfold State.leaveOff
  dsimp only
  split
  · split
    · exact (linkOnly_setPort ..).trans (linkOnly_setLink ..)
    · exact linkOnly_setLink ..
  · exact .rfl

theorem linkOnly_offer (s : State) (c : Cam) (m : CamMode) : LinkOnly s (s.offer c m) := by
  unfold State.offer
  dsimp only
  refine .trans ?_ (linkOnly_setPort ..)
  split
  · exact .rfl
  · exact linkOnly_setStore ..

theorem linkOnly_beginSequence (s : State) (c : Cam) (m : CamMode) : LinkOnly s (s.beginSequence c m) :=
  ((linkOnly_setPort s c _).trans (linkOnly_offer ..)).trans (linkOnly_setPort ..)

theorem linkOnly_enterRefused (s : State) (c : Cam) (cause : LinkCause) : LinkOnly s (s.enterRefused c cause) :=
  (linkOnly_setPort s c _).trans (linkOnly_setLink ..)

theorem linkOnly_gainCarrier (s : State) (c : Cam) : LinkOnly s (s.gainCarrier c) := by
  unfold State.gainCarrier
  dsimp only
  split
  · exact (linkOnly_setPort ..).trans (linkOnly_setLink ..)
  · exact linkOnly_setPort ..

theorem linkOnly_loseCarrier (s : State) (c : Cam) : LinkOnly s (s.loseCarrier c) := by
  unfold State.loseCarrier
  dsimp only
  split
  · exact (linkOnly_setPort ..).trans (linkOnly_setLink ..)
  · exact (linkOnly_setPort ..).trans (linkOnly_setLink ..)
  · exact ((linkOnly_setPort ..).trans (linkOnly_count ..)).trans (linkOnly_setLink ..)
  · exact ((linkOnly_setPort ..).trans (linkOnly_count ..)).trans (linkOnly_setLink ..)
  all_goals exact linkOnly_setPort ..

theorem linkOnly_takeAnnounce (s : State) (c : Cam) (r : AnnounceRecord) : LinkOnly s (s.takeAnnounce c r) := by
  unfold State.takeAnnounce
  dsimp only
  split
  · exact (linkOnly_setPort ..).trans (linkOnly_enterRefused ..)
  · split
    · exact (linkOnly_setPort ..).trans (linkOnly_beginSequence ..)
    · exact ((linkOnly_setPort ..).trans (linkOnly_beginSequence ..)).trans (linkOnly_setLink ..)

theorem linkOnly_announceArrives (s : State) (c : Cam) (r : AnnounceRecord) (good : Bool) :
    LinkOnly s (s.announceArrives c r good) := by
  unfold State.announceArrives
  dsimp only
  split
  · exact linkOnly_takeAnnounce ..
  · exact .rfl

theorem linkOnly_announceExpires (s : State) (c : Cam) : LinkOnly s (s.announceExpires c) := by
  unfold State.announceExpires
  dsimp only
  split
  · split
    · exact linkOnly_setPort ..
    · exact (linkOnly_setPort ..).trans (linkOnly_enterRefused ..)
  · exact .rfl

theorem linkOnly_judgeAttempt (s : State) (c : Cam) : LinkOnly s (s.judgeAttempt c) := by
  unfold State.judgeAttempt
  dsimp only
  split
  · exact ((linkOnly_setPort ..).trans (linkOnly_setStore ..)).trans (linkOnly_setLink ..)
  · split
    · split
      · exact (linkOnly_setPort ..).trans (linkOnly_count ..)
      · exact (((linkOnly_setPort ..).trans (linkOnly_count ..)).trans (linkOnly_offer ..)).trans (linkOnly_setPort ..)
    · exact ((linkOnly_setPort ..).trans (linkOnly_count ..)).trans (linkOnly_enterRefused ..)

theorem linkOnly_trainSegment (s : State) (c : Cam) (i : Nat) (good : Bool) : LinkOnly s (s.trainSegment c i good) := by
  unfold State.trainSegment
  dsimp only
  split
  · exact .rfl
  · split
    · exact linkOnly_setPort ..
    · split
      · exact (linkOnly_setPort ..).trans (linkOnly_judgeAttempt ..)
      · exact linkOnly_setPort ..

theorem linkOnly_trainExpires (s : State) (c : Cam) : LinkOnly s (s.trainExpires c) := by
  unfold State.trainExpires
  dsimp only
  split
  · exact (linkOnly_setPort ..).trans (linkOnly_judgeAttempt ..)
  · exact .rfl

theorem linkOnly_storeClose (s : State) (c : Cam) : LinkOnly s (s.storeClose c) :=
  (linkOnly_setStore s c _).trans (linkOnly_rederive ..)

theorem linkOnly_storeAndClarityClose (s : State) (c : Cam) : LinkOnly s (s.storeAndClarityClose c) := by
  unfold State.storeAndClarityClose
  dsimp only
  have h : LinkOnly s { s with choices := s.choices + 1 } := by constructor <;> exact .refl _
  split
  · exact (linkOnly_setClarity ..).trans (linkOnly_storeClose ..)
  · split
    · exact (h.trans (linkOnly_storeClose ..)).trans (linkOnly_judgeClarity ..)
    · exact (h.trans (linkOnly_judgeClarity ..)).trans (linkOnly_storeClose ..)

theorem linkOnly_zoneClose (s : State) (c : Cam) : LinkOnly s (s.zoneClose c) := by
  unfold State.zoneClose
  dsimp only
  refine .trans ?_ (linkOnly_refreshHazard _)
  constructor <;> exact .refl _

theorem linkOnly_toneClose (s : State) (c : Cam) : LinkOnly s (s.toneClose c) := by constructor <;> exact .refl _

theorem linkOnly_judgeFrame (s : State) (c : Cam) : LinkOnly s (s.judgeFrame c) := by
  unfold State.judgeFrame
  dsimp only
  split
  · exact linkOnly_setPort ..
  · split
    · exact linkOnly_setPort ..
    · split
      · exact (((linkOnly_setPort ..).trans (linkOnly_count ..)).trans (linkOnly_beginSequence ..)).trans
          (linkOnly_setLink ..)
      · exact (linkOnly_setPort ..).trans (linkOnly_queueReport ..)

theorem linkOnly_frameClose (s : State) (c : Cam) : LinkOnly s (s.frameClose c) := by
  unfold State.frameClose
  dsimp only
  refine .trans (.trans (.trans (.trans ?_ (linkOnly_toneClose ..)) (linkOnly_storeAndClarityClose ..))
    (linkOnly_zoneClose ..)) (linkOnly_judgeFrame ..)
  constructor <;> exact .refl _

theorem linkOnly_openFrame (s : State) (c : Cam) (h : HeaderRecord) (m : CamMode) : LinkOnly s (s.openFrame c h m) := by
  unfold State.openFrame
  dsimp only
  have h1 : LinkOnly s (if (s.port c).previous.any (fun n => h.number ≠ n + 1) then s.count .frameGap c else s) := by
    split
    · exact linkOnly_count ..
    · exact .rfl
  exact (h1.trans (linkOnly_setPort ..)).trans (linkOnly_windows ..)

theorem linkOnly_ignoreFrame (s : State) (c : Cam) : LinkOnly s (s.ignoreFrame c) :=
  (linkOnly_count s _ c).trans (linkOnly_setPort ..)

theorem linkOnly_takeHeader (s : State) (c : Cam) (h : HeaderRecord) : LinkOnly s (s.takeHeader c h) := by
  unfold State.takeHeader
  dsimp only
  have h1 : LinkOnly s (if (s.port c).phase = .opened then (s.count .frameTruncated c).frameClose c else s) := by
    split
    · exact (linkOnly_count ..).trans (linkOnly_frameClose ..)
    · exact .rfl
  generalize (if (s.port c).phase = .opened then (s.count .frameTruncated c).frameClose c else s) = t at h1
  split
  · exact h1
  · have h2 := h1.trans (linkOnly_applyChanges t c)
    split
    · split
      · exact h2.trans (linkOnly_openFrame ..)
      · exact h2.trans (linkOnly_ignoreFrame ..)
    · exact h2.trans (linkOnly_ignoreFrame ..)

theorem linkOnly_headerArrives (s : State) (c : Cam) (h : HeaderRecord) (good : Bool) :
    LinkOnly s (s.headerArrives c h good) := by
  unfold State.headerArrives
  split
  · exact .rfl
  · split
    · exact linkOnly_takeHeader ..
    · exact linkOnly_count ..

theorem linkOnly_takeSegment (s : State) (c : Cam) (i : Nat) (body : SegmentBody) (good : Bool) :
    LinkOnly s (s.takeSegment c i body good) := by
  constructor <;> exact .refl _

theorem linkOnly_segmentArrives (s : State) (c : Cam) (i : Nat) (body : SegmentBody) (good : Bool) :
    LinkOnly s (s.segmentArrives c i body good) := by
  unfold State.segmentArrives
  dsimp only
  split
  · exact .rfl
  · split
    · exact linkOnly_count ..
    · exact .rfl
    · split
      · exact linkOnly_count ..
      · exact linkOnly_takeSegment ..

theorem linkOnly_trailerArrives (s : State) (c : Cam) (n : Byte) (good : Bool) :
    LinkOnly s (s.trailerArrives c n good) := by
  unfold State.trailerArrives
  dsimp only
  split
  · exact .rfl
  · split
    · exact linkOnly_count ..
    · split
      · exact .rfl
      · split
        · exact linkOnly_frameClose ..
        · exact (linkOnly_count ..).trans (linkOnly_frameClose ..)

theorem linkOnly_backRecordSent (s : State) (c : Cam) : LinkOnly s (s.backRecordSent c) := by
  unfold State.backRecordSent
  dsimp only
  split
  · exact .rfl
  · exact linkOnly_setPort ..

theorem linkOnly_takePreference (s : State) (c : Cam) (ms : List CamMode) : LinkOnly s (s.takePreference c ms) := by
  unfold State.takePreference
  dsimp only
  split
  · split
    · exact (linkOnly_setPort ..).trans (linkOnly_enterRefused ..)
    · split
      · exact ((linkOnly_setPort ..).trans (linkOnly_beginSequence ..)).trans (linkOnly_setLink ..)
      · exact (linkOnly_setPort ..).trans (linkOnly_beginSequence ..)
  · exact linkOnly_setPort ..

theorem linkOnly_holdExpires (s : State) (w : WindowId) : LinkOnly s (s.holdExpires w) := by
  unfold State.holdExpires
  split
  · split
    · refine .trans ?_ (linkOnly_refreshHazard _)
      constructor <;> exact .refl _
    · exact .rfl
  · exact .rfl

theorem linkOnly_storeFrameStart (s : State) : LinkOnly s s.storeFrameStart := by
  unfold State.storeFrameStart
  dsimp only
  refine .trans (LinkOnly.foldl (fun t c => ?_) _ _) (linkOnly_stores ..)
  exact (linkOnly_setStore ..).trans (linkOnly_rederive ..)

/-! ## Events of the situation selector -/

/-- `t` holds what `s` holds outside the selector, the zones, the cadence channels and the control link. -/
structure SelectorOnly (s t : State) : Prop where
  held : t.held = s.held
  mode : t.mode = s.mode
  params : t.params = s.params
  ports : t.ports = s.ports
  stores : t.stores = s.stores
  grids : t.grids = s.grids
  views : t.views = s.views
  windows : t.windows = s.windows
  tones : t.tones = s.tones
  seams : t.seams = s.seams
  clarities : t.clarities = s.clarities
  shapes : t.shapes = s.shapes
  display : t.display = s.display
  pins : t.pins = s.pins
  epoch : t.epoch = s.epoch
  choices : t.choices = s.choices
  pending : t.pending = s.pending

theorem SelectorOnly.rfl {s : State} : SelectorOnly s s := by constructor <;> exact .refl _

theorem SelectorOnly.trans {s t u : State} (a : SelectorOnly s t) (b : SelectorOnly t u) : SelectorOnly s u :=
  ⟨b.held.trans a.held, b.mode.trans a.mode, b.params.trans a.params, b.ports.trans a.ports, b.stores.trans a.stores,
    b.grids.trans a.grids, b.views.trans a.views, b.windows.trans a.windows, b.tones.trans a.tones,
    b.seams.trans a.seams, b.clarities.trans a.clarities, b.shapes.trans a.shapes, b.display.trans a.display,
    b.pins.trans a.pins, b.epoch.trans a.epoch, b.choices.trans a.choices, b.pending.trans a.pending⟩

theorem selectorOnly_queueReport (s : State) (r : Report) : SelectorOnly s (s.queueReport r) := by
  constructor <;> exact .refl _

theorem selectorOnly_reform (s : State) : SelectorOnly s s.reform := by constructor <;> exact .refl _

theorem selectorOnly_selector (s : State) (x : Selector) : SelectorOnly s { s with selector := x } := by
  constructor <;> exact .refl _

theorem selectorOnly_refreshHazard (s : State) : SelectorOnly s s.refreshHazard := by
  unfold State.refreshHazard
  dsimp only
  split
  · exact .rfl
  · constructor <;> exact .refl _

theorem selectorOnly_rearm (s : State) : SelectorOnly s s.rearm := by
  unfold State.rearm
  dsimp only
  refine .trans ?_ (selectorOnly_refreshHazard _)
  constructor <;> exact .refl _

theorem selectorOnly_endForce (s : State) (cause : ForceCause) : SelectorOnly s (s.endForce cause) := by
  unfold State.endForce
  split
  · exact .rfl
  · exact (selectorOnly_selector ..).trans (selectorOnly_queueReport ..)

theorem selectorOnly_takeSituation (s : State) (new : Situation) : SelectorOnly s (s.takeSituation new) := by
  unfold State.takeSituation
  dsimp only
  split
  · exact .rfl
  · refine .trans (.trans ?_ (selectorOnly_rearm _)) (selectorOnly_reform _)
    split
    · exact (selectorOnly_selector ..).trans (selectorOnly_endForce ..)
    · exact selectorOnly_selector ..

theorem selectorOnly_rerank (s : State) : SelectorOnly s s.rerank := selectorOnly_takeSituation ..

theorem selectorOnly_vehicleArrives (s : State) (r : Vehicle) : SelectorOnly s (s.vehicleArrives r) :=
  (selectorOnly_selector ..).trans (selectorOnly_rerank _)

theorem selectorOnly_vehicleTimeout (s : State) : SelectorOnly s s.vehicleTimeout := by
  unfold State.vehicleTimeout
  split
  · exact (selectorOnly_selector ..).trans (selectorOnly_rerank _)
  · exact .rfl

theorem selectorOnly_turnDwellExpires (s : State) : SelectorOnly s s.turnDwellExpires := by
  unfold State.turnDwellExpires
  split
  · exact (selectorOnly_selector ..).trans (selectorOnly_rerank _)
  · exact .rfl

theorem selectorOnly_forceTimerExpires (s : State) : SelectorOnly s s.forceTimerExpires := by
  unfold State.forceTimerExpires
  split
  · exact selectorOnly_endForce ..
  · exact .rfl

theorem selectorOnly_viewDwellExpires (s : State) : SelectorOnly s s.viewDwellExpires := by
  unfold State.viewDwellExpires
  split
  · exact selectorOnly_selector ..
  · exact .rfl

theorem selectorOnly_showView (s : State) : SelectorOnly s s.showView := by
  unfold State.showView
  dsimp only
  refine .trans ?_ (selectorOnly_selector ..)
  split
  · exact (selectorOnly_selector ..).trans (selectorOnly_queueReport ..)
  · exact .rfl

end Sys2Proof.Machine
end

