-- ==== Sys2Proof/Laws/PerInstr.lean ====
section
/-! SUPPORT. Statements made for each command: under which KIND and TAG a request row is a request (R162, R169). -/

namespace Sys2Proof

/-- A request row's KIND is one of the request kinds of R169, unless the row is the one for requests of no known KIND. -/
def Laws.RequestKinds.Statement (i : Instr) : Prop :=
  ∀ kind tag, requestOf? i = some (kind, tag) → isRequestKind kind = true ∨ i = .unknownRequest kind tag

namespace Laws.RequestKinds

theorem of_none {i : Instr} (h : requestOf? i = none) : Statement i := fun _ _ h' => nomatch h.symm.trans h'

theorem of_kind {i : Instr} {kind tag : Byte} (h : requestOf? i = some (kind, tag)) (hk : isRequestKind kind = true) :
    Statement i := by
  intro k t h'
  cases h.symm.trans h'
  exact .inl hk

theorem powerOn (levels : PowerInputs) : Statement (.powerOn levels) := of_none rfl

theorem resetAssert : Statement (.resetAssert) := of_none rfl

theorem carrierGain (c : Cam) : Statement (.carrierGain c) := of_none rfl

theorem carrierLoss (c : Cam) : Statement (.carrierLoss c) := of_none rfl

theorem announceArrival (c : Cam) (r : AnnounceRecord) (k : BitVec 16) : Statement (.announceArrival c r k) := of_none rfl

theorem trainingSegmentArrival (c : Cam) (r : TrainRecord) (k : BitVec 16) : Statement (.trainingSegmentArrival c r k) :=
    of_none rfl

theorem frameHeaderArrival (c : Cam) (h : HeaderRecord) (k : BitVec 16) : Statement (.frameHeaderArrival c h k) :=
    of_none rfl

theorem segmentArrival (c : Cam) (i : Nat) (body : SegmentBody) (k : BitVec 16) :
    Statement (.segmentArrival c i body k) :=
    of_none rfl

theorem frameTrailerArrival (c : Cam) (number : Byte) (k : BitVec 16) : Statement (.frameTrailerArrival c number k) :=
    of_none rfl

theorem unknownRecordArrival (c : Cam) : Statement (.unknownRecordArrival c) := of_none rfl

theorem announceTimerExpiry (c : Cam) : Statement (.announceTimerExpiry c) := of_none rfl

theorem trainTimerExpiry (c : Cam) : Statement (.trainTimerExpiry c) := of_none rfl

theorem backChannelRecordSent (c : Cam) : Statement (.backChannelRecordSent c) := of_none rfl

theorem outputFrameStart : Statement (.outputFrameStart) := of_none rfl

theorem displaySenseChange (level : Bool) : Statement (.displaySenseChange level) := of_none rfl

theorem displaySenseTimerExpiry : Statement (.displaySenseTimerExpiry) := of_none rfl

theorem holdTimerExpiry (w : WindowId) : Statement (.holdTimerExpiry w) := of_none rfl

theorem vehicleTimeoutExpiry : Statement (.vehicleTimeoutExpiry) := of_none rfl

theorem turnDwellExpiry : Statement (.turnDwellExpiry) := of_none rfl

theorem forceTimerExpiry : Statement (.forceTimerExpiry) := of_none rfl

theorem viewDwellTimerExpiry : Statement (.viewDwellTimerExpiry) := of_none rfl

theorem onTimeExpiry (ch : ChannelId) : Statement (.onTimeExpiry ch) := of_none rfl

theorem offTimeExpiry (ch : ChannelId) : Statement (.offTimeExpiry ch) := of_none rfl

theorem byteGapTimerExpiry : Statement (.byteGapTimerExpiry) := of_none rfl

theorem controlFrameComplete (b : LineByte) : Statement (.controlFrameComplete b) := of_none rfl

theorem frameSendEnd : Statement (.frameSendEnd) := of_none rfl

theorem unknownRequest (kind tag : Byte) : Statement (.unknownRequest kind tag) := fun _ _ h => by cases h; exact .inr rfl

theorem identify (tag : Byte) (b : Body Unit) : Statement (.identify tag b) := of_kind rfl rfl

theorem status (tag : Byte) (b : Body Unit) : Statement (.status tag b) := of_kind rfl rfl

theorem setParametersLink (tag : Byte) (b : Body LinkParams) : Statement (.setParametersLink tag b) := of_kind rfl rfl

theorem setParametersStore (tag : Byte) (b : Body StoreParams) : Statement (.setParametersStore tag b) := of_kind rfl rfl

theorem setParametersTone (tag : Byte) (b : Body ToneFields) : Statement (.setParametersTone tag b) := of_kind rfl rfl

theorem setParametersToneLimits (tag : Byte) (b : Body ToneLimits) : Statement (.setParametersToneLimits tag b) :=
    of_kind rfl rfl

theorem setParametersClarity (tag : Byte) (b : Body ClarityFields) : Statement (.setParametersClarity tag b) :=
    of_kind rfl rfl

theorem setParametersClarityLimits (tag : Byte) (b : Body ClarityLimits) : Statement (.setParametersClarityLimits tag b) :=
    of_kind rfl rfl

theorem setParametersZone (tag : Byte) (b : Body ZoneParams) : Statement (.setParametersZone tag b) := of_kind rfl rfl

theorem setParametersSituation (tag : Byte) (b : Body SituationParams) : Statement (.setParametersSituation tag b) :=
    of_kind rfl rfl

theorem setParametersCadence (tag : Byte) (b : Body CadenceFields) : Statement (.setParametersCadence tag b) :=
    of_kind rfl rfl

theorem portEnable (tag : Byte) (b : Body Nat) : Statement (.portEnable tag b) := of_kind rfl rfl

theorem portDisable (tag : Byte) (b : Body Nat) : Statement (.portDisable tag b) := of_kind rfl rfl

theorem linkRestart (tag : Byte) (b : Body Nat) : Statement (.linkRestart tag b) := of_kind rfl rfl

theorem portPreferenceList (tag : Byte) (b : Body PreferenceFields) : Statement (.portPreferenceList tag b) :=
    of_kind rfl rfl

theorem windowSet (tag : Byte) (b : Body WindowFields) : Statement (.windowSet tag b) := of_kind rfl rfl

theorem windowDrop (tag : Byte) (b : Body Nat) : Statement (.windowDrop tag b) := of_kind rfl rfl

theorem seamSet (tag : Byte) (b : Body SeamFields) : Statement (.seamSet tag b) := of_kind rfl rfl

theorem gridBegin (tag : Byte) (b : Body GridBeginFields) : Statement (.gridBegin tag b) := of_kind rfl rfl

theorem gridNodes (tag : Byte) (b : Body GridNodesFields) : Statement (.gridNodes tag b) := of_kind rfl rfl

theorem gridEnd (tag : Byte) (b : Body Nat) : Statement (.gridEnd tag b) := of_kind rfl rfl

theorem gridDrop (tag : Byte) (b : Body Nat) : Statement (.gridDrop tag b) := of_kind rfl rfl

theorem shapeSet (tag : Byte) (b : Body ShapeFields) : Statement (.shapeSet tag b) := of_kind rfl rfl

theorem shapeDrop (tag : Byte) (b : Body Nat) : Statement (.shapeDrop tag b) := of_kind rfl rfl

theorem setOverlayList (tag : Byte) (b : Body OverlayListFields) : Statement (.setOverlayList tag b) := of_kind rfl rfl

theorem viewSet (tag : Byte) (b : Body ViewSetFields) : Statement (.viewSet tag b) := of_kind rfl rfl

theorem paneSet (tag : Byte) (b : Body PaneSetFields) : Statement (.paneSet tag b) := of_kind rfl rfl

theorem paneDrop (tag : Byte) (b : Body PaneDropFields) : Statement (.paneDrop tag b) := of_kind rfl rfl

theorem viewMapSet (tag : Byte) (b : Body (List (Nat × Nat))) : Statement (.viewMapSet tag b) := of_kind rfl rfl

theorem applyTables (tag : Byte) (b : Body Unit) : Statement (.applyTables tag b) := of_kind rfl rfl

theorem vehicleState (tag : Byte) (record : List Byte) : Statement (.vehicleState tag record) := of_kind rfl rfl

theorem forceView (tag : Byte) (b : Body ForceFields) : Statement (.forceView tag b) := of_kind rfl rfl

theorem releaseView (tag : Byte) (b : Body Unit) : Statement (.releaseView tag b) := of_kind rfl rfl

theorem silence (tag : Byte) (b : Body Unit) : Statement (.silence tag b) := of_kind rfl rfl

theorem readCamera (tag : Byte) (b : Body Nat) : Statement (.readCamera tag b) := of_kind rfl rfl

theorem readMeter (tag : Byte) (b : Body Nat) : Statement (.readMeter tag b) := of_kind rfl rfl

theorem readTable (tag : Byte) (b : Body ReadTableFields) : Statement (.readTable tag b) := of_kind rfl rfl

theorem counterSelect (tag : Byte) (b : Body CounterFields) : Statement (.counterSelect tag b) := of_kind rfl rfl

theorem counterRead (tag : Byte) (b : Body Unit) : Statement (.counterRead tag b) := of_kind rfl rfl

theorem modeConfig (tag : Byte) (b : Body Unit) : Statement (.modeConfig tag b) := of_kind rfl rfl

theorem modeRun (tag : Byte) (b : Body Unit) : Statement (.modeRun tag b) := of_kind rfl rfl

theorem modeStandby (tag : Byte) (b : Body Unit) : Statement (.modeStandby tag b) := of_kind rfl rfl

theorem restart (tag : Byte) (b : Body Unit) : Statement (.restart tag b) := of_kind rfl rfl

theorem byteReceived (b : LineByte) : Statement (.byteReceived b) := of_none rfl

end Laws.RequestKinds

end Sys2Proof
end

