-- ==== Sys2Proof/Laws/Requests.lean ====
section
/-! SUPPORT. The layout of fields and frames (R162), and what a request command can do, whatever its effect: it is taken and
answered, or it arrives and waits, or it is answered FULL (R164, R165). -/

namespace Sys2Proof.Machine

/-! ## Fields and frames -/

@[simp] theorem highFirst_length (n x : Nat) : (highFirst n x).length = n := by
  induction n with
  | zero => rfl
  | succ n ih => simp [highFirst, ih]

theorem foldl_highFirst (n x a : Nat) :
    (highFirst n x).foldl (fun y b => 256 * y + b.toNat) a = a * 256 ^ n + x % 256 ^ n := by
  induction n generalizing a with
  | zero => simp [highFirst, Nat.mod_one]
  | succ n ih =>
    simp only [highFirst, List.foldl_cons, ih, oneByte, BitVec.toNat_ofNat]
    rw [Nat.mod_pow_succ (b := 256) (k := n), pow_succ]
    norm_num; ring

/-- Reading a field high byte first undoes writing it so (R162). -/
theorem ofHighFirst_highFirst {n x : Nat} (h : x < 256 ^ n) : ofHighFirst (highFirst n x) = x := by
  simpa [ofHighFirst, Nat.mod_eq_of_lt h] using foldl_highFirst n x 0

@[simp] theorem two_eq (high low : Byte) : two high low = 256 * high.toNat + low.toNat := by simp [two, ofHighFirst]

@[simp] theorem flagSet_iff (b : Byte) : flagSet b = true ↔ b = Config.flagByte true := by simp [flagSet]

@[simp] theorem checkGood_iff (bytes : List Byte) (check : BitVec 16) :
    checkGood bytes check = true ↔ linkCheck bytes = check := by
  simp [checkGood]

/-- The nodes read are as many as the count says (R46, R165). -/
theorem takeNodes_length {n : Nat} {bytes : List Byte} {nodes : List Node} (h : takeNodes n bytes = some nodes) :
    nodes.length = n ∧ bytes.length = 5 * n := by
  induction n generalizing bytes nodes with
  | zero => cases bytes <;> simp_all [takeNodes]
  | succ n ih =>
    match bytes, h with
    | _ :: _ :: _ :: _ :: _ :: rest, h =>
      obtain ⟨more, hm, rfl⟩ := Option.map_eq_some_iff.mp h
      have := ih hm
      simp only [List.length_cons]; omega

/-- The pairs read are as many as the count says (R65, R165). -/
theorem takePairs_length {n : Nat} {bytes : List Byte} {pairs : List (Nat × Nat)} (h : takePairs n bytes = some pairs) :
    pairs.length = n ∧ bytes.length = 2 * n := by
  induction n generalizing bytes pairs with
  | zero => cases bytes <;> simp_all [takePairs]
  | succ n ih =>
    match bytes, h with
    | _ :: _ :: rest, h =>
      obtain ⟨more, hm, rfl⟩ := Option.map_eq_some_iff.mp h
      have := ih hm
      simp only [List.length_cons]; omega

/-- A frame is its body and six bytes (R162). -/
theorem frameBytes_length (kind tag : Byte) (body : List Byte) : (frameBytes kind tag body).length = body.length + 6 := by
  simp [frameBytes]

/-- A group marked present is read (R169). -/
theorem readGroup_present {α : Type} (read : List Byte → Option (α × List Byte)) (rest : List Byte) :
    readGroup read (Config.flagByte true :: rest) = (read rest).map fun x => (some x.1, x.2) := by
  simp [readGroup, flagSet]

/-- A group not marked present has no fields (R169). -/
theorem readGroup_absent {α : Type} (read : List Byte → Option (α × List Byte)) (mark : Byte) (rest : List Byte)
    (h : mark ≠ Config.flagByte true) : readGroup read (mark :: rest) = some (none, rest) := by
  simp [readGroup, flagSet, h]

/-! ## The transmitter and the report queue -/

theorem Control.startNext_requests (k : Control) : k.startNext.requests = k.requests := by
  unfold Control.startNext; split <;> rfl

theorem Control.startNext_counters (k : Control) : k.startNext.counters = k.counters := by
  unfold Control.startNext; split <;> rfl

theorem Control.startNext_reports_length (k : Control) : k.startNext.reports.length ≤ k.reports.length := by
  unfold Control.startNext
  split
  · exact Nat.le_refl _
  · next h => simp [h]
  · exact Nat.le_refl _

@[simp] theorem Control.queueAll_nil (k : Control) : k.queueAll [] = k := rfl

/-- Reports queued together are the first ones and then the others. -/
theorem Control.queueAll_append (k : Control) (rs qs : List Report) : k.queueAll (rs ++ qs) = (k.queueAll rs).queueAll qs :=
  List.foldl_append

/-- While a frame is being sent, nothing starts. -/
theorem Control.startNext_sending {k : Control} (h : k.sending ≠ none) : k.startNext = k := by
  unfold Control.startNext
  split
  · next h1 _ => exact absurd h1 h
  · next h1 _ _ => exact absurd h1 h
  · rfl

theorem Control.queueReport_requests (k : Control) (r : Report) : (k.queueReport r).requests = k.requests := by
  unfold Control.queueReport
  split
  · rw [Control.startNext_requests]
  · rfl

/-- The report queue holds at most eight reports (R168). -/
theorem Control.queueReport_length {k : Control} (h : k.reports.length ≤ 8) (r : Report) :
    (k.queueReport r).reports.length ≤ 8 := by
  unfold Control.queueReport
  split
  · refine Nat.le_trans (Control.startNext_reports_length _) ?_
    simp only [List.length_append, List.length_singleton]
    omega
  · exact h

/-! ## Requests -/

/-- A request that may be taken is taken: its reply is made with its effect (R165). -/
theorem State.serve_taken {s : State} {r : Instr} (h : Takes s r) (kind tag : Byte) (f : State → Answer) :
    s.serve r kind tag f
      = answerWith kind tag f { s with control := { s.control with requests := s.control.requests.tail } } := by
  have hf := h.free
  unfold State.serve
  dsimp only
  by_cases hh : s.control.requests.head? = some r
  · have hm : s.control.mayTake r = true := by simp [Control.mayTake, hh, hf]
    rw [if_pos hh, if_pos hm]
  · have h0 : s.control.requests = [] := h.head.resolve_right hh
    have ha : s.control.arrive r kind tag = { s.control with requests := [r] } := by simp [Control.arrive, h0]
    have hm : Control.mayTake { s.control with requests := [r] } r = true := by
      simpa [Control.mayTake, Control.processorFree] using hf
    rw [if_neg hh, ha, if_pos hm, h0]
    rfl

/-- Everything a request command can do: the effect with its reply on a state that differs in the control link, or a
change of the control link alone. -/
theorem State.serve_cases (s : State) (r : Instr) (kind tag : Byte) (f : State → Answer) :
    (∃ k, s.serve r kind tag f = answerWith kind tag f { s with control := k })
      ∨ ∃ k, s.serve r kind tag f = { s with control := k } := by
  unfold State.serve
  dsimp only
  generalize (if s.control.requests.head? = some r then s.control else s.control.arrive r kind tag) = k
  split
  · exact .inl ⟨_, rfl⟩
  · exact .inr ⟨_, rfl⟩

/-- Everything a reply adds to a request's effect: changes of the control link (R165). -/
theorem answerWith_cases (kind tag : Byte) (f : State → Answer) (s : State) :
    ∃ k k', answerWith kind tag f s = { (f { s with control := k }).state with control := k' } := by
  unfold answerWith
  split
  · exact ⟨_, _, rfl⟩
  · exact ⟨s.control, _, rfl⟩

/-- A request whose effect leaves the control link alone answers the effect on the state with the reply made. -/
theorem request_taken {s : State} {r : Instr} (h : Takes s r) {kind tag : Byte} {f : State → Answer} {st : Status}
    {data : ReplyData} {g : State → State} (hf : ∀ k, f { s with control := k } = ⟨st, data, g { s with control := k }⟩)
    (hg : ∀ k, (g { s with control := k }).control = k)
    (hk : ∀ k k', { g { s with control := k } with control := k' } = g { s with control := k' }) :
    request r kind tag f s = .next (g (s.replied kind tag st data)).drivePins := by
  unfold request unlessHeld commit
  rw [if_neg (by simp [h.live])]
  dsimp only
  rw [State.serve_taken h]
  unfold answerWith State.replied Control.replied
  dsimp only
  split
  · simp only [hf, hg, hk]
  · simp only [hf, hg, hk]

/-- A property that reads neither the control link nor the pins holds after a request command if the request's effect
keeps it. -/
theorem request_keeps {P : State → Prop} (hk : ∀ t k, P t → P { t with control := k })
    (hp : ∀ t p, P t → P { t with pins := p }) {f : State → Answer} (hf : ∀ t, P t → P (f t).state)
    {r : Instr} {kind tag : Byte} {s t : State} (h : request r kind tag f s = .next t) (hs : P s) : P t := by
  unfold request unlessHeld commit at h
  injection h with h
  subst h
  refine hp _ _ ?_
  split
  · exact hs
  · dsimp only
    obtain ⟨k, h1⟩ | ⟨k, h1⟩ := State.serve_cases s r kind tag f
    · rw [h1]
      obtain ⟨k1, k2, h2⟩ := answerWith_cases kind tag f { s with control := k }
      rw [h2]
      exact hk _ k2 (hf _ (hk _ k1 (hk s k hs)))
    · rw [h1]
      exact hk _ _ hs

end Sys2Proof.Machine
end

