-- ==== Sys2Proof/Tests/Slice0.lean ====
section
/-! SUPPORT. Tests: worked values of the manual, what WellFormed refuses, and for every statement with hypotheses a witness that
meets them. -/

namespace Sys2Proof.Machine.Tests

set_option maxRecDepth 20000

/-! ## Well-formed commands -/

/-- A segment of fifteen lines is no SEGMENT record (R5). -/
theorem test_short_segment_refused :
    WellFormed (.segmentArrival 0 0 (List.replicate 15 (List.replicate 640 ⟨0, 0, 0⟩)) 0) = false := by decide

/-- A segment whose lines have no mode's width is no SEGMENT record (R1, R5). -/
theorem test_narrow_segment_refused : WellFormed (.segmentArrival 0 0 (List.replicate 16 []) 0) = false := by decide

/-- A known KIND without a selector is no request of no known KIND (R169). -/
theorem test_known_kind_refused : WellFormed (.unknownRequest 0x05 7) = false := by decide

/-- A frame body is at most 240 bytes (R162). -/
theorem test_long_record_refused : WellFormed (.vehicleState 7 (List.replicate 241 0)) = false := by
  simp only [WellFormed, List.length_replicate]; decide

/-- A number of a camera record is one byte (R5). -/
theorem test_wide_fields_refused :
    WellFormed (.announceArrival 0 ⟨0x21, 256, [3]⟩ 0) = false ∧ WellFormed (.announceArrival 0 ⟨0x21, 20, [256]⟩ 0) = false
      ∧ WellFormed (.trainingSegmentArrival 0 ⟨256, []⟩ 0) = false ∧ WellFormed (.frameHeaderArrival 0 ⟨1, 256, 0⟩ 0) = false
      ∧ WellFormed (.frameHeaderArrival 0 ⟨1, 5, 256⟩ 0) = false ∧ WellFormed (.segmentArrival 0 256 [] 0) = false := by decide

theorem test_well_formed :
    WellFormed (.unknownRequest 0x1F 7) = true ∧ WellFormed (.unknownRequest 0x1D 7) = true
      ∧ WellFormed (.vehicleState 7 [0]) = true ∧ WellFormed (.carrierGain 3) = true := by decide

/-! ## Values of the manual's worked cases -/

/-- The check's polynomial and initial value over the nine bytes of the well-known test string (R5). -/
theorem test_check : linkCheck [0x31, 0x32, 0x33, 0x34, 0x35, 0x36, 0x37, 0x38, 0x39] = 0x29B1 := by decide

/-- 1.12: codes 3, 5, 0, 6, 5 give the announce list 3, 5, 6 and the common list 3, 5, 6. -/
theorem test_lists :
    announcedModes [3, 5, 0, 6, 5] = [.m3, .m5, .m6]
      ∧ commonList [.m1, .m3, .m4, .m5, .m6, .m2] [.m3, .m5, .m6] = [.m3, .m5, .m6]
      ∧ nextLower? .m5 [.m3, .m5, .m6] = some .m6 ∧ nextLower? .m6 [.m3, .m5, .m6] = none := by decide

/-- 3.5, stages 1 and 2. -/
theorem test_cell : cellPlace ⟨512, 0, 512, 288⟩ false 5 4 200 130 = ⟨1, 1, 72, 34, 128, 96⟩ := by decide

/-- 3.5, stages 3 and 4. -/
theorem test_interpolate :
    interpolate ⟨1, 1, 72, 34, 128, 96⟩ 20000 30000 21000 31000 = 25979
      ∧ interpolate ⟨1, 1, 72, 34, 128, 96⟩ 30000 30400 36000 36400 = 32350
      ∧ sourcePos 25979 1280 = ⟨507, 508, 6⟩ ∧ sourcePos 32350 800 = ⟨394, 395, 14⟩
      ∧ decidingRow ⟨394, 395, 14⟩ / 16 = 24 := by decide

/-- 3.5, stages 6 to 8, and the hatch of a stale segment. -/
theorem test_sample :
    bilinear ⟨507, 508, 6⟩ ⟨394, 395, 14⟩ 100 104 120 124 = 119
      ∧ bilinear ⟨507, 508, 6⟩ ⟨394, 395, 14⟩ 120 120 116 116 = 117
      ∧ toned ⟨119, 117, 134⟩ 384 6 = ⟨170, 117, 134⟩
      ∧ blend ⟨170, 117, 134⟩ ⟨210, 60, 150⟩ 6 = ⟨185, 96, 140⟩
      ∧ blend (staleHatch 712 130) ⟨210, 60, 150⟩ 6 = ⟨119, 103, 136⟩ := by decide

/-- R149 and 9.2: the two polylines of the rule, and the polygon and the line of the worked case. -/
theorem test_coverage :
    coversPolyline 2 [⟨10, 20⟩, ⟨30, 20⟩] 9 20 = true ∧ coversPolyline 2 [⟨10, 20⟩, ⟨30, 20⟩] 9 19 = false
      ∧ coversPolyline 1 [⟨10, 20⟩, ⟨30, 20⟩] 31 20 = false ∧ coversPolyline 2 [⟨10, 20⟩, ⟨30, 20⟩] 30 21 = true
      ∧ coversPolyline 3 [⟨0, 130⟩, ⟨255, 130⟩] 80 131 = true ∧ coversPolyline 3 [⟨0, 130⟩, ⟨255, 130⟩] 80 132 = false
      ∧ coversPolygon [⟨40, 100⟩, ⟨120, 100⟩, ⟨120, 160⟩, ⟨40, 160⟩] 40 100 = true
      ∧ coversPolygon [⟨40, 100⟩, ⟨120, 100⟩, ⟨120, 160⟩, ⟨40, 160⟩] 120 130 = false
      ∧ coversPolygon [⟨40, 100⟩, ⟨120, 100⟩, ⟨120, 160⟩, ⟨40, 160⟩] 80 160 = false := by decide

/-- R91: the pixel ranges of rectangle 64, 128, 128, 192 in modes 1 and 5. -/
theorem test_ranges :
    rangesOf ⟨0, 64, 128, 128, 192, 2, .clarity⟩ .m1 = ⟨320, 640, 400, 600⟩
      ∧ rangesOf ⟨0, 64, 128, 128, 192, 2, .clarity⟩ .m5 = ⟨160, 320, 200, 300⟩ := by decide

/-- 5.8: eighty sampled columns and their blocks, rows 200 and 249 in block rows 0 and 1. -/
theorem test_sampled_points :
    (sampledColumns ⟨160, 320, 200, 300⟩ 2).length = 80 ∧ (sampledColumns ⟨160, 320, 200, 300⟩ 2).getLast? = some 318
      ∧ blockPart 160 160 318 = 3 ∧ blockPart 160 160 199 = 0 ∧ blockPart 200 100 224 = 0 ∧ blockPart 200 100 249 = 1
      ∧ sampledRow ⟨160, 320, 200, 300⟩ 2 298 = true ∧ sampledRow ⟨160, 320, 200, 300⟩ 2 299 = false := by decide

/-- 6.7 and 6.8: desired gains, steps, and the clamp of the gain. -/
theorem test_gain :
    desiredGain 60 4 110 = 503 ∧ stepGain 400 503 = 416 ∧ stepGain 496 503 = 503
      ∧ desiredGain 20 4 110 = 1760 ∧ desiredGain 38 4 110 = 828 ∧ stepGain 1008 1760 = 1023 ∧ stepGain 1023 828 = 1007 := by
  decide

/-- 6.9: luminances, corrections rounded toward zero, and the effective target. -/
theorem test_seam :
    toneLevel 80 300 4 = 89 ∧ toneLevel 70 320 4 = 83 ∧ seamCorrection 89 83 = 3 ∧ seamCorrection 86 83 = 1
      ∧ seamCorrection 77 95 = -9 ∧ effectiveTarget 110 3 = 113 ∧ effectiveTarget 110 (-9) = 101 := by decide

/-- 7.1: the decisions of the PAIRED sequence, and of the FIXED one at level 6. -/
theorem test_clarity :
    isLow (.paired 2) 6 1 5 (some ⟨0, 0, 0, 0, 0, 20, []⟩) = some true
      ∧ isLow (.paired 2) 6 1 8 (some ⟨0, 0, 0, 0, 0, 20, []⟩) = some false
      ∧ isLow (.paired 2) 6 1 4 (some ⟨0, 0, 0, 0, 0, 10, []⟩) = some false
      ∧ isLow .fixed 6 1 5 none = some true ∧ isLow .fixed 6 1 6 none = some false := by decide

/-- 7.2: blocks 9 and 10 rise from 70 to 150: activity 10. -/
theorem test_activity :
    activity [70, 70, 70, 70, 70, 70, 70, 70, 70, 150, 150, 70, 70, 70, 70, 70] (List.replicate 16 70) = 10 := by decide

/-- 8.7: speed 14 keeps the creep flag, 9 sets it; an indicator that goes OFF starts the turn dwell. -/
theorem test_creep_and_dwell :
    judgeCreep Config.situationDefaults (some 14) false = false ∧ judgeCreep Config.situationDefaults (some 9) false = true
      ∧ judgeCreep Config.situationDefaults (some 18) true = false
      ∧ turnDwellAfter Config.situationDefaults (some .on) (some .off) none = some 3000
      ∧ turnDwellAfter Config.situationDefaults (some .off) (some .off) none = none := by decide

/-- R169: speed 255 is clamped to 250; a sixth presence bit is BAD_VALUE; a missing byte is BAD_LENGTH. -/
theorem test_vehicle_record :
    readVehicle [0x03, 0xFF, 0x02] = .taken ⟨some 250, some .reverse, none, none, none⟩ true
      ∧ readVehicle [0x20] = .badValue ∧ readVehicle [0x03, 0x10] = .badLength ∧ readVehicle [0x04, 0x02] = .badValue := by
  decide

/-- 2.7: segment 24 through frame closes 11, 14 and 15, with HOLD_LIMIT 3. -/
theorem test_segment_ages :
    SegEntry.close ⟨.fresh, 0, some 10⟩ 3 11 false = ⟨.held, 1, some 10⟩
      ∧ SegEntry.close ⟨.held, 3, some 10⟩ 3 14 false = ⟨.stale, 4, some 10⟩
      ∧ SegEntry.close ⟨.stale, 4, some 10⟩ 3 15 true = ⟨.fresh, 0, some 15⟩ := by decide

/-! ## A busy part -/

/-- A port that streams in mode 5, a frame open up to segment 10 (1.13). -/
def streaming : Port :=
  { Port.initial true with
    link := .streaming, announceList := [.m5, .m6], common := [.m5, .m6], mode := some .m5, maxExposure := some 20
    phase := .opened, frameNumber := 41, expected := 10, previous := some 41
    resultMap := List.replicate 24 true ++ [false] }

/-- A pane of camera 0 and grid 3 with overlay list 1. -/
def pane : Pane := ⟨⟨0, 0, 512, 288⟩, ⟨0, 3⟩, none, some 1, false, ⟨128, 128, 128⟩, 0⟩

/-- Tables with that pane in slot 0 of view 0, and shape 5 in list 1. -/
def tables : Tables :=
  { Tables.initial with
    views := put Tables.initial.views 0 ⟨⟨0, 128, 128⟩, 0, put (Vector.replicate 6 none) 0 (some pane)⟩
    lists := put Tables.initial.lists 1 [5] }

/-- A part in RUN: camera 0 streams, one grid, one pane, one shape, and an ACTIVE zone that sounds both channels. -/
def busy : State :=
  let s := State.reset
  let blink : Channel := { s.cadence.blink with trigger := true, state := .on, timer := some 300, cycles := 1 }
  let buzz : Channel := { s.cadence.buzz with trigger := true, state := .on, timer := some 200, cycles := 1, toneInUse := 1 }
  let watch : WindowDef := ⟨0, 64, 128, 128, 192, 2, .watch 4 0x01⟩
  State.drivePins { s with
    mode := .run
    ports := put s.ports 0 streaming
    stores := put s.stores 0 { CamStore.initial with table := List.replicate 25 ⟨.fresh, 0, some 40⟩, health := .good }
    grids := ⟨put s.grids.grids 3 (.ready 3 3 (List.replicate 9 ⟨0, 0, false⟩)), 2039⟩
    views := ⟨tables, tables, false, Vector.replicate 6 none⟩
    shapes := ⟨put s.shapes.shapes 5 (some ⟨.polyline 3, [⟨0, 0⟩, ⟨9, 9⟩], ⟨0, 0, 0⟩, 16, [.always], false⟩), 510,
      Vector.replicate 64 none⟩
    windows := put s.windows 12 { Window.initial with active := some watch }
    zones := ⟨put s.zones.zones 12 (some ⟨.active, 2, some 1500, List.replicate 16 70, some 11, true⟩), true, [12], false, []⟩
    cadence := ⟨blink, buzz, false⟩ }

/-- The busy part with port 0 replaced. -/
def busyPort (p : Port) : State := busy.setPort 0 p

/-- Any request may be taken right after power-on (R165). -/
theorem takes_reset (r : Instr) : Takes State.reset r := ⟨rfl, .inl rfl, rfl⟩

/-- Any request may be taken by the busy part. -/
theorem takes_busy (r : Instr) : Takes busy r := ⟨rfl, .inl rfl, rfl⟩

/-! ## The laws on the busy part: witnesses of the statements that every step keeps them -/

theorem busy_pools : busy.GridLaw ∧ busy.ShapeLaw := by
  unfold State.GridLaw State.ShapeLaw; decide
theorem busy_queue : busy.QueueLaw := by unfold State.QueueLaw; decide
theorem busy_gain : busy.GainLaw := by unfold State.GainLaw; decide
theorem busy_output : busy.BuzzerLaw ∧ busy.PinLaw := by unfold State.BuzzerLaw State.PinLaw; decide
theorem busy_window : busy.WindowLaw := by unfold State.WindowLaw; decide
theorem busy_health : busy.HealthLaw := by unfold State.HealthLaw; decide
theorem busy_trigger : busy.TriggerLaw := by unfold State.TriggerLaw; decide
theorem busy_list : busy.ListLaw := by unfold State.ListLaw; decide
theorem busy_bank : busy.BankLaw := by unfold State.BankLaw; decide
theorem hazardLaw_of {s : State} (hw : ∀ w, (s.zone w).isSome = (s.window w).active.any WindowDef.isWatch)
    (ha : ∀ w, (s.zone w).all (fun z => z.state ≠ .active || (s.window w).armed s.selector.situation) = true)
    (hl : s.zones.hazardList = activeZones s.zones.zones) (hh : s.zones.hazard = !(activeZones s.zones.zones).isEmpty) :
    s.HazardLaw := by
  refine ⟨hw, fun w z hz hs => ?_, hl, hh⟩
  have := ha w
  rw [hz] at this
  simpa [hs] using this
theorem busy_hazard : busy.HazardLaw := hazardLaw_of (by decide) (by decide) (by decide) (by decide)
theorem busy_pane : busy.PaneLaw := by
  have h : ∀ v k, (look (look busy.views.live.views v).panes k).all (paneFits busy.grids) = true
      ∧ (look (look busy.views.edit.views v).panes k).all (paneFits busy.grids) = true := by decide
  rintro p ⟨v, k, hp | hp⟩
  · simpa [hp] using (h v k).1
  · simpa [hp] using (h v k).2
theorem busy_mode : busy.ModeLaw := by
  have h : ∀ c, (busy.port c).common = commonList (busy.port c).preference (busy.port c).announceList
      ∧ ((busy.port c).link ∈ [LinkState.training, .streaming] → (busy.port c).mode.any (fun m =>
        m ∈ (busy.port c).preference ∧ m ∈ (busy.port c).announceList) = true) := by decide
  intro c
  refine ⟨(h c).1, fun hl => ?_⟩
  have := (h c).2 (by simpa using hl)
  simpa [Option.any_eq_true] using this
theorem busy_table : busy.TableLaw := by unfold State.TableLaw; decide
theorem busy_segment : busy.SegmentLaw := by
  have h : ∀ c, ∀ e ∈ (busy.store c).table, e.state = .fresh ∧ e.age = 0 := by decide
  intro c e he
  simp [SegEntry.AgeLaw, h c e he]

/-- A step from the busy part with a frame trailer at the front of its queue answers a next state. -/
theorem busy_steps : ∃ t, step (busy.withPending [.frameTrailerArrival 0 41 (linkCheck [41])]) = .next t := ⟨_, rfl⟩

theorem witness_StepRunsFrontCommand : (busy.withPending [.outputFrameStart]).pending = .outputFrameStart :: [] := rfl

theorem witness_EmptyQueuePassesOneMillisecond : busy.pending = [] := rfl

theorem witness_ResetHoldsThePart :
    ({ busy with held := true } : State).held = true ∧ Instr.outputFrameStart ≠ .resetAssert
      ∧ ∀ levels, Instr.outputFrameStart ≠ .powerOn levels :=
  ⟨rfl, nofun, fun _ h => nomatch h⟩

theorem witness_StepKeepsPoolLaws :
    (∃ s t : State, s.GridLaw ∧ step s = .next t) ∧ ∃ s t : State, s.ShapeLaw ∧ step s = .next t :=
  ⟨⟨_, _, busy_pools.1, rfl⟩, ⟨_, _, busy_pools.2, rfl⟩⟩

theorem witness_StepKeepsQueueLaw : ∃ s t : State, s.QueueLaw ∧ step s = .next t := ⟨_, _, busy_queue, rfl⟩

theorem witness_GainLawHolds :
    (∃ s t : State, s.GainLaw ∧ step s = .next t)
      ∧ ∃ (i : Instr) (s t : State), s.GainLaw ∧ exec i s = .next t ∧ (∀ levels, i ≠ .powerOn levels)
        ∧ ∀ tag b, i ≠ .restart tag b :=
  ⟨⟨_, _, busy_gain, rfl⟩, ⟨.frameTrailerArrival 0 41 (linkCheck [41]), _, _, busy_gain, rfl, nofun, nofun⟩⟩

theorem witness_StepKeepsOutputLaws :
    (∃ s t : State, s.BuzzerLaw ∧ step s = .next t) ∧ (∃ s t : State, s.PinLaw ∧ step s = .next t)
      ∧ ∃ (i : Instr) (s t : State), exec i s = .next t :=
  ⟨⟨_, _, busy_output.1, rfl⟩, ⟨_, _, busy_output.2, rfl⟩, .displaySenseChange true, busy, _, rfl⟩

theorem witness_StepKeepsReferenceLaws :
    (∃ s t : State, s.PaneLaw ∧ step s = .next t) ∧ ∃ s t : State, s.ListLaw ∧ step s = .next t :=
  ⟨⟨_, _, busy_pane, rfl⟩, ⟨_, _, busy_list, rfl⟩⟩

theorem witness_StepKeepsWindowLaw : ∃ s t : State, s.WindowLaw ∧ step s = .next t := ⟨_, _, busy_window, rfl⟩

theorem witness_StepKeepsModeLaw : ∃ s t : State, s.ModeLaw ∧ step s = .next t := ⟨_, _, busy_mode, rfl⟩

theorem witness_StepKeepsHealthLaw :
    (∃ s t : State, s.HealthLaw ∧ step s = .next t)
      ∧ ∃ (s : State) (c : Cam), s.HealthLaw ∧ s.params.store.freezeLimit ≤ (s.store c).freeze :=
  ⟨⟨_, _, busy_health, rfl⟩,
    ⟨busy.setStore 0 { busy.store 0 with freeze := 4, health := .frozen }, 0, by unfold State.HealthLaw; decide, by decide⟩⟩

theorem witness_StepKeepsHazardLaw : ∃ s t : State, s.HazardLaw ∧ step s = .next t := ⟨_, _, busy_hazard, rfl⟩

theorem witness_StepKeepsTriggerLaw : ∃ s t : State, s.TriggerLaw ∧ step s = .next t := ⟨_, _, busy_trigger, rfl⟩

theorem witness_StepKeepsStoreLaws :
    (∃ s t : State, s.SegmentLaw ∧ step s = .next t) ∧ (∃ s t : State, s.TableLaw ∧ step s = .next t)
      ∧ ∃ s t : State, s.BankLaw ∧ step s = .next t :=
  ⟨⟨_, _, busy_segment, rfl⟩, ⟨_, _, busy_table, rfl⟩, ⟨_, _, busy_bank, rfl⟩⟩

theorem witness_DrawingChangesOnlyAtFrameStart :
    ∃ (i : Instr) (s t : State), exec i s = .next t ∧ i ≠ .outputFrameStart ∧ ∀ levels, i ≠ .powerOn levels :=
  ⟨.vehicleTimeoutExpiry, busy, _, rfl, nofun, fun _ h => nomatch h⟩

/-! ## Witnesses of the statements about single commands -/

/-- A port with carrier in a link state, its lists those of 1.12. -/
def portIn (l : LinkState) : Port :=
  { Port.initial true with link := l, announceList := [.m3, .m5, .m6], common := [.m3, .m5, .m6] }

/-- The part after power-on with port 0 and the health of camera 0 replaced. -/
def atPort (p : Port) (h : Health) : State :=
  (State.reset.setPort 0 p).setStore 0 { CamStore.initial with health := h }

/-- An ANNOUNCE record with these mode codes. -/
def announce (codes : List Nat) : AnnounceRecord := ⟨0x21, 20, codes⟩

theorem witness_CarrierEvents :
    (∃ (s : State) (c : Cam), s.held = false ∧ s.HealthLaw ∧ (s.port c).link = .dark)
      ∧ ∃ (s : State) (c : Cam) (k : Fin 4), s.held = false ∧ (s.port c).link = .streaming
        ∧ (look s.control.counters k).event = .linkLost ∧ (look s.control.counters k).mask.getLsbD c.val = true :=
  ⟨⟨atPort (portIn .dark) .absent, 0, rfl, by unfold State.HealthLaw; decide, rfl⟩,
    ⟨{ busy with control := { busy.control with counters := put busy.control.counters 2 ⟨.linkLost, 1, 0⟩ } }, 0, 2, rfl, by decide,
      by decide, by decide⟩⟩

theorem witness_AnnounceIsTakenOrDiscarded :
    (∃ (s : State) (c : Cam) (r : AnnounceRecord) (m : CamMode) (rest : List CamMode), s.held = false ∧ s.HealthLaw
      ∧ (s.port c).link = .announceWait ∧ 1 ≤ r.modes.length ∧ r.modes.length ≤ 6
      ∧ commonList (s.port c).preference (announcedModes r.modes) = m :: rest)
    ∧ (∃ (s : State) (c : Cam) (r : AnnounceRecord), s.held = false ∧ s.HealthLaw ∧ (s.port c).link = .announceWait
      ∧ 1 ≤ r.modes.length ∧ r.modes.length ≤ 6
      ∧ commonList (s.port c).preference (announcedModes r.modes) = [])
    ∧ (∃ (s : State) (c : Cam) (r : AnnounceRecord), s.held = false ∧ s.HealthLaw ∧ (s.port c).link = .training
      ∧ 1 ≤ r.modes.length ∧ r.modes.length ≤ 6)
    ∧ (∃ (s : State) (c : Cam) (r : AnnounceRecord) (m : CamMode) (rest : List CamMode), s.held = false
      ∧ (s.port c).link = .streaming ∧ 1 ≤ r.modes.length ∧ r.modes.length ≤ 6
      ∧ commonList (s.port c).preference (announcedModes r.modes) = m :: rest)
    ∧ (∃ (s : State) (c : Cam) (r : AnnounceRecord), s.held = false ∧ (s.port c).link = .streaming ∧ 1 ≤ r.modes.length
      ∧ r.modes.length ≤ 6 ∧ commonList (s.port c).preference (announcedModes r.modes) = [])
    ∧ ∃ (s : State) (c : Cam) (r : AnnounceRecord) (check : BitVec 16), s.held = false
      ∧ (check ≠ linkCheck r.bytes ∨ r.modes = [] ∨ 6 < r.modes.length ∨ (s.port c).link ∈ [LinkState.off, .dark, .lost, .refused]) :=
  ⟨⟨atPort (portIn .announceWait) .absent, 0, announce [3, 5, 0, 6, 5, 7], .m3, [.m5, .m6], rfl,
      by unfold State.HealthLaw; decide, rfl, by decide, by decide, by decide⟩,
    ⟨atPort (portIn .announceWait) .absent, 0, announce [0], rfl, by unfold State.HealthLaw; decide, rfl, by decide, by decide,
      by decide⟩,
    ⟨atPort (portIn .training) .absent, 0, announce [1], rfl, by unfold State.HealthLaw; decide, rfl, by decide, by decide⟩,
    ⟨busy, 0, announce [6], .m6, [], rfl, rfl, by decide, by decide, by decide⟩,
    ⟨busy, 0, announce [7], rfl, rfl, by decide, by decide, by decide⟩,
    ⟨busy, 0, announce [1, 2, 3, 4, 5, 6, 6], 0, rfl, .inr (.inr (.inl (by decide)))⟩⟩

theorem witness_AnnounceTimerExpiry :
    (∃ (s : State) (c : Cam), s.held = false ∧ (s.port c).link = .announceWait ∧ (s.port c).announceTimer = some 0
      ∧ (s.port c).announceCount < 3)
    ∧ (∃ (s : State) (c : Cam), s.held = false ∧ (s.port c).link = .announceWait ∧ (s.port c).announceTimer = some 0
      ∧ (s.port c).announceCount = 3 ∧ s.HealthLaw)
    ∧ ∃ (s : State) (c : Cam), s.held = false ∧ (s.port c).announceTimer ≠ some 0 :=
  ⟨⟨atPort { portIn .announceWait with announceTimer := some 0, announceCount := 2 } .absent, 0, rfl, rfl, rfl, by decide⟩,
    ⟨atPort { portIn .announceWait with announceTimer := some 0, announceCount := 3 } .absent, 0, rfl, rfl, rfl, rfl,
      by unfold State.HealthLaw; decide⟩,
    ⟨atPort { portIn .announceWait with announceTimer := some 1 } .absent, 0, rfl, by decide⟩⟩

/-- Port 0 after one command. -/
def portAfter (i : Instr) (s : State) : Option Port :=
  match exec i s with
  | .next t => some (t.port 0)
  | _ => none

/-- A port in TRAINING on mode 5 with segments 0 to 22 arrived (1.12). -/
def training : Port := { portIn .training with mode := some .m5, trainTimer := some 0, attempts := 2, trainExpected := 23 }

theorem witness_TrainingIsCountedAndJudged :
    (∃ (s : State) (c : Cam) (i : Nat), s.held = false ∧ (s.port c).link = .training
      ∧ ¬((s.port c).trainExpected ≤ i ∧ i + 1 = (s.port c).segments)
      ∧ (s.port c).trainExpected ≤ i ∧ i < (s.port c).segments)
    ∧ (∃ (s : State) (c : Cam) (i : Nat), s.held = false ∧ (s.port c).link = .training
      ∧ ¬((s.port c).trainExpected ≤ i ∧ i + 1 = (s.port c).segments) ∧ i = (s.port c).segments)
    ∧ (∃ (s : State) (c : Cam) (i : Nat), s.held = false ∧ (s.port c).link = .training
      ∧ ¬((s.port c).trainExpected ≤ i ∧ i + 1 = (s.port c).segments) ∧ i + 1 = (s.port c).trainExpected)
    ∧ (∃ (s : State) (c : Cam) (m : CamMode), s.held = false ∧ (s.port c).link = .training ∧ (s.port c).mode = some m
      ∧ (s.port c).trainTimer = some 0)
    ∧ (∃ (s : State) (c : Cam) (m : CamMode), s.held = false ∧ (s.port c).link = .training ∧ (s.port c).mode = some m
      ∧ (s.port c).trainExpected ≤ modeSegments m - 1)
    ∧ (∃ (s : State) (c : Cam), s.held = false ∧ (s.port c).link ≠ .training)
    ∧ ∃ (s : State) (c : Cam), s.held = false ∧ (s.port c).trainTimer ≠ some 0 :=
  ⟨⟨atPort training .absent, 0, 23, rfl, rfl, by decide, by decide, by decide⟩,
    ⟨atPort training .absent, 0, 25, rfl, rfl, by decide, by decide⟩,
    ⟨atPort training .absent, 0, 22, rfl, rfl, by decide, by decide⟩,
    ⟨atPort training .absent, 0, .m5, rfl, rfl, rfl, rfl⟩, ⟨atPort training .absent, 0, .m5, rfl, rfl, rfl, by decide⟩,
    ⟨busy, 0, rfl, by decide⟩, ⟨atPort { training with trainTimer := some 1 } .absent, 0, rfl, by decide⟩⟩

/-- The last training segment with a bad check after one bad before makes two, one more than TRAIN_TOLERANCE: the second
attempt fails, and the third is offered on the next lower mode (1.12). -/
theorem test_training_steps_down :
    (portAfter (.trainingSegmentArrival 0 ⟨24, []⟩ 0) (atPort { training with trainExpected := 24, trainBad := 1 } .absent)).map
      (fun p => (p.mode, p.attempts, p.backSending, p.backWaiting))
        = some (some .m6, 3, some .retry, [.offer .m6]) := by decide

theorem witness_HeaderOpensAFrame :
    (∃ (s : State) (c : Cam) (m : CamMode), s.held = false ∧ (s.port c).link = .streaming ∧ (s.port c).phase ≠ .opened
      ∧ (s.port c).mode = some m ∧ (∀ w, (s.window w).change = .none) ∧ s.HazardLaw)
    ∧ (∃ (s : State) (c : Cam) (m : CamMode) (w : WindowId), s.held = false ∧ (s.port c).link = .streaming
      ∧ (s.port c).phase ≠ .opened ∧ (s.port c).mode = some m ∧ (s.window w).change = .drop)
    ∧ (∃ (s u : State) (c : Cam) (n : Byte), s.held = false ∧ (s.port c).link = .streaming ∧ (s.port c).phase = .opened
      ∧ n ≠ (s.port c).frameNumber ∧ exec (.frameTrailerArrival c n (linkCheck [n])) s = .next u)
    ∧ ∃ (s : State) (c : Cam), s.held = false ∧ (s.port c).link ≠ .streaming :=
  ⟨⟨busy.setPort 0 { streaming with phase := .noFrame }, 0, .m5, rfl, rfl, by decide, rfl, by decide, busy_hazard⟩,
    ⟨{ busyPort { streaming with phase := .noFrame } with
        windows := put busy.windows 12 { busy.window 12 with change := .drop } }, 0, .m5, 12, rfl, rfl, by decide, rfl, rfl⟩,
    ⟨busy, _, 0, 42, rfl, rfl, rfl, by decide, rfl⟩, ⟨busy, 3, rfl, by decide⟩⟩

theorem witness_SegmentGoesToThePendingBank :
    (∃ (s : State) (c : Cam), s.held = false ∧ (s.port c).link = .streaming ∧ (s.port c).phase = .opened
      ∧ ((s.port c).expected ≤ 10 ∧ 10 < (s.port c).segments) ∧ ((s.port c).expected ≤ 24 ∧ 24 < (s.port c).segments)
      ∧ 9 < (s.port c).expected ∧ (s.port c).segments ≤ 25)
    ∧ (∃ (s : State) (c : Cam), s.held = false ∧ (s.port c).link = .streaming ∧ (s.port c).phase = .noFrame)
    ∧ (∃ (s : State) (c : Cam), s.held = false ∧ (s.port c).phase = .ignoring)
    ∧ ∃ (s : State) (c : Cam), s.held = false ∧ (s.port c).link ≠ .streaming :=
  ⟨⟨busy, 0, rfl, rfl, rfl, by decide, by decide, by decide, by decide⟩,
    ⟨busyPort { streaming with phase := .noFrame }, 0, rfl, rfl, rfl⟩,
    ⟨busyPort { streaming with phase := .ignoring }, 0, rfl, rfl⟩, ⟨busy, 3, rfl, by decide⟩⟩

theorem witness_TrailerClosesTheFrame :
    (∃ (s : State) (c : Cam), s.held = false ∧ (s.port c).link = .streaming ∧ (s.port c).phase = .opened
      ∧ (s.port c).resultMap.countP (fun g => !g) ≤ s.params.link.retrainThreshold)
    ∧ (∃ (s : State) (c : Cam) (m : CamMode), s.held = false ∧ (s.port c).link = .streaming ∧ (s.port c).phase = .opened
      ∧ s.params.link.retrainThreshold < (s.port c).resultMap.countP (fun g => !g)
      ∧ s.params.link.retrainFrames ≤ (s.port c).badFrames + 1
      ∧ ((s.port c).mode.bind fun m => nextLower? m (s.port c).common) = some m)
    ∧ ∃ (s : State) (c : Cam), s.held = false ∧ (s.port c).link = .streaming ∧ (s.port c).phase ≠ .opened :=
  ⟨⟨busy, 0, rfl, rfl, rfl, by decide⟩,
    ⟨busyPort { streaming with resultMap := List.replicate 25 false, badFrames := 7 }, 0, .m6, rfl, rfl, rfl, by decide,
      by decide, by decide⟩,
    ⟨busyPort { streaming with phase := .noFrame }, 0, rfl, rfl, by decide⟩⟩

/-- The eighth bad frame in a row takes a link in mode 5 down to mode 6, and without a lower common mode it streams on (R23). -/
theorem test_downgrade :
    let bad := { streaming with resultMap := List.replicate 25 false, badFrames := 7 }
    (portAfter (.frameTrailerArrival 0 41 (linkCheck [41])) (busyPort bad)).map (fun p => (p.link, p.mode)) = some (.training, some .m6)
      ∧ (portAfter (.frameTrailerArrival 0 41 (linkCheck [41])) (busyPort { bad with common := [.m5] })).map
          (fun p => (p.link, p.badFrames)) = some (.streaming, 0) := by decide

theorem witness_BackChannelAndUnknownRecords :
    (∃ (s : State) (c : Cam), s.held = false ∧ (s.port c).backSending ≠ none) ∧ (∃ p : Port, p.backSending = none)
      ∧ ∀ r, ∃ p : Port, p.backSending = some r :=
  ⟨⟨atPort { portIn .training with backSending := some .solicit, backWaiting := [.offer .m3] } .absent, 0, rfl, by decide⟩,
    ⟨Port.initial true, rfl⟩, fun r => ⟨{ Port.initial true with backSending := some r }, rfl⟩⟩

/-- The check over the one byte 1 is 0xF1D1 (R5's polynomial and initial value, worked by hand). -/
theorem test_offer_on_the_line :
    Port.backLine { Port.initial true with backSending := some (.offer .m1) } = some (.offer, [0x01, 0xF1, 0xD1]) := by decide

theorem witness_PortRequestsMoveTheLink :
    (∃ (s : State) (tag : Byte) (c : Cam), Takes s (.portEnable tag (.fields c.val)) ∧ s.mode = .run
      ∧ (s.port c).link = .off)
    ∧ (∃ (s : State) (tag : Byte) (c : Cam), Takes s (.portDisable tag (.fields c.val)) ∧ (s.port c).link ≠ .off
      ∧ (s.port c).carrier = true ∧ (s.port c).link = .streaming ∧ (s.window 12).serves c = true)
    ∧ ∃ (s : State) (tag : Byte) (c : Cam), Takes s (.linkRestart tag (.fields c.val)) ∧ (s.port c).link = .refused :=
  ⟨⟨busy, 7, 3, takes_busy _, rfl, rfl⟩, ⟨busy, 7, 0, takes_busy _, by decide, rfl, rfl, rfl⟩,
    ⟨atPort (portIn .refused) .absent, 7, 0, ⟨rfl, .inl rfl, rfl⟩, rfl⟩⟩

theorem witness_PortRequestsThatKeepTheLink :
    (∃ (s : State) (tag : Byte) (c : Cam), Takes s (.portEnable tag (.fields c.val)) ∧ s.mode ≠ .run)
    ∧ (∃ (s : State) (tag : Byte) (c : Cam), Takes s (.portEnable tag (.fields c.val)) ∧ s.mode = .run
      ∧ (s.port c).link ≠ .off)
    ∧ (∃ (s : State) (tag : Byte) (c : Cam), Takes s (.portDisable tag (.fields c.val)) ∧ (s.port c).link = .off
      ∧ s.HazardLaw)
    ∧ (∃ (s : State) (tag : Byte) (c : Cam), Takes s (.linkRestart tag (.fields c.val)) ∧ (s.port c).link ≠ .refused)
    ∧ (∃ (s : State) (tag : Byte), Takes s (.portEnable tag (.fields 4)) ∧ Takes s (.portDisable tag (.fields 4))
      ∧ Takes s (.linkRestart tag (.fields 4)) ∧ Takes s (.portPreferenceList tag (.fields ⟨4, [1]⟩)))
    ∧ (∃ (s : State) (tag : Byte) (c : Cam) (codes : List Nat) (ms : List CamMode),
      Takes s (.portPreferenceList tag (.fields ⟨c.val, codes⟩)) ∧ preferenceOf? codes = some ms
        ∧ ((s.port c).link ≠ .training ∧ (s.port c).link ≠ .streaming ∨ ∃ m ∈ ms, (s.port c).mode = some m))
    ∧ (∃ (s : State) (tag : Byte) (c : Cam) (codes : List Nat) (ms : List CamMode) (m old : CamMode) (rest : List CamMode),
      Takes s (.portPreferenceList tag (.fields ⟨c.val, codes⟩)) ∧ preferenceOf? codes = some ms
        ∧ (s.port c).link = .streaming ∧ (s.port c).mode = some old ∧ old ∉ ms
        ∧ ms.filter (· ∈ (s.port c).announceList) = m :: rest)
    ∧ (∃ (s : State) (tag : Byte) (c : Cam) (codes : List Nat) (ms : List CamMode) (old : CamMode),
      Takes s (.portPreferenceList tag (.fields ⟨c.val, codes⟩)) ∧ preferenceOf? codes = some ms
        ∧ (s.port c).link = .training ∧ (s.port c).mode = some old ∧ old ∉ ms
        ∧ ms.filter (· ∈ (s.port c).announceList) = [])
    ∧ ∃ (s : State) (tag : Byte) (c : Cam) (codes : List Nat), Takes s (.portPreferenceList tag (.fields ⟨c.val, codes⟩))
      ∧ (codes = [] ∨ ¬codes.Nodup ∨ ∃ n ∈ codes, n = 0 ∨ 7 ≤ n) :=
  ⟨⟨State.reset, 7, 3, takes_reset _, by decide⟩, ⟨busy, 7, 0, takes_busy _, rfl, by decide⟩,
    ⟨busy, 7, 3, takes_busy _, rfl, busy_hazard⟩, ⟨busy, 7, 0, takes_busy _, by decide⟩,
    ⟨busy, 7, takes_busy _, takes_busy _, takes_busy _, takes_busy _⟩,
    ⟨busy, 7, 0, [5, 1], [.m5, .m1], takes_busy _, by decide, .inr ⟨.m5, by decide, rfl⟩⟩,
    ⟨busy, 7, 0, [6, 1], [.m6, .m1], .m6, .m5, [], takes_busy _, by decide, rfl, rfl, by decide, by decide⟩,
    ⟨atPort training .absent, 7, 0, [1], [.m1], .m5, ⟨rfl, .inl rfl, rfl⟩, by decide, rfl, rfl, by decide, by decide⟩,
    ⟨busy, 7, 0, [6, 7], takes_busy _, .inr (.inr ⟨7, by decide, .inr (by decide)⟩)⟩⟩

theorem witness_ParametersAreClampedAndStored :
    ∃ (s : State) (tag : Byte) (p q : ToneLimits), Takes s (.setParametersToneLimits tag (.fields p))
      ∧ q = ⟨min 30 (max 2 p.satFrames), min 15 (max 1 p.exposureSettle)⟩ :=
  ⟨busy, 7, ⟨1, 16⟩, ⟨2, 15⟩, takes_busy _, by decide⟩

theorem witness_StoreParametersAgeTheTables :
    ∃ (s : State) (tag : Byte) (p q : StoreParams), Takes s (.setParametersStore tag (.fields p))
      ∧ q = ⟨min 8 (max 1 p.holdLimit), min 50 (max 1 p.degradeLimit), min 15 (max 2 p.freezeLimit)⟩ :=
  ⟨busy, 7, ⟨0, 51, 2⟩, ⟨1, 50, 2⟩, takes_busy _, by decide⟩

theorem witness_ToneAndClarityParameters :
    (∃ (s : State) (tag : Byte) (f : ToneFields) (c : Cam) (target black : Nat), Takes s (.setParametersTone tag (.fields f))
      ∧ f.camera = c.val ∧ target = min 224 (max 32 f.target)
      ∧ black = (if 14 < f.black then 14 else f.black - f.black % 2))
    ∧ (∃ (s : State) (tag : Byte) (f : ToneFields), Takes s (.setParametersTone tag (.fields f)) ∧ 4 ≤ f.camera)
    ∧ (∃ (s : State) (tag : Byte) (f : ClarityFields) (c : Cam) (mode : ClarityMode),
      Takes s (.setParametersClarity tag (.fields f)) ∧ f.camera = c.val ∧ f.mode = some .paired
        ∧ ∃ p : Cam, f.partner = p.val ∧ p ≠ c ∧ mode = .paired p)
    ∧ ∃ (s : State) (tag : Byte) (f : ClarityFields), Takes s (.setParametersClarity tag (.fields f))
      ∧ f.mode = some .paired ∧ f.partner = f.camera :=
  ⟨⟨busy, 7, ⟨3, 225, 15⟩, 3, 224, 14, takes_busy _, rfl, by decide, by decide⟩, ⟨busy, 7, ⟨4, 110, 4⟩, takes_busy _, by decide⟩,
    ⟨busy, 7, ⟨0, some .paired, 3, 16⟩, 0, .paired 3, takes_busy _, rfl, rfl, 3, rfl, by decide, rfl⟩,
    ⟨busy, 7, ⟨2, some .paired, 2, 6⟩, takes_busy _, rfl, rfl⟩⟩

theorem witness_WindowSetStoresAPendingChange :
    (∃ (s : State) (tag : Byte) (f : WindowFields) (w : WindowId) (d : WindowDef), s.WindowLaw
      ∧ Takes s (.windowSet tag (.fields f)) ∧ windowLengthOk f = true ∧ f.id = w.val ∧ windowDefOf? f = some d)
    ∧ (∃ (s : State) (tag : Byte) (f : WindowFields), Takes s (.windowSet tag (.fields f)) ∧ f.role = some .watch
      ∧ f.watch = none)
    ∧ ∃ (s : State) (tag : Byte) (f : WindowFields), Takes s (.windowSet tag (.fields f))
      ∧ ¬(f.role = some .watch ∧ f.watch = none ∨ f.role ≠ none ∧ f.role ≠ some .watch ∧ f.watch ≠ none) ∧ 4 < f.step :=
  ⟨⟨busy, 7, ⟨15, 0, 0, 0, 256, 256, 4, some .watch, some (15, 0xFF)⟩, 15, ⟨0, 0, 0, 256, 256, 4, .watch 15 0xFF⟩, busy_window,
      takes_busy _, rfl, rfl, by decide⟩,
    ⟨busy, 7, ⟨15, 0, 0, 0, 256, 256, 4, some .watch, none⟩, takes_busy _, rfl, rfl⟩,
    ⟨busy, 7, ⟨15, 0, 0, 0, 256, 256, 5, some .tone, none⟩, takes_busy _, by decide, by decide⟩⟩

theorem witness_WindowDropAndSeamSet :
    (∃ (s : State) (tag : Byte) (w : WindowId), Takes s (.windowDrop tag (.fields w.val)) ∧ (s.window w).active.isSome)
    ∧ (∃ (s : State) (tag : Byte) (f : SeamFields) (k : Fin 4) (a b : WindowId), Takes s (.seamSet tag (.fields f))
      ∧ f.pair = k.val ∧ f.windowA = a.val ∧ f.windowB = b.val ∧ a ≠ b)
    ∧ ∃ (s : State) (tag : Byte) (f : SeamFields), Takes s (.seamSet tag (.fields f)) ∧ f.windowA = f.windowB :=
  ⟨⟨busy, 7, 12, takes_busy _, rfl⟩, ⟨busy, 7, ⟨3, 15, 0, true⟩, 3, 15, 0, takes_busy _, rfl, rfl, rfl, by decide⟩,
    ⟨busy, 7, ⟨0, 5, 5, true⟩, takes_busy _, rfl⟩⟩

/-- The busy part with the hold timer of its zone run out. -/
def holdDue : State :=
  { busy with
    zones := ⟨put busy.zones.zones 12 (some ⟨.active, 2, some 0, List.replicate 16 70, some 11, true⟩), true, [12], false, []⟩ }

theorem holdDue_hazard : holdDue.HazardLaw := hazardLaw_of (by decide) (by decide) (by decide) (by decide)

theorem witness_HoldTimerExpiry :
    (∃ (s : State) (w : WindowId) (z : Zone), s.held = false ∧ s.zone w = some z ∧ z.state = .active ∧ z.hold = some 0)
    ∧ (∃ (s : State) (w : WindowId) (z : Zone), s.held = false ∧ s.zone w = some z ∧ z.state = .active ∧ z.hold = some 0
      ∧ s.HazardLaw)
    ∧ ∃ (s : State) (w : WindowId), s.held = false ∧ ∀ z, s.zone w = some z → z.hold ≠ some 0 :=
  ⟨⟨{ busy with zones := { busy.zones with zones := put busy.zones.zones 12 (some ⟨.active, 2, some 0, [], some 11, true⟩) } }, 12,
      _, rfl, rfl, rfl, rfl⟩,
    ⟨holdDue, 12, ⟨.active, 2, some 0, List.replicate 16 70, some 11, true⟩, rfl, rfl, rfl, rfl, holdDue_hazard⟩, ⟨busy, 12, rfl, by rintro _ ⟨⟩; decide⟩⟩

theorem witness_FramesInARowChangeTheState :
    (∃ (s t : State) (c : Cam) (number : Byte) (w : WindowId), s.held = false ∧ (s.port c).link = .streaming
      ∧ (s.port c).phase = .opened ∧ exec (.frameTrailerArrival c number (linkCheck [number])) s = .next t ∧ (t.port c).link = .streaming
      ∧ (s.window w).serves c = true)
    ∧ (∃ (cl : Clarity) (lim : ClarityLimits), cl.state = .clear ∧ cl.low = 0 ∧ 1 ≤ lim.obscureFrames)
    ∧ (∃ (cl : Clarity) (lim : ClarityLimits), cl.state = .obscured ∧ cl.clear = 0 ∧ 1 ≤ lim.clearFrames)
    ∧ (∃ (z : Zone) (p : ZoneParams), z.state = .idle ∧ z.count = 0 ∧ 1 ≤ p.actFrames)
    ∧ (∃ (z : Zone) (p : ZoneParams), z.state = .active ∧ z.count = 0 ∧ 1 ≤ p.actFrames)
    ∧ (∃ (z : Zone) (p : ZoneParams), z.state = .active ∧ z.count + 1 < p.actFrames)
    ∧ ∃ (z : Zone) (p : ZoneParams), z.state = .active ∧ p.actFrames ≤ z.count + 1 :=
  ⟨⟨busy, _, 0, 41, 12, rfl, rfl, rfl, rfl, rfl, rfl⟩, ⟨.initial, Config.clarityLimitDefaults, rfl, rfl, by decide⟩,
    ⟨{ Clarity.initial with state := .obscured }, Config.clarityLimitDefaults, rfl, rfl, by decide⟩,
    ⟨.initial, ⟨2, 1, 100⟩, rfl, rfl, by decide⟩, ⟨⟨.active, 0, some 9, [], none, true⟩, ⟨2, 1, 100⟩, rfl, rfl, by decide⟩,
    ⟨⟨.active, 0, some 9, [], none, true⟩, ⟨2, 2, 100⟩, rfl, by decide⟩,
    ⟨⟨.active, 1, some 9, [], none, true⟩, ⟨2, 2, 100⟩, rfl, by decide⟩⟩

/-- 7.2, closes 105 to 107: an active frame at ACT_FRAMES restarts the hold timer, a quiet one sets the count to 0, and a single
active frame after it does not restart the timer. -/
theorem test_hold_restarts :
    (⟨.active, 2, some 1467, [], some 12, true⟩ : Zone).judge ⟨2, 2, 1500⟩ true = ⟨.active, 2, some 1500, [], some 12, true⟩
      ∧ (⟨.active, 2, some 1467, [], some 12, true⟩ : Zone).judge ⟨2, 2, 1500⟩ false = ⟨.active, 0, some 1467, [], some 12, true⟩
      ∧ (⟨.active, 0, some 1434, [], some 12, true⟩ : Zone).judge ⟨2, 2, 1500⟩ true = ⟨.active, 1, some 1434, [], some 12, true⟩ := by
  decide

/-- A window of camera 0 that measures columns 0 to `xe` − 1 of rows 0 to 15, with sums that do not divide evenly. -/
def measured (xe : Nat) (role : Role) : Window :=
  ⟨some ⟨0, 0, 0, 6, 16, 1, role⟩, .none, true, ⟨257, 2, 7, 4, List.replicate 16 20, List.replicate 16 3⟩,
    some ⟨0, xe, 0, 16⟩, true, none⟩

/-- R96: 15 columns are SMALL whatever the result map holds; at 16, an errored segment of the rows is ERRORED and one below them
is not; the quotients are rounded down. Rectangle 0, 0, 6, 256 spans 15 columns in modes 5 and 6 and 18 in mode 4. -/
theorem test_verdict :
    ((measured 15 .tone).closeFrame 0 7 5 [false]).result = some ⟨0, 7, 5, .small, true⟩
      ∧ ((measured 16 .tone).closeFrame 0 7 5 [false]).result = some ⟨0, 7, 5, .errored, true⟩
      ∧ ((measured 16 .tone).closeFrame 0 7 5 [true, false]).result
        = some ⟨0, 7, 5, .valid ⟨257, 2, 128, 7, 4, 1, List.replicate 16 6⟩, true⟩
      ∧ (rangesOf ⟨0, 0, 0, 6, 256, 1, .tone⟩ .m5).nw = 15 ∧ (rangesOf ⟨0, 0, 0, 6, 256, 1, .tone⟩ .m4).nw = 18 := by decide

/-- R94: columns 0, 2 and 4 of five with step 2: two contrast points, falling and rising, and none at the last column. -/
theorem test_contrast :
    ((Accumulators.zero).addRow ⟨0, 5, 0, 16⟩ 2 0 (fun x => if x = 2 then 10 else 90)).contrastSum = 160
      ∧ ((Accumulators.zero).addRow ⟨0, 5, 0, 16⟩ 2 0 (fun x => if x = 2 then 10 else 90)).contrastCount = 2 := by decide

/-- A window with a VALID result of `count` points of luminance `mean`. -/
def judged (mean count : Nat) (role : Role) : Window :=
  { measured 16 role with result := some ⟨0, 7, 5, .valid ⟨mean * count, count, mean, 0, 1, 0, []⟩, false⟩ }

/-- R102: 4000 points count ten times as much as 400; a WATCH window does not take part. -/
theorem test_tone_mean :
    toneMean? (put (put (put (Vector.replicate 16 Window.initial) 2 (judged 100 4000 .tone)) 15 (judged 60 400 .tone)) 3
        (judged 200 900 (.watch 4 0))) 0 = some 96
      ∧ toneMean? (put (Vector.replicate 16 Window.initial) 3 (judged 200 900 (.watch 4 0))) 0 = none := by decide

theorem witness_RowsAreMeasured :
    (∃ step : Nat, 1 ≤ step)
      ∧ (∃ (r : PixelRanges) (y : Nat) (acc : Accumulators), r.ya ≤ y ∧ acc.blockSums.length = 16 ∧ acc.blockCounts.length = 16)
      ∧ (∃ (w : Window) (c : Cam) (d : WindowDef) (r : PixelRanges), w.active = some d ∧ w.ranges = some r
        ∧ w.measuring = true ∧ d.camera = c)
      ∧ (∃ (w : Window) (c : Cam) (d : WindowDef) (r : PixelRanges), w.active = some d ∧ w.ranges = some r
        ∧ (w.measuring = false ∨ d.camera ≠ c))
      ∧ (∃ r : PixelRanges, r.xe - r.xa < 16 ∨ r.ye - r.ya < 16)
      ∧ (∃ (r : PixelRanges) (map : List Bool), 16 ≤ r.xe - r.xa ∧ 16 ≤ r.ye - r.ya
        ∧ ∃ k, r.ya / 16 ≤ k ∧ k ≤ (r.ye - 1) / 16 ∧ map[k]? ≠ some true)
      ∧ (∃ (r : PixelRanges) (map : List Bool), 16 ≤ r.xe - r.xa ∧ 16 ≤ r.ye - r.ya
        ∧ ¬∃ k, r.ya / 16 ≤ k ∧ k ≤ (r.ye - 1) / 16 ∧ map[k]? ≠ some true)
      ∧ (∃ (w : Window) (d : WindowDef), w.active = some d ∧ d.camera = 0 ∧ d.role = .tone ∧ w.valid? ≠ none) :=
  ⟨⟨1, by decide⟩, ⟨⟨160, 320, 200, 300⟩, 200, .zero, by decide, by decide, by decide⟩,
    ⟨measured 16 .tone, 0, _, _, rfl, rfl, rfl, rfl⟩, ⟨measured 16 .tone, 1, _, _, rfl, rfl, .inr (by decide)⟩,
    ⟨⟨0, 15, 0, 16⟩, by decide⟩, ⟨⟨0, 16, 0, 16⟩, [false], by decide, by decide, 0, by decide, by decide, by decide⟩,
    ⟨⟨0, 16, 0, 16⟩, [true, false], by decide, by decide, fun ⟨k, _, h, e⟩ => by
      obtain rfl : k = 0 := Nat.le_zero.mp h
      exact e rfl⟩,
    judged 100 4000 .tone, _, rfl, rfl, rfl, by decide⟩

/-- R95: where a range has fewer than four columns each goes to block column 3. -/
theorem test_narrow_blocks : blockPart 40 2 40 = 3 ∧ blockPart 40 2 41 = 3 ∧ blockPart 40 4 40 = 0 ∧ blockPart 40 7 46 = 3 := by
  decide

/-- The busy part with grid 4 LOADING, 2 columns by 2 rows. -/
def loading (nodes : List (Option Node)) : State :=
  { busy with grids := ⟨put busy.grids.grids 4 (.loading 2 2 nodes), 2035⟩ }

theorem witness_GridBeginByItsChecks :
    ∃ (s : State) (tag : Byte) (g : Fin 16), Takes s (.gridBegin tag (.fields ⟨g.val, 17, 17⟩)) := ⟨busy, 7, 15, takes_busy _⟩

theorem witness_GridNodesByTheirChecks :
    (∃ (s : State) (tag : Byte) (g : Fin 16) (first cols rows : Nat) (new : List Node) (nodes : List (Option Node)),
      Takes s (.gridNodes tag (.fields ⟨g.val, first, new⟩)) ∧ 1 ≤ new.length ∧ new.length ≤ 40
        ∧ s.grid g = .loading cols rows nodes ∧ nodes.length = cols * rows ∧ first + new.length ≤ cols * rows)
    ∧ (∃ (s : State) (tag : Byte) (f : GridNodesFields), Takes s (.gridNodes tag (.fields f)) ∧ f.id = 16 ∧ f.nodes = [])
    ∧ (∃ (s : State) (tag : Byte) (f : GridNodesFields), Takes s (.gridNodes tag (.fields f)) ∧ 16 ≤ f.id ∧ 1 ≤ f.nodes.length
      ∧ f.nodes.length ≤ 40)
    ∧ (∃ (s : State) (tag : Byte) (g : Fin 16) (first : Nat) (new : List Node),
      Takes s (.gridNodes tag (.fields ⟨g.val, first, new⟩)) ∧ 1 ≤ new.length ∧ new.length ≤ 40
        ∧ (s.grid g).state ≠ .loading)
    ∧ ∃ (s : State) (tag : Byte) (g : Fin 16) (first : Nat) (new : List Node),
      Takes s (.gridNodes tag (.fields ⟨g.val, first, new⟩)) ∧ 1 ≤ new.length ∧ new.length ≤ 40
        ∧ (s.grid g).state = .loading ∧ (s.grid g).size < first + new.length :=
  ⟨⟨loading (List.replicate 4 none), 7, 4, 3, 2, 2, [⟨0, 0, false⟩], _, ⟨rfl, .inl rfl, rfl⟩, by decide, by decide, rfl,
      by decide, by decide⟩,
    ⟨busy, 7, ⟨16, 0, []⟩, takes_busy _, rfl, rfl⟩, ⟨busy, 7, ⟨16, 0, [⟨0, 0, false⟩]⟩, takes_busy _, by decide, by decide, by decide⟩,
    ⟨busy, 7, 3, 0, [⟨0, 0, false⟩], takes_busy _, by decide, by decide, by decide⟩,
    ⟨loading (List.replicate 4 none), 7, 4, 4, [⟨0, 0, false⟩], ⟨rfl, .inl rfl, rfl⟩, by decide, by decide, rfl, by decide⟩⟩

theorem witness_GridEndAndDrop :
    (∃ (s : State) (tag : Byte) (g : Fin 16) (cols rows : Nat) (nodes : List Node), Takes s (.gridEnd tag (.fields g.val))
      ∧ s.grid g = .loading cols rows (nodes.map some))
    ∧ (∃ (s : State) (tag : Byte) (g : Fin 16), Takes s (.gridEnd tag (.fields g.val))
      ∧ ∀ (cols rows : Nat) (nodes : List Node), s.grid g ≠ .loading cols rows (nodes.map some))
    ∧ ∃ (s : State) (tag : Byte) (g : Fin 16), Takes s (.gridDrop tag (.fields g.val)) :=
  ⟨⟨loading (List.map some (List.replicate 4 ⟨0, 0, true⟩)), 7, 4, 2, 2, List.replicate 4 ⟨0, 0, true⟩, ⟨rfl, .inl rfl, rfl⟩, rfl⟩,
    ⟨busy, 7, 3, takes_busy _, nofun⟩, ⟨busy, 7, 3, takes_busy _⟩⟩

theorem witness_PaneDropAndViewSet :
    (∃ (s : State) (tag : Byte) (f : PaneDropFields) (v : ViewId) (k : Fin 6), Takes s (.paneDrop tag (.fields f))
      ∧ f.view = v.val ∧ f.slot = k.val)
    ∧ (∃ (s : State) (tag : Byte) (f : PaneDropFields), Takes s (.paneDrop tag (.fields f)) ∧ 6 ≤ f.slot)
    ∧ (∃ (s : State) (tag : Byte) (f : ViewSetFields) (v : ViewId) (label : Fin 32), Takes s (.viewSet tag (.fields f))
      ∧ f.view = v.val ∧ f.label = label.val)
    ∧ ∃ (s : State) (tag : Byte) (f : ViewSetFields), Takes s (.viewSet tag (.fields f)) ∧ 8 ≤ f.view :=
  ⟨⟨busy, 7, ⟨0, 0⟩, 0, 0, takes_busy _, rfl, rfl⟩, ⟨busy, 7, ⟨0, 6⟩, takes_busy _, by decide⟩,
    ⟨busy, 7, ⟨7, ⟨0, 0, 0⟩, 31⟩, 7, 31, takes_busy _, rfl, rfl⟩, ⟨busy, 7, ⟨8, ⟨0, 0, 0⟩, 31⟩, takes_busy _, by decide⟩⟩

theorem witness_MapAndListEdits :
    (∃ (s : State) (tag : Byte) (pairs : List (Fin 8 × ViewId)),
      Takes s (.viewMapSet tag (.fields (pairs.map fun p => (p.1.val, p.2.val)))) ∧ pairs ≠ [] ∧ (pairs.map (·.1)).Nodup)
    ∧ (∃ (s : State) (tag : Byte) (body : List (Nat × Nat)), Takes s (.viewMapSet tag (.fields body))
      ∧ (body = [] ∨ 8 < body.length))
    ∧ (∃ (s : State) (tag : Byte) (body : List (Nat × Nat)), Takes s (.viewMapSet tag (.fields body)) ∧ 1 ≤ body.length
      ∧ body.length ≤ 8 ∧ ((∃ p ∈ body, 8 ≤ p.1 ∨ 8 ≤ p.2) ∨ ¬(body.map (·.1)).Nodup))
    ∧ ∃ (s : State) (tag : Byte) (l : Fin 16) (shapes : List (Fin 64)),
      Takes s (.setOverlayList tag (.fields ⟨l.val, shapes.map Fin.val⟩)) ∧ shapes.length ≤ 12 :=
  ⟨⟨busy, 7, [(7, 0), (0, 7)], takes_busy _, by decide, by decide⟩, ⟨busy, 7, [], takes_busy _, .inl rfl⟩,
    ⟨busy, 7, [(1, 1), (1, 2)], takes_busy _, by decide, by decide, .inr (by decide)⟩,
    ⟨busy, 7, 15, [5], takes_busy _, by decide⟩⟩

theorem witness_PaneSetByItsChecks :
    (∃ (s : State) (tag : Byte) (f : PaneSetFields) (geo : Geometry) (dress : Dress), Takes s (.paneSet tag (.fields f))
      ∧ f.geometry = some geo ∧ geometryInRange geo = true ∧ f.primary = some ⟨3, 15⟩ ∧ f.alternate = some (some ⟨2, 0⟩)
      ∧ f.dress = some ⟨dress.list.map Fin.val, dress.mirror, dress.border, dress.label.val⟩ ∧ dress.list ≠ some 0
      ∧ look (s.editView 0).panes 0 = some pane)
    ∧ ∀ f : PaneSetFields, f ∈ ([⟨8, 0, none, none, none, none⟩, ⟨0, 6, none, none, none, none⟩,
        ⟨0, 0, some ⟨960, 536, 72, 64⟩, none, none, none⟩, ⟨0, 0, none, some ⟨4, 0⟩, none, none⟩,
        ⟨0, 0, none, none, some (some ⟨0, 16⟩), none⟩, ⟨0, 0, none, none, none, some ⟨some 16, false, ⟨0, 0, 0⟩, 0⟩⟩,
        ⟨0, 0, none, none, none, some ⟨some 0, false, ⟨0, 0, 0⟩, 0⟩⟩,
        ⟨0, 0, none, none, none, some ⟨none, false, ⟨0, 0, 0⟩, 32⟩⟩] : List PaneSetFields) →
      Takes busy (.paneSet 7 (.fields f)) :=
  ⟨⟨busy, 7, ⟨0, 0, some ⟨960, 536, 64, 64⟩, some ⟨3, 15⟩, some (some ⟨2, 0⟩), some ⟨some 15, true, ⟨0, 0, 0⟩, 31⟩⟩,
      ⟨960, 536, 64, 64⟩, ⟨some 15, true, ⟨0, 0, 0⟩, 31⟩, takes_busy _, rfl, by decide, rfl, rfl, rfl, by decide, rfl⟩,
    fun _ _ => takes_busy _⟩

/-- The status a request is answered with. -/
def statusOf (i : Instr) (s : State) : Option Status :=
  match exec i s with
  | .next t => ((t.control.sending.toList ++ t.control.replies.map TxFrame.reply).filterMap fun f => match f with
      | .reply r => some r.status
      | .report _ => none).head?
  | _ => none

/-- R62's checks: one camera twice BAD_VALUE, an absent slot without a source BAD_STATE, a carried grid that is EMPTY BAD_STATE, a width
512 under 4 columns GRID_FIT, an overlap OVERLAP, and a present pane's geometry moved OK. -/
theorem test_pane_set_checks :
    statusOf (.paneSet 7 (.fields ⟨0, 0, none, none, some (some ⟨0, 3⟩), none⟩)) busy = some .badValue
      ∧ statusOf (.paneSet 7 (.fields ⟨0, 1, some ⟨512, 0, 512, 288⟩, none, none, none⟩)) busy = some .badState
      ∧ statusOf (.paneSet 7 (.fields ⟨0, 0, none, some ⟨1, 4⟩, none, none⟩)) busy = some .badState
      ∧ statusOf (.paneSet 7 (.fields ⟨0, 0, none, some ⟨1, 4⟩, none, none⟩))
          { busy with grids := ⟨put busy.grids.grids 4 (.ready 4 3 []), 2039⟩ } = some .gridFit
      ∧ statusOf (.paneSet 7 (.fields ⟨0, 1, some ⟨0, 0, 512, 288⟩, some ⟨1, 3⟩, none, none⟩)) busy = some .overlap
      ∧ statusOf (.paneSet 7 (.fields ⟨0, 0, some ⟨512, 288, 512, 288⟩, none, none, none⟩)) busy = some .ok := by decide

theorem witness_ApplyTables : ∃ (s : State) (tag : Byte), Takes s (.applyTables tag (.fields ())) := ⟨busy, 7, takes_busy _⟩

theorem witness_OutputFrameStart : ∃ s : State, s.held = false := ⟨busy, rfl⟩

theorem witness_SourceChoiceFollowsRanks :
    ∃ (s t : State) (k : Fin 6) (p : Pane), s.held = false ∧ exec .outputFrameStart s = .next t
      ∧ look (look t.views.live.views t.selector.shown).panes k = some p :=
  ⟨busy, _, 0, pane, rfl, rfl, rfl⟩

/-- The part with the table of camera 0 as latched: segment 0 STALE and segment 1 FRESH, in mode 5, with one stored segment. -/
def latched (health : Health) : State :=
  let s := State.reset.setStore 0 { CamStore.initial with
    latch := ⟨[⟨.stale, 4, some 10⟩, ⟨.fresh, 0, some 11⟩], some .m5, Vector.replicate 50 .bank0,
      [⟨2, [[⟨70, 128, 128⟩]]⟩], health⟩ }
  { s with
    grids := ⟨put s.grids.grids 3 (.ready 2 2 (List.replicate 4 ⟨0, 2540, false⟩)), 2044⟩
    display := { s.display with latch := ⟨.run, 0, .noData, false, []⟩ } }

theorem witness_PatternsOfTheOutputFrame :
    (∃ (s : State) (c : Cam) (m : CamMode) (v : Nat) (e : SegEntry),
      (s.store c).latch.table[decidingRow (sourcePos v (modeHeight m)) / 16]? = some e
        ∧ (e.state = .empty ∨ e.state = .stale))
    ∧ (∃ (s : State), s.display.latch.mode = .standby) ∧ (∃ (s : State), s.display.latch.mode = .config)
    ∧ (∃ x y : Nat, 496 ≤ x ∧ x < 528 ∧ 284 ≤ y ∧ y < 316) ∧ (∃ x y : Nat, x < 496 ∨ 528 ≤ x ∨ y < 284 ∨ 316 ≤ y)
    ∧ (∃ (p : Pane) (px py : Nat), px < 2 ∨ p.geometry.w ≤ px + 2 ∨ py < 2 ∨ p.geometry.h ≤ py + 2)
    ∧ (∃ (p : Pane) (px py : Nat), ¬(px < 2 ∨ p.geometry.w ≤ px + 2 ∨ py < 2 ∨ p.geometry.h ≤ py + 2))
    ∧ (∃ (s : State) (p : Pane), (s.store p.primary.camera).latch.health = .frozen)
    ∧ (∃ (s : State) (p : Pane), (s.store p.primary.camera).latch.health ≠ .frozen)
    ∧ (∃ (view : View) (k : Fin 6), look view.panes k = none) ∧ (∃ (view : View) (k : Fin 6) (p : Pane), look view.panes k = some p)
    ∧ ∃ s : State, s.display.latch.mode = .run :=
  ⟨⟨latched .degraded, 0, .m5, 0, ⟨.stale, 4, some 10⟩, rfl, .inr rfl⟩,
    ⟨{ State.reset with display := { State.reset.display with latch := ⟨.standby, 0, .noData, false, []⟩ } }, rfl⟩, ⟨State.reset, rfl⟩,
    ⟨527, 284, by decide⟩, ⟨528, 284, by decide⟩, ⟨pane, 510, 2, by decide⟩, ⟨pane, 509, 285, by decide⟩,
    ⟨latched .frozen, pane, rfl⟩, ⟨latched .good, pane, by decide⟩, ⟨look tables.views 0, 1, rfl⟩, ⟨look tables.views 0, 0, pane, rfl⟩,
    latched .good, rfl⟩

theorem witness_PixelArithmetic :
    (∃ (s : State) (p : Pane) (px py cols rows : Nat) (nodes : List Node) (m : CamMode) (a b c d : Node),
      let i := py / (p.geometry.h / (rows - 1)) * cols
        + (if p.mirror then p.geometry.w - 1 - px else px) / (p.geometry.w / (cols - 1))
      s.grid p.primary.grid = .ready cols rows nodes ∧ (s.store p.primary.camera).latch.mode = some m
        ∧ nodes[i]? = some a ∧ nodes[i + 1]? = some b ∧ nodes[i + cols]? = some c ∧ nodes[i + cols + 1]? = some d)
    ∧ (∃ (s : State) (cam : Cam) (m : CamMode) (v : Nat) (e : SegEntry),
      let sy := sourcePos v (modeHeight m)
      (s.store cam).latch.table[(if sy.a < 8 then sy.p0 else sy.p1) / 16]? = some e ∧ (e.state = .fresh ∨ e.state = .held)
        ∧ (s.store cam).latch.table[sy.p0 / 16]? = some ⟨.stale, 4, some 10⟩)
    ∧ (∃ (l : CamLatch) (x row : Nat) (body : SegmentBody) (pixels : List Pixel) (p : Pixel),
      readCell l.contents (bankKey (row / 16) (shownBank l.shown (row / 16))) = some body ∧ body[row % 16]? = some pixels
        ∧ pixels[x]? = some p)
    ∧ (∃ (x y : SourcePos) (a b c d : Byte) (lo hi : Nat), x.a ≤ 15 ∧ y.a ≤ 15 ∧ lo ≤ a.toNat ∧ lo ≤ b.toNat ∧ lo ≤ c.toNat
      ∧ lo ≤ d.toNat ∧ a.toNat ≤ hi ∧ b.toNat ≤ hi ∧ c.toNat ≤ hi ∧ d.toNat ≤ hi)
    ∧ (∃ (p : Pixel) (black : Nat), p.y.toNat ≤ black) ∧ (∃ (p : Pixel) (black : Nat), black + 64 ≤ p.y.toNat)
    ∧ (∃ sh : Shape, sh.form = .polyline 2) ∧ (∃ sh : Shape, sh.form = .polygon)
    ∧ (∃ (sh : Shape) (p : Point), sh.form = .icon 31 ∧ sh.points = [p])
    ∧ (∃ (p : CellPlace) (a b c d lo hi : Nat), p.fx < p.cw ∧ p.fy < p.ch ∧ lo ≤ a ∧ lo ≤ b ∧ lo ≤ c ∧ lo ≤ d ∧ a ≤ hi ∧ b ≤ hi
      ∧ c ≤ hi ∧ d ≤ hi)
    ∧ (∃ (u : Nat) (m : CamMode) (size : Nat), u ≤ 65535 ∧ (size = modeWidth m ∨ size = modeHeight m))
    ∧ (∃ a b c d : Nat, a < c ∧ b < d) ∧ ∃ alpha : Nat, alpha ≤ 16 :=
  ⟨⟨latched .good, { pane with mirror := true }, 511, 287, 2, 2, _, .m5, _, _, _, _, rfl, rfl, rfl, rfl, rfl, rfl⟩,
    ⟨latched .good, 0, .m5, 2540, ⟨.fresh, 0, some 11⟩, rfl, .inl rfl, rfl⟩,
    ⟨((latched .good).store 0).latch, 0, 16, [[⟨70, 128, 128⟩]], [⟨70, 128, 128⟩], ⟨70, 128, 128⟩, rfl, rfl, rfl⟩,
    ⟨⟨0, 1, 15⟩, ⟨0, 1, 15⟩, 0, 255, 7, 9, 0, 255, by decide⟩, ⟨⟨4, 128, 128⟩, 4, by decide⟩, ⟨⟨68, 128, 128⟩, 4, by decide⟩,
    ⟨⟨.polyline 2, [⟨10, 20⟩, ⟨30, 20⟩], ⟨210, 60, 150⟩, 16, [.always], false⟩, rfl⟩,
    ⟨⟨.polygon, [⟨40, 100⟩, ⟨120, 100⟩, ⟨120, 160⟩], ⟨210, 60, 150⟩, 16, [.always], true⟩, rfl⟩,
    ⟨⟨.icon 31, [⟨40, 100⟩], ⟨210, 60, 150⟩, 16, [], false⟩, ⟨40, 100⟩, rfl, rfl⟩,
    ⟨⟨1, 1, 127, 95, 128, 96⟩, 7, 8, 9, 10, 7, 10, by decide⟩, ⟨65535, .m1, 1280, by decide, .inl rfl⟩, ⟨0, 0, 1, 1, by decide⟩,
    ⟨16, by decide⟩⟩

theorem witness_DisplaySense :
    (∃ (s : State) (level : Bool), s.held = false ∧ level ≠ s.display.level)
    ∧ (∃ s : State, s.held = false ∧ s.display.senseTimer = some 0)
    ∧ ∃ s : State, s.held = false ∧ s.display.senseTimer ≠ some 0 :=
  ⟨⟨busy, true, rfl, by decide⟩, ⟨{ busy with display := { busy.display with level := true, senseTimer := some 0 } }, rfl, rfl⟩,
    ⟨{ busy with display := { busy.display with level := true, senseTimer := some 50 } }, rfl, by decide⟩⟩

theorem witness_VehicleRecordIsTaken :
    (∃ (s : State) (tag : Byte) (record : List Byte) (r : Vehicle) (clamped : Bool), Takes s (.vehicleState tag record)
      ∧ readVehicle record = .taken r clamped)
    ∧ (∃ (s : State) (tag : Byte) (record : List Byte), Takes s (.vehicleState tag record) ∧ readVehicle record = .badValue)
    ∧ ∃ (s : State) (tag : Byte) (record : List Byte), Takes s (.vehicleState tag record) ∧ readVehicle record = .badLength :=
  ⟨⟨busy, 7, [0x07, 0xFB, 0x02, 0x01], ⟨some 250, some .reverse, some .on, none, none⟩, true, takes_busy _, by decide⟩,
    ⟨busy, 7, [0x20], takes_busy _, by decide⟩, ⟨busy, 7, [], takes_busy _, by decide⟩⟩

theorem witness_VehicleRecordLayout :
    (∃ b : Byte, 4 ≤ b.toNat) ∧ (∃ b : Byte, 2 ≤ b.toNat) ∧ (∃ presence : Byte, 32 ≤ presence.toNat)
      ∧ ∃ (presence : Byte) (rest : List Byte), presence.toNat < 32
        ∧ rest.length ≠ ([0, 1, 2, 3, 4].filter fun i => presence.getLsbD i).length :=
  ⟨⟨4, by decide⟩, ⟨2, by decide⟩, ⟨32, by decide⟩, 31, [0, 0, 0, 0], by decide, by decide⟩

/-- The busy part with fresh vehicle data, a running turn dwell and a force. -/
def driving : State :=
  { busy with selector := { busy.selector with
      fresh := true, timeout := some 0, turnDwell := some 0, dwell := some 0, force := some ⟨3, 7, some 0⟩ } }

theorem witness_SelectorTimersAndParameters :
    (∃ s : State, s.held = false ∧ s.selector.timeout = some 0 ∧ s.selector.turnDwell = some 0 ∧ s.selector.dwell = some 0)
    ∧ (∃ s : State, s.held = false ∧ s.selector.timeout ≠ some 0 ∧ s.selector.turnDwell ≠ some 0 ∧ s.selector.dwell ≠ some 0)
    ∧ ∃ (s : State) (tag : Byte) (p : SituationParams), Takes s (.setParametersSituation tag (.fields p)) :=
  ⟨⟨driving, rfl, rfl, rfl, rfl⟩,
    ⟨{ driving with selector := { driving.selector with timeout := some 1, turnDwell := some 1, dwell := some 1 } }, rfl,
      by decide, by decide, by decide⟩,
    ⟨busy, 7, ⟨99, 10001, 0, 16, 61, 30, 30⟩, takes_busy _⟩⟩

theorem witness_ForcesStartAndEnd :
    (∃ (s : State) (tag : Byte) (f : ForceFields), Takes s (.forceView tag (.fields f)) ∧ 8 ≤ f.view)
    ∧ (∃ (s : State) (tag : Byte) (f : ForceFields) (v ceiling : Fin 8), Takes s (.forceView tag (.fields f))
      ∧ f.view = v.val ∧ f.ceiling = ceiling.val)
    ∧ (∃ (s : State) (tag : Byte) (f : Force), Takes s (.releaseView tag (.fields ())) ∧ s.selector.force = some f
      ∧ f.timer = some 0)
    ∧ (∃ (s : State) (tag : Byte), Takes s (.releaseView tag (.fields ())) ∧ s.selector.force = none)
    ∧ ∃ s : State, s.held = false ∧ ∀ f, s.selector.force = some f → f.timer ≠ some 0 :=
  ⟨⟨busy, 7, ⟨8, 7, 0⟩, takes_busy _, by decide⟩, ⟨busy, 7, ⟨7, 7, 601⟩, 7, 7, takes_busy _, rfl, rfl⟩,
    ⟨driving, 7, ⟨3, 7, some 0⟩, ⟨rfl, .inl rfl, rfl⟩, rfl, rfl⟩, ⟨busy, 7, takes_busy _, rfl⟩,
    ⟨{ busy with selector := { busy.selector with force := some ⟨3, 7, some 5000⟩ } }, rfl, by rintro _ ⟨⟩; decide⟩⟩

theorem witness_ShapeRequests :
    (∃ (s : State) (tag : Byte) (f : ShapeFields) (k : Fin 64) (sh : Shape), Takes s (.shapeSet tag (.fields f))
      ∧ shapeLengthOk f = true ∧ f.id = k.val ∧ shapeOf? f = some sh)
    ∧ (∃ (s : State) (tag : Byte) (f : ShapeFields), Takes s (.shapeSet tag (.fields f)) ∧ f.kind ≠ none
      ∧ f.points.length ≠ f.count)
    ∧ (∃ (s : State) (tag : Byte) (f : ShapeFields) (k : Fin 64), Takes s (.shapeSet tag (.fields f))
      ∧ ¬(f.kind ≠ none ∧ (f.points.length ≠ f.count ∨ ¬(f.width ≠ none ↔ f.kind = some .polyline)
        ∨ ¬(f.glyph ≠ none ↔ f.kind = some .icon))) ∧ f.id = k.val ∧ 16 < f.alpha)
    ∧ ∃ (s : State) (tag : Byte) (k : Fin 64), Takes s (.shapeDrop tag (.fields k.val)) :=
  ⟨⟨busy, 7, ⟨63, some .icon, 1, [⟨1023, 599⟩], none, some 31, ⟨0, 0, 0⟩, 16, [some .always], true⟩, 63,
      ⟨.icon 31, [⟨1023, 599⟩], ⟨0, 0, 0⟩, 16, [.always], true⟩, takes_busy _, by decide, rfl, by decide⟩,
    ⟨busy, 7, ⟨63, some .icon, 1, [], none, some 31, ⟨0, 0, 0⟩, 16, [], true⟩, takes_busy _, by decide, by decide⟩,
    ⟨busy, 7, ⟨63, some .icon, 1, [⟨1023, 599⟩], none, some 31, ⟨0, 0, 0⟩, 17, [], true⟩, 63, takes_busy _, by decide, rfl,
      by decide⟩,
    ⟨busy, 7, 5, takes_busy _⟩⟩

/-- The first ids out of range, and a list of thirteen shapes: the refusals of WindowDropAndSeamSet, GridBeginByItsChecks,
GridNodesByTheirChecks, GridEndAndDrop, MapAndListEdits and ShapeRequests. -/
theorem witness_ids_out_of_range :
    (Takes busy (.windowDrop 7 (.fields 16)) ∧ 16 ≤ 16)
    ∧ (Takes busy (.gridBegin 7 (.fields ⟨16, 2, 2⟩)) ∧ 16 ≤ 16)
    ∧ (Takes busy (.gridNodes 7 (.fields ⟨16, 0, [⟨0, 0, false⟩]⟩)) ∧ 16 ≤ 16 ∧ 1 ≤ [(⟨0, 0, false⟩ : Node)].length
      ∧ [(⟨0, 0, false⟩ : Node)].length ≤ 40)
    ∧ (Takes busy (.gridEnd 7 (.fields 16)) ∧ Takes busy (.gridDrop 7 (.fields 16)) ∧ 16 ≤ 16)
    ∧ (Takes busy (.setOverlayList 7 (.fields ⟨0, List.replicate 13 0⟩)) ∧ 12 < (List.replicate 13 0).length)
    ∧ (Takes busy (.setOverlayList 7 (.fields ⟨15, [64]⟩)) ∧ [64].length ≤ 12 ∧ ∃ n ∈ [64], 64 ≤ n)
    ∧ (Takes busy (.shapeDrop 7 (.fields 64)) ∧ 64 ≤ 64) :=
  ⟨⟨takes_busy _, by decide⟩, ⟨takes_busy _, by decide⟩, ⟨takes_busy _, by decide, by decide, by decide⟩,
    ⟨takes_busy _, takes_busy _, by decide⟩, ⟨takes_busy _, by decide⟩, ⟨takes_busy _, by decide, by decide⟩,
    ⟨takes_busy _, by decide⟩⟩

theorem witness_CadenceCommands :
    (∃ (s : State) (id : ChannelId), s.held = false ∧ (s.channel id).timer ≠ some 0)
    ∧ (∃ (s : State) (id : ChannelId), s.held = false ∧ (s.channel id).timer = some 0 ∧ (s.channel id).state = .on)
    ∧ (∃ (s : State) (id : ChannelId), s.held = false ∧ (s.channel id).timer = some 0 ∧ (s.channel id).state = .off)
    ∧ (∃ (s : State) (tag : Byte), Takes s (.silence tag (.fields ())))
    ∧ (∃ (s : State) (tag : Byte) (f : CadenceFields) (id : ChannelId), Takes s (.setParametersCadence tag (.fields f))
      ∧ f.channel = some id)
    ∧ (∃ ch : Channel, ch.trigger = false ∧ ch.state = .idle) ∧ (∃ ch : Channel, ch.trigger = true ∧ ch.state = .off)
    ∧ ∃ ch : Channel, ch.trigger = true ∧ ch.state = .done :=
  ⟨⟨busy, .blink, rfl, by decide⟩,
    ⟨busy.setChannel .buzz { busy.cadence.buzz with timer := some 0 }, .buzz, rfl, rfl, rfl⟩,
    ⟨busy.setChannel .blink { busy.cadence.blink with state := .off, timer := some 0 }, .blink, rfl, rfl, rfl⟩,
    ⟨busy, 7, takes_busy _⟩, ⟨busy, 7, ⟨some .buzz, 2559, 9, 16, ⟨true, true, true, true⟩, 4⟩, .buzz, takes_busy _, rfl⟩,
    ⟨State.reset.cadence.blink, rfl, rfl⟩, ⟨{ busy.cadence.blink with state := .off }, rfl, rfl⟩,
    ⟨{ busy.cadence.blink with state := .done }, rfl, rfl⟩⟩

/-- R156: a channel whose last trigger goes while it is ON stays ON, and one that is OFF goes IDLE. -/
theorem test_trigger_goes :
    (busy.cadence.blink.retrigger false).state = .on
      ∧ (Channel.retrigger { busy.cadence.blink with state := .off } false).state = .idle := by decide

theorem witness_FramesArriveAsRequests :
    (∃ (k : Control) (body : List Byte) (stops : List Bool), k.rx = .initial ∧ body.length ≤ 240
      ∧ stops.length = (frameBytes 1 7 body).length)
    ∧ ∃ p : ZoneParams, p.actStep ≤ 255 ∧ p.actFrames ≤ 255 ∧ p.actHold ≤ 65535 :=
  ⟨⟨busy.control, [], List.replicate 6 true, rfl, by decide, by decide⟩, ⟨255, 255, 65535⟩, by decide⟩

/-- R62 and R170: a pane record's geometry group after its mark, high byte first, and a MODE and a SET PARAMETERS code. -/
theorem test_layouts :
    readGroup takeGeometry (Config.flagByte true :: [0x02, 0x00, 0x01, 0x20, 0x01, 0x00, 0x00, 0x90, 0x55])
        = some (some ⟨512, 288, 256, 144⟩, [0x55])
      ∧ readRequest 0x1D 7 [1] = .modeRun 7 (.fields ()) ∧ readRequest 0x03 7 [9, 0] = .unknownRequest 0x03 7 :=
  ⟨by simp [readGroup, takeGeometry, flagSet, two, ofHighFirst], rfl, rfl⟩

/-- R139 and R169: the bytes of a FORCE VIEW request's duration, and R172's lost count, high byte first; a signed byte. -/
theorem test_byte_order :
    readRequest 0x15 7 [3, 7, 0x02, 0x58] = .forceView 7 (.fields ⟨3, 7, 600⟩) ∧ highFirst 2 0x1234 = [0x12, 0x34]
      ∧ signedByte (-9) = 0xF7 ∧ signedByte 3 = 0x03 := by decide

/-- The busy part with a receiver. -/
def receiving (rx : Receiver) : State := { busy with control := { busy.control with rx := rx } }

theorem witness_ReceiverAndTransmitterEvents :
    (∃ (s : State) (b : Byte), s.held = false ∧ s.control.rx.phase = .hunt ∧ b ≠ 0xC3)
    ∧ (∃ (s : State) (b : Byte), s.held = false ∧ s.control.rx.phase = .length ∧ b.toNat ≤ 240)
    ∧ (∃ (s : State) (b : Byte), s.held = false ∧ s.control.rx.phase = .length ∧ 240 < b.toNat)
    ∧ (∃ s : State, s.held = false ∧ s.control.rx.phase = .kind) ∧ (∃ s : State, s.held = false ∧ s.control.rx.phase = .tag)
    ∧ (∃ s : State, s.held = false ∧ s.control.rx.phase = .body)
    ∧ (∃ s : State, s.held = false ∧ s.control.rx.phase = .check ∧ s.control.rx.checkHigh = none)
    ∧ (∃ (s : State) (high : Byte), s.held = false ∧ s.control.rx.phase = .check ∧ s.control.rx.checkHigh = some high)
    ∧ (∃ s : State, s.held = false ∧ s.control.rx.gap = some 0) ∧ (∃ s : State, s.held = false ∧ s.control.rx.gap ≠ some 0)
    ∧ ∃ s : State, s.held = false ∧ s.control.sending ≠ none :=
  ⟨⟨busy, 0, rfl, rfl, by decide⟩, ⟨receiving ⟨.length, 0, 0, 0, [], none, some 10, false⟩, 240, rfl, rfl, by decide⟩,
    ⟨receiving ⟨.length, 0, 0, 0, [], none, some 10, false⟩, 241, rfl, rfl, by decide⟩,
    ⟨receiving ⟨.kind, 0, 0, 0, [], none, some 10, false⟩, rfl, rfl⟩, ⟨receiving ⟨.tag, 0, 1, 0, [], none, some 10, false⟩, rfl, rfl⟩,
    ⟨receiving ⟨.body, 1, 1, 7, [], none, some 10, false⟩, rfl, rfl⟩,
    ⟨receiving ⟨.check, 0, 1, 7, [], none, some 10, false⟩, rfl, rfl, rfl⟩,
    ⟨receiving ⟨.check, 0, 1, 7, [], some 0, some 10, false⟩, 0, rfl, rfl, rfl⟩,
    ⟨receiving ⟨.length, 0, 0, 0, [], none, some 0, false⟩, rfl, rfl⟩,
    ⟨receiving ⟨.length, 0, 0, 0, [], none, some 10, false⟩, rfl, by decide⟩,
    ⟨{ busy with control := { busy.control with sending := some (.report .tablesLive) } }, rfl, by decide⟩⟩

/-- A control link whose request queue is full, with `n` FULL replies waiting. -/
def full (n : Nat) : Control :=
  { busy.control with
    requests := List.replicate 4 (.identify 1 (.fields ())), sending := some (.report .tablesLive)
    replies := List.replicate n ⟨0x81, 1, .full, .none⟩ }

theorem witness_RequestsThatAreTurnedAway :
    (∃ k : Control, k.requests.length < 4)
    ∧ (∃ k : Control, 4 ≤ k.requests.length ∧ 4 ≤ k.replies.countP (fun q => q.status = .full))
    ∧ (∃ k : Control, 4 ≤ k.requests.length ∧ k.replies.countP (fun q => q.status = .full) < 4 ∧ k.sending ≠ none)
    ∧ (∃ k : Control, 4 ≤ k.requests.length ∧ k.replies.countP (fun q => q.status = .full) < 4 ∧ k.sending = none)
    ∧ (∃ (s : State) (i : Instr) (kind tag : Byte), requestOf? i = some (kind, tag) ∧ s.held = false
      ∧ s.control.requests.head? ≠ some i ∧ s.control.requests ≠ [])
    ∧ (∃ (s : State) (i : Instr) (kind tag : Byte), requestOf? i = some (kind, tag) ∧ s.held = false
      ∧ s.control.requests.head? = some i ∧ s.control.processorFree = false)
    ∧ (∃ (s : State) (kind tag : Byte), Takes s (.unknownRequest kind tag) ∧ (kind = 0 ∨ 0x1F ≤ kind.toNat))
    ∧ ∃ (s : State) (tag : Byte), Takes s (.restart tag .badLength) :=
  ⟨⟨busy.control, by decide⟩, ⟨full 4, by decide, by decide⟩, ⟨full 3, by decide, by decide, by decide⟩,
    ⟨{ full 0 with sending := none }, by decide, by decide, rfl⟩,
    ⟨{ busy with control := full 0 }, .restart 9 (.fields ()), 0x1E, 9, rfl, rfl, by decide, by decide⟩,
    ⟨{ busy with control := { full 0 with replies := [⟨0x81, 1, .ok, .none⟩] } }, .identify 1 (.fields ()), 0x01, 1, rfl, rfl, rfl,
      by decide⟩,
    ⟨busy, 0x1F, 7, takes_busy _, .inr (by decide)⟩, ⟨busy, 7, takes_busy _⟩⟩

theorem witness_ReadingAndCounterRequests :
    (∃ (s : State) (tag : Byte), Takes s (.status tag (.fields ())))
    ∧ (∃ (s : State) (tag : Byte) (f : CounterFields) (i : Fin 4), Takes s (.counterSelect tag (.fields f))
      ∧ f.counter = i.val ∧ f.event < 9)
    ∧ (∃ (s : State) (tag : Byte) (f : CounterFields), Takes s (.counterSelect tag (.fields f)) ∧ (4 ≤ f.counter ∨ 9 ≤ f.event))
    ∧ (∃ (s : State) (tag : Byte), Takes s (.readCamera tag (.fields 4)) ∧ Takes s (.readMeter tag (.fields 16)))
    ∧ (∃ (s : State) (tag : Byte), ∀ copy : TableCopy, ∀ item ∈ ([.view 7, .view 8, .map, .list 15, .list 16] : List TableItem),
      Takes s (.readTable tag (.fields ⟨some copy, some item⟩)))
    ∧ ∃ (s : State) (tag : Byte), Takes s (.readTable tag (.fields ⟨none, some .map⟩))
      ∧ Takes s (.readTable tag (.fields ⟨some .edit, none⟩)) :=
  ⟨⟨busy, 7, takes_busy _⟩, ⟨busy, 7, ⟨3, 8, 0xF⟩, 3, takes_busy _, rfl, by decide⟩,
    ⟨busy, 7, ⟨4, 8, 0xF⟩, takes_busy _, .inl (by decide)⟩, ⟨busy, 7, takes_busy _, takes_busy _⟩,
    ⟨busy, 7, fun _ _ _ => takes_busy _⟩, ⟨busy, 7, takes_busy _, takes_busy _⟩⟩

theorem witness_ModeRequests :
    (∃ (s : State) (tag : Byte), Takes s (.modeConfig tag (.fields ())) ∧ s.mode ≠ .run)
    ∧ (∃ (s : State) (tag : Byte), Takes s (.modeRun tag (.fields ())) ∧ s.mode = .run)
    ∧ (∃ (s : State) (tag : Byte) (k : Fin 8), Takes s (.modeRun tag (.fields ())) ∧ s.mode ≠ .run
      ∧ ∀ j, look (look s.views.live.views (look s.views.live.map k)).panes j = none)
    ∧ (∃ (s : State) (tag : Byte), Takes s (.modeStandby tag (.fields ())) ∧ s.mode = .config)
    ∧ (∃ (s : State) (tag : Byte), Takes s (.modeStandby tag (.fields ())) ∧ s.mode = .standby)
    ∧ ∃ (s : State) (tag : Byte), Takes s (.modeRun tag (.fields ())) ∧ s.mode ≠ .run
      ∧ (∀ k, ∃ j, look (look s.views.live.views (look s.views.live.map k)).panes j ≠ none) ∧ s.TriggerLaw
      ∧ ∀ c, (s.port c).enabled = true → (s.port c).link = .off :=
  ⟨⟨State.reset, 7, takes_reset _, by decide⟩, ⟨busy, 7, takes_busy _, rfl⟩,
    ⟨State.reset, 7, 0, takes_reset _, by decide, by decide⟩, ⟨State.reset, 7, takes_reset _, rfl⟩,
    ⟨{ busy with mode := .standby }, 7, ⟨rfl, .inl rfl, rfl⟩, rfl⟩,
    ⟨{ State.reset with views := busy.views }, 7, ⟨rfl, .inl rfl, rfl⟩, by decide, by decide,
      by unfold State.TriggerLaw; decide, by decide⟩⟩

theorem witness_LeavingRunTakesThePortsOff :
    ∃ (s : State) (tag : Byte), Takes s (.modeStandby tag (.fields ())) ∧ Takes s (.modeConfig tag (.fields ())) ∧ s.mode = .run
      ∧ s.TableLaw :=
  ⟨busy, 7, takes_busy _, takes_busy _, rfl, busy_table⟩

theorem witness_RestartKeepsAndResets : ∃ (s : State) (tag : Byte), Takes s (.restart tag (.fields ())) ∧ s.HazardLaw :=
  ⟨busy, 7, takes_busy _, busy_hazard⟩

end Sys2Proof.Machine.Tests
end

section
/-! PROOF. Camera links, first layer: fixed tables written twice, the back channel's queue, the report queue, health and hazard
brought up to date, and the change of a link state. Each operation's effect is said once, entry by entry. -/

namespace Sys2Proof

theorem put_put {α : Type} {n : Nat} (t : Vector α n) (i : Fin n) (a b : α) : put (put t i a) i b = put t i b :=
  table_ext fun j => by simp only [look_put]; split <;> rfl

@[simp] theorem put_look {α : Type} {n : Nat} (t : Vector α n) (i : Fin n) : put t i (look t i) = t :=
  table_ext fun j => by
    rw [look_put]
    split
    · next h => rw [h]
    · rfl

end Sys2Proof

namespace Sys2Proof.Machine

/-! ## Commands while RESET is not held -/

theorem unlessHeld_live {s : State} (h : s.held = false) (f : State → State) : unlessHeld s f = .next (f s).drivePins := by
  simp [unlessHeld, commit, h]

/-! ## Entries written twice -/

@[simp] theorem State.setPort_setPort (s : State) (c : Cam) (p q : Port) :
    (s.setPort c p).setPort c q = s.setPort c q := by
  simp [State.setPort, put_put]

@[simp] theorem State.setPort_port (s : State) (c : Cam) : s.setPort c (s.port c) = s := by
  simp [State.setPort, State.port]

@[simp] theorem State.setStore_store (s : State) (c : Cam) : s.setStore c (s.store c) = s := by
  simp [State.setStore, State.store]

/-! ## The back channel (R6) -/

/-- A port issues a record: only its back channel changes, and as `Port.backAfter` says. -/
theorem Port.issue_eq (p : Port) (r : BackRecord) :
    p.issue r = { p with backSending := (p.backAfter [r]).1, backWaiting := (p.backAfter [r]).2 } := by
  unfold Port.issue Port.backAfter
  cases hc : p.carrier with
  | false => simp only [Bool.not_false, if_true]; rw [← hc]
  | true =>
    cases hb : p.backSending <;> simp

@[simp] theorem Port.backAfter_nil (p : Port) : p.backAfter [] = (p.backSending, p.backWaiting) := by
  unfold Port.backAfter
  split
  · rfl
  · split
    · next h => simp [h]
    · next h => simp [h]

/-- Records issued together are the first one and then the others. -/
theorem Port.backAfter_issue (p : Port) (r : BackRecord) (rs : List BackRecord) :
    (p.issue r).backAfter rs = p.backAfter (r :: rs) := by
  rw [Port.issue_eq]
  unfold Port.backAfter
  cases hc : p.carrier with
  | false => simp
  | true => cases hb : p.backSending <;> simp

/-- The back channel after records depends on its own items and the carrier alone. -/
theorem Port.backAfter_congr {p q : Port} (hc : q.carrier = p.carrier) (hs : q.backSending = p.backSending)
    (hw : q.backWaiting = p.backWaiting) (rs : List BackRecord) : q.backAfter rs = p.backAfter rs := by
  simp only [Port.backAfter, hc, hs, hw]

/-! ## Statistics and reports -/

@[simp] theorem Control.countEvents_rate (k : Control) (e : StatEvent) (c : Option Cam) (n : Nat) :
    (k.countEvents e c n).rate = k.rate := rfl

@[simp] theorem Control.countEvents_rx (k : Control) (e : StatEvent) (c : Option Cam) (n : Nat) :
    (k.countEvents e c n).rx = k.rx := rfl

@[simp] theorem Control.startNext_rate (k : Control) : k.startNext.rate = k.rate := by
  unfold Control.startNext; split <;> rfl

@[simp] theorem Control.startNext_rx (k : Control) : k.startNext.rx = k.rx := by
  unfold Control.startNext; split <;> rfl

@[simp] theorem Control.queueReport_rate (k : Control) (r : Report) : (k.queueReport r).rate = k.rate := by
  unfold Control.queueReport; split <;> simp

@[simp] theorem Control.queueReport_rx (k : Control) (r : Report) : (k.queueReport r).rx = k.rx := by
  unfold Control.queueReport; split <;> simp

@[simp] theorem Control.queueAll_cons (k : Control) (r : Report) (rs : List Report) :
    k.queueAll (r :: rs) = (k.queueReport r).queueAll rs := rfl

@[simp] theorem Control.queueAll_rate (k : Control) (rs : List Report) : (k.queueAll rs).rate = k.rate := by
  induction rs generalizing k with
  | nil => rfl
  | cons r rs ih => simp [ih]

@[simp] theorem Control.queueAll_rx (k : Control) (rs : List Report) : (k.queueAll rs).rx = k.rx := by
  induction rs generalizing k with
  | nil => rfl
  | cons r rs ih => simp [ih]

@[simp] theorem State.queueReport_control (s : State) (r : Report) :
    (s.queueReport r).control = s.control.queueReport r := rfl

@[simp] theorem State.count_control (s : State) (e : StatEvent) (c : Cam) :
    (s.count e c).control = s.control.countEvents e (some c) 1 := rfl

@[simp] theorem State.countTimes_control (s : State) (e : StatEvent) (c : Cam) (n : Nat) :
    (s.countTimes e c n).control = s.control.countEvents e (some c) n := rfl

/-- A report counts nothing but, where it is dropped, REPORT_LOST (R168). -/
theorem Control.queueReport_counter (k : Control) (r : Report) (i : Fin 4)
    (h : (look k.counters i).event ≠ .reportLost) : look (k.queueReport r).counters i = look k.counters i := by
  unfold Control.queueReport
  split
  · rw [Control.startNext_counters]
  · simp [Control.countEvents, h]

theorem Control.queueAll_counter (k : Control) (rs : List Report) (i : Fin 4)
    (h : (look k.counters i).event ≠ .reportLost) : look (k.queueAll rs).counters i = look k.counters i := by
  induction rs generalizing k with
  | nil => rfl
  | cons r rs ih =>
    have hr := k.queueReport_counter r i h
    rw [Control.queueAll_cons, ih _ (hr ▸ h), hr]

/-! ## Cadence channels: triggers leave the settings (R155) -/

@[simp] theorem Channel.retrigger_settings (ch : Channel) (t : Bool) : (ch.retrigger t).settings = ch.settings := by
  unfold Channel.retrigger
  split
  · rfl
  · split <;> rfl

@[simp] theorem Channel.retrigger_mask (ch : Channel) (t : Bool) : (ch.retrigger t).mask = ch.mask := by
  unfold Channel.retrigger
  split
  · rfl
  · split <;> rfl

@[simp] theorem Channel.retrigger_trigger (ch : Channel) (t : Bool) : (ch.retrigger t).trigger = t := by
  unfold Channel.retrigger
  split
  · assumption
  · split <;> rfl

@[simp] theorem State.reform_blink (s : State) :
    s.reform.cadence.blink = s.cadence.blink.retrigger (combinedTrigger s s.cadence.blink.mask) := rfl

@[simp] theorem State.reform_buzz (s : State) :
    s.reform.cadence.buzz = s.cadence.buzz.retrigger (combinedTrigger s s.cadence.buzz.mask) := rfl

@[simp] theorem State.reform_phase (s : State) : s.reform.cadence.latchedPhase = s.cadence.latchedPhase := rfl

/-! ## Health (R36, R37) -/

theorem SegState.not_usable_iff (x : SegState) : (!x.usable) = decide (x = .empty ∨ x = .stale) := by
  cases x <;> rfl

theorem staleOrEmpty_eq (table : List SegEntry) :
    staleOrEmpty table = table.countP fun e => e.state = .empty ∨ e.state = .stale := by
  simp only [staleOrEmpty, SegState.not_usable_iff]

/-- Out of OFF and STREAMING a camera is ABSENT (R36). -/
theorem deriveHealth_absent {l : LinkState} (h1 : l ≠ .off) (h2 : l ≠ .streaming) (f b : Nat) (cl : ClarityState)
    (p : StoreParams) : deriveHealth l f b cl p = .absent := by
  simp [deriveHealth, h1, h2]

@[simp] theorem deriveHealth_off (f b : Nat) (cl : ClarityState) (p : StoreParams) :
    deriveHealth .off f b cl p = .off := rfl

/-- The HEALTH report of a re-derivation of camera `c`, none where the health stays. -/
def State.healthChange (s : State) (c : Cam) : List Report :=
  if s.healthOf c = (s.store c).health then []
  else [.health c (s.store c).health (s.healthOf c) (staleOrEmpty (s.store c).table)]

/-- A re-derivation touches the segment store, the report queue and the cadence channels. -/
theorem State.rederive_rest (s : State) (c : Cam) :
    { s.rederive c with stores := s.stores, control := s.control, cadence := s.cadence } = s := by
  unfold State.rederive
  dsimp only
  split <;> rfl

@[simp] theorem State.rederive_ports (s : State) (c : Cam) : (s.rederive c).ports = s.ports :=
  (congrArg State.ports (s.rederive_rest c) :)
@[simp] theorem State.rederive_params (s : State) (c : Cam) : (s.rederive c).params = s.params :=
  (congrArg State.params (s.rederive_rest c) :)
@[simp] theorem State.rederive_windows (s : State) (c : Cam) : (s.rederive c).windows = s.windows :=
  (congrArg State.windows (s.rederive_rest c) :)
@[simp] theorem State.rederive_tones (s : State) (c : Cam) : (s.rederive c).tones = s.tones :=
  (congrArg State.tones (s.rederive_rest c) :)
@[simp] theorem State.rederive_seams (s : State) (c : Cam) : (s.rederive c).seams = s.seams :=
  (congrArg State.seams (s.rederive_rest c) :)
@[simp] theorem State.rederive_clarities (s : State) (c : Cam) : (s.rederive c).clarities = s.clarities :=
  (congrArg State.clarities (s.rederive_rest c) :)
@[simp] theorem State.rederive_zones (s : State) (c : Cam) : (s.rederive c).zones = s.zones :=
  (congrArg State.zones (s.rederive_rest c) :)
@[simp] theorem State.rederive_choices (s : State) (c : Cam) : (s.rederive c).choices = s.choices :=
  (congrArg State.choices (s.rederive_rest c) :)
@[simp] theorem State.rederive_port (s : State) (c i : Cam) : (s.rederive c).port i = s.port i := by
  simp [State.port]
@[simp] theorem State.rederive_window (s : State) (c : Cam) (w : WindowId) : (s.rederive c).window w = s.window w := by
  simp [State.window]
@[simp] theorem State.rederive_tone (s : State) (c i : Cam) : (s.rederive c).tone i = s.tone i := by
  simp [State.tone]
@[simp] theorem State.rederive_clarity (s : State) (c i : Cam) : (s.rederive c).clarity i = s.clarity i := by
  simp [State.clarity]
@[simp] theorem State.rederive_zone (s : State) (c : Cam) (w : WindowId) : (s.rederive c).zone w = s.zone w := by
  simp [State.zone]

@[simp] theorem State.rederive_store (s : State) (c : Cam) :
    (s.rederive c).store c = { s.store c with health := s.healthOf c } := by
  unfold State.rederive
  dsimp only
  split
  · next h => rw [h]
  · simp

theorem State.rederive_store_ne (s : State) {c d : Cam} (h : c ≠ d) : (s.rederive c).store d = s.store d := by
  unfold State.rederive
  dsimp only
  split
  · rfl
  · simp [State.store_setStore_ne _ _ h]

@[simp] theorem State.rederive_control (s : State) (c : Cam) :
    (s.rederive c).control = s.control.queueAll (s.healthChange c) := by
  unfold State.rederive State.healthChange
  dsimp only
  split <;> rfl

/-- Where the health is the derived one, a re-derivation changes nothing. -/
theorem State.rederive_of_healthOf {s : State} {c : Cam} (h : s.healthOf c = (s.store c).health) : s.rederive c = s := by
  simp [State.rederive, h]

theorem healthReport_congr {s s' t t' : State} {c : Cam} (hs : (s'.store c).health = (s.store c).health)
    (ht : t'.store c = t.store c) : healthReport s' t' c = healthReport s t c := by
  simp only [healthReport, hs, ht]

/-- The report of a re-derivation is the HEALTH report between the states before and after it. -/
theorem State.healthChange_eq_healthReport (s : State) (c : Cam) : s.healthChange c = healthReport s (s.rederive c) c := by
  unfold State.healthChange healthReport
  rw [State.rederive_store, staleOrEmpty_eq]

/-! ## Hazard (R128) -/

/-- The hazard zone list and flag brought up to date touch their own entries, the report queue and the cadence channels. -/
theorem State.refreshHazard_rest (s : State) :
    { s.refreshHazard with
      zones := { s.refreshHazard.zones with hazard := s.zones.hazard, hazardList := s.zones.hazardList }
      control := s.control, cadence := s.cadence } = s := by
  unfold State.refreshHazard
  dsimp only
  split <;> rfl

@[simp] theorem State.refreshHazard_ports (s : State) : s.refreshHazard.ports = s.ports :=
  (congrArg State.ports s.refreshHazard_rest :)
@[simp] theorem State.refreshHazard_params (s : State) : s.refreshHazard.params = s.params :=
  (congrArg State.params s.refreshHazard_rest :)
@[simp] theorem State.refreshHazard_stores (s : State) : s.refreshHazard.stores = s.stores :=
  (congrArg State.stores s.refreshHazard_rest :)
@[simp] theorem State.refreshHazard_windows (s : State) : s.refreshHazard.windows = s.windows :=
  (congrArg State.windows s.refreshHazard_rest :)
@[simp] theorem State.refreshHazard_tones (s : State) : s.refreshHazard.tones = s.tones :=
  (congrArg State.tones s.refreshHazard_rest :)
@[simp] theorem State.refreshHazard_seams (s : State) : s.refreshHazard.seams = s.seams :=
  (congrArg State.seams s.refreshHazard_rest :)
@[simp] theorem State.refreshHazard_clarities (s : State) : s.refreshHazard.clarities = s.clarities :=
  (congrArg State.clarities s.refreshHazard_rest :)
@[simp] theorem State.refreshHazard_choices (s : State) : s.refreshHazard.choices = s.choices :=
  (congrArg State.choices s.refreshHazard_rest :)
@[simp] theorem State.refreshHazard_zones_zones (s : State) : s.refreshHazard.zones.zones = s.zones.zones :=
  (congrArg (fun t => t.zones.zones) s.refreshHazard_rest :)
@[simp] theorem State.refreshHazard_latchedHazard (s : State) :
    s.refreshHazard.zones.latchedHazard = s.zones.latchedHazard :=
  (congrArg (fun t => t.zones.latchedHazard) s.refreshHazard_rest :)
@[simp] theorem State.refreshHazard_latchedZones (s : State) :
    s.refreshHazard.zones.latchedZones = s.zones.latchedZones :=
  (congrArg (fun t => t.zones.latchedZones) s.refreshHazard_rest :)
@[simp] theorem State.refreshHazard_port (s : State) (c : Cam) : s.refreshHazard.port c = s.port c := by
  simp [State.port]
@[simp] theorem State.refreshHazard_store (s : State) (c : Cam) : s.refreshHazard.store c = s.store c := by
  simp [State.store]
@[simp] theorem State.refreshHazard_tone (s : State) (c : Cam) : s.refreshHazard.tone c = s.tone c := by
  simp [State.tone]
@[simp] theorem State.refreshHazard_clarity (s : State) (c : Cam) : s.refreshHazard.clarity c = s.clarity c := by
  simp [State.clarity]
@[simp] theorem State.refreshHazard_window (s : State) (w : WindowId) : s.refreshHazard.window w = s.window w := by
  simp [State.window]
@[simp] theorem State.refreshHazard_zone (s : State) (w : WindowId) : s.refreshHazard.zone w = s.zone w := by
  simp [State.zone]

@[simp] theorem State.refreshHazard_hazardList (s : State) :
    s.refreshHazard.zones.hazardList = activeZones s.zones.zones := by
  unfold State.refreshHazard
  dsimp only
  split
  · next h => exact h.symm
  · rfl

/-- Where the list changes, the flag follows it. -/
theorem State.refreshHazard_hazard {s : State} (h : activeZones s.zones.zones ≠ s.zones.hazardList) :
    s.refreshHazard.zones.hazard = !(activeZones s.zones.zones).isEmpty := by
  simp [State.refreshHazard, h]

theorem State.refreshHazard_of_list {s : State} (h : s.zones.hazardList = activeZones s.zones.zones) :
    s.refreshHazard = s := by
  simp [State.refreshHazard, h]

/-- The HAZARD report depends on the two lists and on the cameras of the windows. -/
theorem hazardReport_congr {s s' t t' : State} (hs : s'.zones.hazardList = s.zones.hazardList)
    (ht : t'.zones.hazardList = t.zones.hazardList) (hw : ∀ w, (t'.window w).active = (t.window w).active) :
    hazardReport s' t' = hazardReport s t := by
  simp only [hazardReport, State.zoneCamera, hs, ht, hw]

@[simp] theorem State.refreshHazard_control (s : State) :
    s.refreshHazard.control = s.control.queueAll (hazardReport s s.refreshHazard) := by
  unfold hazardReport
  rw [State.refreshHazard_hazardList]
  unfold State.refreshHazard
  dsimp only
  split <;> rfl

end Sys2Proof.Machine
end

section
/-! PROOF. Camera links, second layer: the change of a link state with what follows it (R8, R37, R97, R107, R127), and
`CameraFrame` for every shared operation on one camera. -/

namespace Sys2Proof.Machine

/-! ## Leaving STREAMING -/

@[simp] theorem State.leaveStreaming_ports (s : State) (c : Cam) : (s.leaveStreaming c).ports = s.ports := by
  simp [State.leaveStreaming]
@[simp] theorem State.leaveStreaming_stores (s : State) (c : Cam) : (s.leaveStreaming c).stores = s.stores := by
  simp [State.leaveStreaming]
@[simp] theorem State.leaveStreaming_clarities (s : State) (c : Cam) : (s.leaveStreaming c).clarities = s.clarities := by
  simp [State.leaveStreaming]
@[simp] theorem State.leaveStreaming_seams (s : State) (c : Cam) : (s.leaveStreaming c).seams = s.seams := by
  simp [State.leaveStreaming]
@[simp] theorem State.leaveStreaming_params (s : State) (c : Cam) : (s.leaveStreaming c).params = s.params := by
  simp [State.leaveStreaming]
@[simp] theorem State.leaveStreaming_choices (s : State) (c : Cam) : (s.leaveStreaming c).choices = s.choices := by
  simp [State.leaveStreaming]
@[simp] theorem State.leaveStreaming_control (s : State) (c : Cam) : (s.leaveStreaming c).control = s.control := by
  simp [State.leaveStreaming]
@[simp] theorem State.leaveStreaming_cadence (s : State) (c : Cam) : (s.leaveStreaming c).cadence = s.cadence := by
  simp [State.leaveStreaming]
@[simp] theorem State.leaveStreaming_port (s : State) (c i : Cam) : (s.leaveStreaming c).port i = s.port i := by
  simp [State.port]
@[simp] theorem State.leaveStreaming_store (s : State) (c i : Cam) : (s.leaveStreaming c).store i = s.store i := by
  simp [State.store]
@[simp] theorem State.leaveStreaming_clarity (s : State) (c i : Cam) : (s.leaveStreaming c).clarity i = s.clarity i := by
  simp [State.clarity]

@[simp] theorem State.leaveStreaming_window (s : State) (c : Cam) (w : WindowId) :
    (s.leaveStreaming c).window w = (s.window w).leaveStreaming c := by
  simp [State.leaveStreaming, State.window]

@[simp] theorem State.leaveStreaming_tone (s : State) (c : Cam) : (s.leaveStreaming c).tone c = (s.tone c).leaveStreaming := by
  simp [State.leaveStreaming]

@[simp] theorem State.mapZonesOf_zone (s : State) (c : Cam) (f : Zone → Zone) (w : WindowId) :
    (s.mapZonesOf c f).zone w = if (s.window w).serves c then (s.zone w).map f else s.zone w := look_ofFn ..

@[simp] theorem State.leaveStreaming_zone (s : State) (c : Cam) (w : WindowId) :
    (s.leaveStreaming c).zone w = if (s.window w).serves c then (s.zone w).map Zone.leaveStreaming else s.zone w := by
  rw [← State.mapZonesOf_zone]
  simp [State.leaveStreaming, State.zone]

@[simp] theorem State.leaveStreaming_hazard (s : State) (c : Cam) :
    (s.leaveStreaming c).zones.hazard = s.zones.hazard := by simp [State.leaveStreaming, State.mapZonesOf]

@[simp] theorem State.leaveStreaming_hazardList (s : State) (c : Cam) :
    (s.leaveStreaming c).zones.hazardList = s.zones.hazardList := by simp [State.leaveStreaming, State.mapZonesOf]

@[simp] theorem Window.leaveStreaming_active (w : Window) (c : Cam) : (w.leaveStreaming c).active = w.active := by
  unfold Window.leaveStreaming; split <;> rfl

@[simp] theorem Window.leaveStreaming_change (w : Window) (c : Cam) : (w.leaveStreaming c).change = w.change := by
  unfold Window.leaveStreaming; split <;> rfl

theorem State.leaveStreaming_leaves (s : State) (c : Cam) : LeavesStreaming c s (s.leaveStreaming c) where
  windows _ := s.leaveStreaming_window c _
  tone := s.leaveStreaming_tone c
  zones _ := s.leaveStreaming_zone c _
  hazard := ⟨s.leaveStreaming_hazard c, s.leaveStreaming_hazardList c⟩

/-! ## `KeepsStreaming` and `LeavesStreaming` along a run of operations -/

theorem KeepsStreaming.rfl {c : Cam} {s : State} : KeepsStreaming c s s := ⟨.refl _, .refl _, .refl _⟩

theorem KeepsStreaming.trans {c : Cam} {s t u : State} (a : KeepsStreaming c s t) (b : KeepsStreaming c t u) :
    KeepsStreaming c s u :=
  ⟨b.windows.trans a.windows, b.tone.trans a.tone, b.zones.trans a.zones⟩

theorem KeepsStreaming.leaves {c : Cam} {s t u : State} (a : KeepsStreaming c s t) (b : LeavesStreaming c t u) :
    LeavesStreaming c s u := by
  have hw : t.window = s.window := by funext w; simp only [State.window, a.windows]
  have hz : t.zone = s.zone := by funext w; simp only [State.zone, a.zones]
  obtain ⟨windows, tone, zones, hazard⟩ := b
  rw [hw] at windows
  rw [a.tone] at tone
  rw [hw, hz] at zones
  rw [a.zones] at hazard
  exact ⟨windows, tone, zones, hazard⟩

theorem LeavesStreaming.keeps {c : Cam} {s t u : State} (a : LeavesStreaming c s t) (b : KeepsStreaming c t u) :
    LeavesStreaming c s u := by
  have hw : u.window = t.window := by funext w; simp only [State.window, b.windows]
  have hz : u.zone = t.zone := by funext w; simp only [State.zone, b.zones]
  obtain ⟨windows, tone, zones, hazard⟩ := a
  rw [← hw] at windows
  rw [← b.tone] at tone
  rw [← hz] at zones
  rw [← b.zones] at hazard
  exact ⟨windows, tone, zones, hazard⟩

/-! ## A change of link state (R8, R37) -/

/-- The state with what leaving STREAMING does, where the change to `new` leaves it. -/
def State.departed (s : State) (c : Cam) (new : LinkState) : State :=
  if (s.port c).link = .streaming ∧ new ≠ .streaming then s.leaveStreaming c else s

theorem State.setLink_eq (s : State) (c : Cam) (new : LinkState) (cause : LinkCause) :
    s.setLink c new cause = ((((s.departed c new).setPort c { s.port c with link := new }).queueReport
      (.link c new cause)).rederive c) := by
  unfold State.setLink State.departed
  dsimp only
  split
  · rw [State.leaveStreaming_port]
  · rfl

@[simp] theorem State.departed_port (s : State) (c : Cam) (l : LinkState) (i : Cam) :
    (s.departed c l).port i = s.port i := by unfold State.departed; split <;> simp
@[simp] theorem State.departed_store (s : State) (c : Cam) (l : LinkState) (i : Cam) :
    (s.departed c l).store i = s.store i := by unfold State.departed; split <;> simp
@[simp] theorem State.departed_clarity (s : State) (c : Cam) (l : LinkState) (i : Cam) :
    (s.departed c l).clarity i = s.clarity i := by unfold State.departed; split <;> simp
@[simp] theorem State.departed_seams (s : State) (c : Cam) (l : LinkState) : (s.departed c l).seams = s.seams := by
  unfold State.departed; split <;> simp
@[simp] theorem State.departed_params (s : State) (c : Cam) (l : LinkState) : (s.departed c l).params = s.params := by
  unfold State.departed; split <;> simp
@[simp] theorem State.departed_choices (s : State) (c : Cam) (l : LinkState) : (s.departed c l).choices = s.choices := by
  unfold State.departed; split <;> simp
@[simp] theorem State.departed_control (s : State) (c : Cam) (l : LinkState) : (s.departed c l).control = s.control := by
  unfold State.departed; split <;> simp

@[simp] theorem State.setLink_port (s : State) (c : Cam) (new : LinkState) (cause : LinkCause) :
    (s.setLink c new cause).port c = { s.port c with link := new } := by
  simp [State.setLink_eq]

/-- The camera's health after a change of link state: the one its inputs give (R37). -/
@[simp] theorem State.setLink_store (s : State) (c : Cam) (new : LinkState) (cause : LinkCause) :
    (s.setLink c new cause).store c = { s.store c with
      health := deriveHealth new (s.store c).freeze (staleOrEmpty (s.store c).table) (s.clarity c).state
        s.params.store } := by
  simp [State.setLink_eq, State.healthOf]

@[simp] theorem State.setLink_clarity (s : State) (c : Cam) (new : LinkState) (cause : LinkCause) (i : Cam) :
    (s.setLink c new cause).clarity i = s.clarity i := by simp [State.setLink_eq]
@[simp] theorem State.setLink_seams (s : State) (c : Cam) (new : LinkState) (cause : LinkCause) :
    (s.setLink c new cause).seams = s.seams := by simp [State.setLink_eq]
@[simp] theorem State.setLink_choices (s : State) (c : Cam) (new : LinkState) (cause : LinkCause) :
    (s.setLink c new cause).choices = s.choices := by simp [State.setLink_eq]
@[simp] theorem State.setLink_params (s : State) (c : Cam) (new : LinkState) (cause : LinkCause) :
    (s.setLink c new cause).params = s.params := by simp [State.setLink_eq]

/-- The reports of a change of link state: LINK, and the HEALTH report that follows it (R8, R37). -/
theorem State.setLink_control (s : State) (c : Cam) (new : LinkState) (cause : LinkCause) :
    (s.setLink c new cause).control
      = s.control.queueAll (.link c new cause :: healthReport s (s.setLink c new cause) c) := by
  rw [State.setLink_eq, State.rederive_control, State.healthChange_eq_healthReport]
  rw [healthReport_congr (s := s) (t' := State.rederive _ c) (by simp) rfl]
  simp

/-- The same, after operations that leave the camera's health. -/
theorem State.setLink_control_from {s s1 : State} {c : Cam} (h : (s1.store c).health = (s.store c).health)
    (new : LinkState) (cause : LinkCause) :
    (s1.setLink c new cause).control
      = s1.control.queueAll (.link c new cause :: healthReport s (s1.setLink c new cause) c) := by
  rw [State.setLink_control, healthReport_congr h.symm rfl]

/-- Between two link states of an ABSENT camera nothing changes but the link state, with its LINK report. -/
theorem State.setLink_of_absent {s : State} {c : Cam} (hs : (s.port c).link ≠ .streaming)
    (hh : (s.store c).health = .absent) {new : LinkState} (h1 : new ≠ .off) (h2 : new ≠ .streaming) (cause : LinkCause) :
    s.setLink c new cause = (s.setPort c { s.port c with link := new }).queueReport (.link c new cause) := by
  have hd : s.departed c new = s := by simp [State.departed, hs]
  rw [State.setLink_eq, hd, State.rederive_of_healthOf]
  simp [State.healthOf, deriveHealth_absent h1 h2, hh]

@[simp] theorem healthReport_drivePins (s t : State) (c : Cam) : healthReport s t.drivePins c = healthReport s t c := rfl

@[simp] theorem hazardReport_drivePins (s t : State) : hazardReport s t.drivePins = hazardReport s t := rfl

/-- By the law of health a camera whose link is neither OFF nor STREAMING is ABSENT (R36). -/
theorem State.HealthLaw.absent {s : State} (h : s.HealthLaw) {c : Cam} (h1 : (s.port c).link ≠ .off)
    (h2 : (s.port c).link ≠ .streaming) : (s.store c).health = .absent :=
  (h c).trans (deriveHealth_absent h1 h2 ..)

/-- A change out of STREAMING has the effects of leaving it (R97, R107, R127). -/
theorem State.setLink_leaves {s : State} {c : Cam} (h : (s.port c).link = .streaming) {new : LinkState}
    (hn : new ≠ .streaming) (cause : LinkCause) : LeavesStreaming c s (s.setLink c new cause) := by
  have hd : s.departed c new = s.leaveStreaming c := by simp [State.departed, h, hn]
  rw [State.setLink_eq, hd]
  refine (s.leaveStreaming_leaves c).keeps ⟨?_, ?_, ?_⟩ <;> simp

/-- Every other change keeps windows, tone counts and zones. -/
theorem State.setLink_keeps {s : State} {c : Cam} {new : LinkState} (h : (s.port c).link ≠ .streaming ∨ new = .streaming)
    (cause : LinkCause) : KeepsStreaming c s (s.setLink c new cause) := by
  have hd : s.departed c new = s := by
    rcases h with h | h <;> simp [State.departed, h]
  rw [State.setLink_eq, hd]
  constructor <;> simp

theorem keepsStreaming_drivePins (s : State) (c : Cam) : KeepsStreaming c s s.drivePins := ⟨rfl, rfl, rfl⟩

/-! ## `Beside` -/

theorem Beside.rfl {s : State} : Beside s s := ⟨.refl _, .refl _, .refl _, .refl _, .refl _⟩

theorem Beside.trans {s t u : State} (a : Beside s t) (b : Beside t u) : Beside s u :=
  ⟨b.rate.trans a.rate, b.rx.trans a.rx, b.blink.trans a.blink, b.buzz.trans a.buzz, b.phase.trans a.phase⟩

/-- What touches neither the control link nor the cadence channels. -/
theorem Beside.of_eq {s t : State} (hk : t.control = s.control) (hc : t.cadence = s.cadence) : Beside s t :=
  ⟨by rw [hk], by rw [hk], by rw [hc], by rw [hc], by rw [hc]⟩

theorem beside_queueReport (s : State) (r : Report) : Beside s (s.queueReport r) :=
  ⟨by simp, by simp, .refl _, .refl _, .refl _⟩

theorem beside_reform (s : State) : Beside s s.reform := ⟨.refl _, .refl _, by simp, by simp, .refl _⟩

theorem beside_rederive (s : State) (c : Cam) : Beside s (s.rederive c) := by
  unfold State.rederive
  dsimp only
  split
  · exact .rfl
  · refine .trans (.trans (.of_eq ?_ ?_) (beside_queueReport _ _)) (beside_reform _) <;> rfl

theorem beside_refreshHazard (s : State) : Beside s s.refreshHazard := by
  unfold State.refreshHazard
  dsimp only
  split
  · exact .rfl
  · refine .trans (.trans (.of_eq ?_ ?_) (beside_queueReport _ _)) (beside_reform _) <;> rfl

/-! ## `CameraFrame` -/

/-- What one camera's share of the state leaves of the others', apart from `Beside` and the blocks no camera event reaches. -/
structure OthersKept (c : Cam) (s t : State) : Prop where
  ports : ∀ d, d ≠ c → t.port d = s.port d
  stores : ∀ d, d ≠ c → t.store d = s.store d
  tones : ∀ d, d ≠ c → t.tone d = s.tone d
  clarities : ∀ d, d ≠ c → t.clarity d = s.clarity d
  windows : ∀ w, (s.window w).serves c = false → t.window w = s.window w ∧ t.zone w = s.zone w
  changes : ∀ w, (t.window w).active = (s.window w).active ∧ (t.window w).change = (s.window w).change
  latches : t.zones.latchedHazard = s.zones.latchedHazard ∧ t.zones.latchedZones = s.zones.latchedZones

theorem Window.serves_congr {v w : Window} (h : v.active = w.active) (c : Cam) : v.serves c = w.serves c := by
  simp only [Window.serves, h]

theorem OthersKept.rfl {c : Cam} {s : State} : OthersKept c s s :=
  ⟨fun _ _ => .refl _, fun _ _ => .refl _, fun _ _ => .refl _, fun _ _ => .refl _, fun _ _ => ⟨.refl _, .refl _⟩,
    fun _ => ⟨.refl _, .refl _⟩, .refl _, .refl _⟩

theorem OthersKept.trans {c : Cam} {s t u : State} (a : OthersKept c s t) (b : OthersKept c t u) : OthersKept c s u where
  ports d h := (b.ports d h).trans (a.ports d h)
  stores d h := (b.stores d h).trans (a.stores d h)
  tones d h := (b.tones d h).trans (a.tones d h)
  clarities d h := (b.clarities d h).trans (a.clarities d h)
  windows w h := by
    have ht : (t.window w).serves c = false := (Window.serves_congr (a.changes w).1 c).trans h
    exact ⟨(b.windows w ht).1.trans (a.windows w h).1, (b.windows w ht).2.trans (a.windows w h).2⟩
  changes w := ⟨(b.changes w).1.trans (a.changes w).1, (b.changes w).2.trans (a.changes w).2⟩
  latches := ⟨b.latches.1.trans a.latches.1, b.latches.2.trans a.latches.2⟩

/-- What touches none of the blocks that hold a share of each camera or window. -/
theorem OthersKept.of_eq {c : Cam} {s t : State} (hp : t.ports = s.ports) (hs : t.stores = s.stores)
    (ht : t.tones = s.tones) (hc : t.clarities = s.clarities) (hw : t.windows = s.windows)
    (hz : t.zones.zones = s.zones.zones) (hl : t.zones.latchedHazard = s.zones.latchedHazard)
    (hm : t.zones.latchedZones = s.zones.latchedZones) : OthersKept c s t where
  ports _ _ := by simp only [State.port, hp]
  stores _ _ := by simp only [State.store, hs]
  tones _ _ := by simp only [State.tone, ht]
  clarities _ _ := by simp only [State.clarity, hc]
  windows _ _ := by simp only [State.window, State.zone, hw, hz, and_self]
  changes _ := by simp only [State.window, hw, and_self]
  latches := ⟨hl, hm⟩

theorem othersKept_setPort (s : State) (c : Cam) (p : Port) : OthersKept c s (s.setPort c p) :=
  { OthersKept.rfl with ports := fun _ h => s.port_setPort_ne p h.symm }

theorem othersKept_setStore (s : State) (c : Cam) (x : CamStore) : OthersKept c s (s.setStore c x) :=
  { OthersKept.rfl with stores := fun _ h => s.store_setStore_ne x h.symm }

theorem othersKept_setTone (s : State) (c : Cam) (x : Tone) : OthersKept c s (s.setTone c x) :=
  { OthersKept.rfl with tones := fun _ h => s.tone_setTone_ne x h.symm }

theorem othersKept_setClarity (s : State) (c : Cam) (x : Clarity) : OthersKept c s (s.setClarity c x) :=
  { OthersKept.rfl with clarities := fun _ h => s.clarity_setClarity_ne x h.symm }

theorem othersKept_mapZonesOf (s : State) (c : Cam) (f : Zone → Zone) : OthersKept c s (s.mapZonesOf c f) :=
  { (OthersKept.rfl : OthersKept c s s) with
    windows := fun w h => ⟨s.mapZonesOf_window c f w, by simp [h]⟩ }

/-- A change of every window that leaves the windows of other cameras, every definition and every pending change. -/
theorem othersKept_mapWindows (s : State) {c : Cam} {f : Window → Window} (hf : ∀ w, w.serves c = false → f w = w)
    (ha : ∀ w, (f w).active = w.active) (hc : ∀ w, (f w).change = w.change) :
    OthersKept c s { s with windows := mapTable f s.windows } :=
  { OthersKept.rfl with
    windows := fun w h => ⟨(look_mapTable f s.windows w).trans (hf _ h), .refl _⟩
    changes := fun w => by
      have hl : State.window { s with windows := mapTable f s.windows } w = f (s.window w) := look_mapTable ..
      rw [hl]
      exact ⟨ha _, hc _⟩ }

theorem othersKept_rederive (s : State) (c : Cam) : OthersKept c s (s.rederive c) := by
  constructor
  case stores => exact fun _ h => s.rederive_store_ne h.symm
  all_goals simp

theorem othersKept_refreshHazard (s : State) (c : Cam) : OthersKept c s s.refreshHazard := by
  apply OthersKept.of_eq <;> simp

theorem Window.leaveStreaming_of_not_serves {w : Window} {c : Cam} (h : w.serves c = false) : w.leaveStreaming c = w := by
  simp [Window.leaveStreaming, h]

theorem othersKept_leaveStreaming (s : State) (c : Cam) : OthersKept c s (s.leaveStreaming c) := by
  unfold State.leaveStreaming
  dsimp only
  exact ((othersKept_mapZonesOf s c _).trans (othersKept_mapWindows _ (fun _ => Window.leaveStreaming_of_not_serves)
    (fun w => w.leaveStreaming_active c) fun w => w.leaveStreaming_change c)).trans (othersKept_setTone ..)

/-- A camera's frame from its three parts: what the link's operations leave, the other cameras' shares, and `Beside`. -/
theorem CameraFrame.of {c : Cam} {s t : State} (l : LinkOnly s t) (o : OthersKept c s t) (b : Beside s t) :
    CameraFrame c s t where
  toBeside := b
  ports := o.ports
  stores := o.stores
  tones := o.tones
  clarities := o.clarities
  windows := o.windows
  changes := o.changes
  latches := o.latches
  rest := by
    obtain ⟨held, mode, params, grids, views, selector, shapes, display, _, epoch, pending⟩ := l
    simp only [held, mode, params, grids, views, selector, shapes, display, epoch, pending]

theorem CameraFrame.others {c : Cam} {s t : State} (f : CameraFrame c s t) : OthersKept c s t :=
  ⟨f.ports, f.stores, f.tones, f.clarities, f.windows, f.changes, f.latches⟩

theorem CameraFrame.rfl {c : Cam} {s : State} : CameraFrame c s s := .of .rfl .rfl .rfl

theorem CameraFrame.trans {c : Cam} {s t u : State} (a : CameraFrame c s t) (b : CameraFrame c t u) : CameraFrame c s u where
  toBeside := a.toBeside.trans b.toBeside
  ports := (a.others.trans b.others).ports
  stores := (a.others.trans b.others).stores
  tones := (a.others.trans b.others).tones
  clarities := (a.others.trans b.others).clarities
  windows := (a.others.trans b.others).windows
  changes := (a.others.trans b.others).changes
  latches := (a.others.trans b.others).latches
  rest := by
    have ha := a.rest
    have hb := b.rest
    rw [← ha, ← hb]

theorem cameraFrame_drivePins (s : State) (c : Cam) : CameraFrame c s s.drivePins where
  toBeside := .of_eq rfl rfl
  ports _ _ := rfl
  stores _ _ := rfl
  tones _ _ := rfl
  clarities _ _ := rfl
  windows _ _ := ⟨rfl, rfl⟩
  changes _ := ⟨rfl, rfl⟩
  latches := ⟨rfl, rfl⟩
  rest := rfl

theorem cameraFrame_setPort (s : State) (c : Cam) (p : Port) : CameraFrame c s (s.setPort c p) :=
  .of (linkOnly_setPort ..) (othersKept_setPort ..) (.of_eq rfl rfl)

theorem cameraFrame_setStore (s : State) (c : Cam) (x : CamStore) : CameraFrame c s (s.setStore c x) :=
  .of (linkOnly_setStore ..) (othersKept_setStore ..) (.of_eq rfl rfl)

theorem cameraFrame_setTone (s : State) (c : Cam) (x : Tone) : CameraFrame c s (s.setTone c x) :=
  .of (linkOnly_setTone ..) (othersKept_setTone ..) (.of_eq rfl rfl)

theorem cameraFrame_setClarity (s : State) (c : Cam) (x : Clarity) : CameraFrame c s (s.setClarity c x) :=
  .of (linkOnly_setClarity ..) (othersKept_setClarity ..) (.of_eq rfl rfl)

theorem cameraFrame_mapZonesOf (s : State) (c : Cam) (f : Zone → Zone) : CameraFrame c s (s.mapZonesOf c f) :=
  .of (linkOnly_mapZonesOf ..) (othersKept_mapZonesOf ..) (.of_eq rfl rfl)

theorem cameraFrame_countTimes (s : State) (e : StatEvent) (c d : Cam) (n : Nat) :
    CameraFrame c s (s.countTimes e d n) :=
  .of (linkOnly_countTimes ..) (.of_eq rfl rfl rfl rfl rfl rfl rfl rfl) ⟨rfl, rfl, rfl, rfl, rfl⟩

theorem cameraFrame_count (s : State) (e : StatEvent) (c d : Cam) : CameraFrame c s (s.count e d) :=
  cameraFrame_countTimes ..

theorem cameraFrame_queueReport (s : State) (c : Cam) (r : Report) : CameraFrame c s (s.queueReport r) :=
  .of (linkOnly_queueReport ..) (.of_eq rfl rfl rfl rfl rfl rfl rfl rfl) (beside_queueReport ..)

theorem cameraFrame_reform (s : State) (c : Cam) : CameraFrame c s s.reform :=
  .of (linkOnly_reform _) (.of_eq rfl rfl rfl rfl rfl rfl rfl rfl) (beside_reform _)

theorem cameraFrame_rederive (s : State) (c : Cam) : CameraFrame c s (s.rederive c) :=
  .of (linkOnly_rederive ..) (othersKept_rederive ..) (beside_rederive ..)

theorem cameraFrame_refreshHazard (s : State) (c : Cam) : CameraFrame c s s.refreshHazard :=
  .of (linkOnly_refreshHazard _) (othersKept_refreshHazard ..) (beside_refreshHazard _)

theorem cameraFrame_leaveStreaming (s : State) (c : Cam) : CameraFrame c s (s.leaveStreaming c) :=
  .of (linkOnly_leaveStreaming ..) (othersKept_leaveStreaming ..)
    (.of_eq (s.leaveStreaming_control c) (s.leaveStreaming_cadence c))

theorem cameraFrame_setLink (s : State) (c : Cam) (new : LinkState) (cause : LinkCause) :
    CameraFrame c s (s.setLink c new cause) := by
  have hd : CameraFrame c s (s.departed c new) := by
    unfold State.departed
    split
    · exact cameraFrame_leaveStreaming ..
    · exact .rfl
  rw [State.setLink_eq]
  exact ((hd.trans (cameraFrame_setPort ..)).trans (cameraFrame_queueReport ..)).trans (cameraFrame_rederive ..)

end Sys2Proof.Machine
end

section
/-! PROOF. Camera links, third layer: the offer of a mode, the training sequence, REFUSED, OFF, and the parts of a frame close,
each by what it leaves in the port and the store of its camera; and `CameraFrame` for every event of a camera link. -/

namespace Sys2Proof.Machine

/-! ## Offers (R12, R31) -/

/-- The camera's store once its port is offered mode `m`: a change of mode has emptied the segment table (R12, R31). -/
def State.offeredStore (s : State) (c : Cam) (m : CamMode) : CamStore :=
  if (s.port c).mode = some m then s.store c else (s.store c).emptied (modeSegments m)

@[simp] theorem CamStore.emptied_health (st : CamStore) (n : Nat) : (st.emptied n).health = st.health := rfl

@[simp] theorem State.offeredStore_health (s : State) (c : Cam) (m : CamMode) :
    (s.offeredStore c m).health = (s.store c).health := by
  unfold State.offeredStore; split <;> rfl

/-- Port and store of a camera are written in either order. -/
theorem State.setStore_setPort (s : State) (c d : Cam) (p : Port) (x : CamStore) :
    (s.setPort d p).setStore c x = (s.setStore c x).setPort d p := rfl

theorem State.offer_eq (s : State) (c : Cam) (m : CamMode) :
    s.offer c m = (s.setStore c (s.offeredStore c m)).setPort c ((s.port c).offer m s.params.link.trainWaitMs) := by
  unfold State.offer State.offeredStore
  dsimp only
  split <;> simp

/-- A port at attempt 1 of a training sequence on mode `m`, its link state apart (R12, R22). -/
def Port.begun (p : Port) (m : CamMode) (ms : Nat) : Port :=
  Port.issue { p with
    phase := .noFrame, announceTimer := none, mode := some m, attempts := 1, trainExpected := 0, trainBad := 0
    trainTimer := some ms, resultMap := List.replicate (modeSegments m) false } (.offer m)

theorem State.beginSequence_eq (s : State) (c : Cam) (m : CamMode) :
    s.beginSequence c m
      = (s.setStore c (s.offeredStore c m)).setPort c ((s.port c).begun m s.params.link.trainWaitMs) := by
  have hs : State.offeredStore (s.setPort c { (s.port c).abandon with announceTimer := none }) c m
      = s.offeredStore c m := by
    simp [State.offeredStore, Port.abandon]
  unfold State.beginSequence
  dsimp only
  rw [State.offer_eq, hs, State.setStore_setPort]
  simp only [State.port_setPort, State.setPort_setPort, Port.offer, Port.begun, Port.issue_eq, State.setPort_params]
  rfl

/-- The link state of a port that begins a sequence may be set before or after. -/
theorem Port.begun_link (p : Port) (m : CamMode) (ms : Nat) (l : LinkState) :
    { p.begun m ms with link := l } = { p with link := l }.begun m ms := by
  simp only [Port.begun, Port.issue_eq]
  rfl

@[simp] theorem Port.issue_link (p : Port) (r : BackRecord) : (p.issue r).link = p.link := by rw [Port.issue_eq]
@[simp] theorem Port.issue_mode (p : Port) (r : BackRecord) : (p.issue r).mode = p.mode := by rw [Port.issue_eq]
@[simp] theorem Port.issue_preference (p : Port) (r : BackRecord) : (p.issue r).preference = p.preference := by
  rw [Port.issue_eq]
@[simp] theorem Port.issue_announceList (p : Port) (r : BackRecord) : (p.issue r).announceList = p.announceList := by
  rw [Port.issue_eq]
@[simp] theorem Port.issue_common (p : Port) (r : BackRecord) : (p.issue r).common = p.common := by rw [Port.issue_eq]
@[simp] theorem Port.issue_phase (p : Port) (r : BackRecord) : (p.issue r).phase = p.phase := by rw [Port.issue_eq]

/-! ## A port, its store and the control link replaced, and then a change of link state -/

/-- The state with port and store of camera `c` and the control link replaced. -/
def State.prepared (s : State) (c : Cam) (p : Port) (x : CamStore) (k : Control) : State :=
  { (s.setStore c x).setPort c p with control := k }

theorem State.prepared_port_only (s : State) (c : Cam) (p : Port) (k : Control) :
    s.prepared c p (s.store c) k = { s.setPort c p with control := k } := by
  rw [State.prepared, State.setStore_store]

/-- What an event of camera `c` leaves that prepares port `p`, store `x` and control link `k` and ends in a change of link
state from that of `s`: `t` against `s`. -/
structure LinkMoved (c : Cam) (s t : State) (p : Port) (x : CamStore) (k : Control) (new : LinkState) (cause : LinkCause) :
    Prop where
  port : t.port c = { p with link := new }
  store : t.store c = { x with
    health := deriveHealth new x.freeze (staleOrEmpty x.table) (s.clarity c).state s.params.store }
  control : t.control = k.queueAll (.link c new cause :: healthReport s t c)
  follows : if (s.port c).link = .streaming ∧ new ≠ .streaming then LeavesStreaming c s t else KeepsStreaming c s t
  clarity : t.clarity c = s.clarity c
  seams : t.seams = s.seams
  choices : t.choices = s.choices
  frame : CameraFrame c s t

/-- Out of OFF and STREAMING the camera is ABSENT (R36). -/
theorem LinkMoved.absent {c : Cam} {s t : State} {p : Port} {x : CamStore} {k : Control} {new : LinkState}
    {cause : LinkCause} (h : LinkMoved c s t p x k new cause) (h1 : new ≠ .off) (h2 : new ≠ .streaming) :
    t.store c = { x with health := .absent } := by
  rw [h.store, deriveHealth_absent h1 h2]

theorem cameraFrame_control (s : State) (c : Cam) {k : Control} (h1 : k.rate = s.control.rate) (h2 : k.rx = s.control.rx) :
    CameraFrame c s { s with control := k } where
  toBeside := ⟨h1, h2, rfl, rfl, rfl⟩
  ports _ _ := rfl
  stores _ _ := rfl
  tones _ _ := rfl
  clarities _ _ := rfl
  windows _ _ := ⟨rfl, rfl⟩
  changes _ := ⟨rfl, rfl⟩
  latches := ⟨rfl, rfl⟩
  rest := rfl

theorem State.prepared_setLink {s : State} {c : Cam} {p : Port} {x : CamStore} {k : Control}
    (hp : p.link = (s.port c).link) (hx : x.health = (s.store c).health) (h1 : k.rate = s.control.rate)
    (h2 : k.rx = s.control.rx) (new : LinkState) (cause : LinkCause) :
    LinkMoved c s ((s.prepared c p x k).setLink c new cause).drivePins p x k new cause := by
  have hport : (s.prepared c p x k).port c = p := s.port_setPort c p
  have hstore : (s.prepared c p x k).store c = x := s.store_setStore c x
  have hkeeps : KeepsStreaming c s (s.prepared c p x k) := ⟨rfl, rfl, rfl⟩
  have hframe : CameraFrame c s (s.prepared c p x k) :=
    ((cameraFrame_setStore ..).trans (cameraFrame_setPort ..)).trans (cameraFrame_control _ _ h1 h2)
  generalize hs1 : s.prepared c p x k = s1 at *
  have hcl : s1.clarity = s.clarity ∧ s1.params = s.params ∧ s1.control = k ∧ s1.seams = s.seams
      ∧ s1.choices = s.choices := by
    subst hs1
    exact ⟨rfl, rfl, rfl, rfl, rfl⟩
  obtain ⟨hclarity, hparams, hcontrol, hseams, hchoices⟩ := hcl
  constructor
  · rw [State.drivePins_port, State.setLink_port, hport]
  · rw [State.drivePins_store, State.setLink_store, hstore, hclarity, hparams]
  · rw [State.drivePins_control, State.setLink_control_from (s := s) (by rw [hstore, hx]), hcontrol]
    rfl
  · split
    · next h =>
      exact (hkeeps.leaves (State.setLink_leaves (by rw [hport, hp, h.1]) h.2 cause)).keeps (keepsStreaming_drivePins ..)
    · next h =>
      refine (hkeeps.trans (State.setLink_keeps ?_ cause)).trans (keepsStreaming_drivePins ..)
      rw [hport, hp]
      tauto
  · rw [State.drivePins_clarity, State.setLink_clarity, hclarity]
  · rw [State.drivePins_seams, State.setLink_seams, hseams]
  · rw [State.drivePins_choices, State.setLink_choices, hchoices]
  · exact (hframe.trans (cameraFrame_setLink ..)).trans (cameraFrame_drivePins ..)

/-- Between two link states of an ABSENT camera nothing changes but the link state, with its LINK report. -/
theorem State.prepared_setLink_absent {s : State} {c : Cam} {p : Port} {x : CamStore} {k : Control}
    (hp : p.link ≠ .streaming) (hx : x.health = .absent) {new : LinkState} (h1 : new ≠ .off) (h2 : new ≠ .streaming)
    (cause : LinkCause) :
    (s.prepared c p x k).setLink c new cause
      = s.prepared c { p with link := new } x (k.queueReport (.link c new cause)) := by
  have hport : (s.prepared c p x k).port c = p := s.port_setPort c p
  have hstore : (s.prepared c p x k).store c = x := s.store_setStore c x
  rw [State.setLink_of_absent (by rwa [hport]) (by rwa [hstore]) h1 h2, hport]
  unfold State.prepared
  rw [← State.setPort_setPort (s.setStore c x) c p { p with link := new }]
  rfl

/-! ## `CameraFrame` of the link's events -/

theorem cameraFrame_offer (s : State) (c : Cam) (m : CamMode) : CameraFrame c s (s.offer c m) := by
  rw [State.offer_eq]
  exact (cameraFrame_setStore ..).trans (cameraFrame_setPort ..)

theorem cameraFrame_beginSequence (s : State) (c : Cam) (m : CamMode) : CameraFrame c s (s.beginSequence c m) := by
  rw [State.beginSequence_eq]
  exact (cameraFrame_setStore ..).trans (cameraFrame_setPort ..)

theorem cameraFrame_enterRefused (s : State) (c : Cam) (cause : LinkCause) : CameraFrame c s (s.enterRefused c cause) :=
  (cameraFrame_setPort ..).trans (cameraFrame_setLink ..)

theorem cameraFrame_goOff (s : State) (c : Cam) (cause : LinkCause) : CameraFrame c s (s.goOff c cause) :=
  (((((cameraFrame_setPort ..).trans (cameraFrame_setStore ..)).trans (cameraFrame_setClarity ..)).trans
    (cameraFrame_mapZonesOf ..)).trans (cameraFrame_setLink ..)).trans (cameraFrame_reform ..)

theorem cameraFrame_leaveOff (s : State) (c : Cam) : CameraFrame c s (s.leaveOff c) := by
  unfold State.leaveOff
  dsimp only
  split
  · split
    · exact (cameraFrame_setPort ..).trans (cameraFrame_setLink ..)
    · exact cameraFrame_setLink ..
  · exact .rfl

theorem cameraFrame_gainCarrier (s : State) (c : Cam) : CameraFrame c s (s.gainCarrier c) := by
  unfold State.gainCarrier
  dsimp only
  split
  · exact (cameraFrame_setPort ..).trans (cameraFrame_setLink ..)
  · exact cameraFrame_setPort ..

theorem cameraFrame_loseCarrier (s : State) (c : Cam) : CameraFrame c s (s.loseCarrier c) := by
  unfold State.loseCarrier
  dsimp only
  split
  case h_3 | h_4 => exact ((cameraFrame_setPort ..).trans (cameraFrame_count ..)).trans (cameraFrame_setLink ..)
  case h_1 | h_2 => exact (cameraFrame_setPort ..).trans (cameraFrame_setLink ..)
  all_goals exact cameraFrame_setPort ..

theorem cameraFrame_takeAnnounce (s : State) (c : Cam) (r : AnnounceRecord) : CameraFrame c s (s.takeAnnounce c r) := by
  unfold State.takeAnnounce
  dsimp only
  split
  · exact (cameraFrame_setPort ..).trans (cameraFrame_enterRefused ..)
  · split
    · exact (cameraFrame_setPort ..).trans (cameraFrame_beginSequence ..)
    · exact ((cameraFrame_setPort ..).trans (cameraFrame_beginSequence ..)).trans (cameraFrame_setLink ..)

theorem cameraFrame_announceArrives (s : State) (c : Cam) (r : AnnounceRecord) (good : Bool) :
    CameraFrame c s (s.announceArrives c r good) := by
  unfold State.announceArrives
  dsimp only
  split
  · exact cameraFrame_takeAnnounce ..
  · exact .rfl

theorem cameraFrame_announceExpires (s : State) (c : Cam) : CameraFrame c s (s.announceExpires c) := by
  unfold State.announceExpires
  dsimp only
  split
  · split
    · exact cameraFrame_setPort ..
    · exact (cameraFrame_setPort ..).trans (cameraFrame_enterRefused ..)
  · exact .rfl

theorem cameraFrame_judgeAttempt (s : State) (c : Cam) : CameraFrame c s (s.judgeAttempt c) := by
  unfold State.judgeAttempt
  dsimp only
  split
  · exact ((cameraFrame_setPort ..).trans (cameraFrame_setStore ..)).trans (cameraFrame_setLink ..)
  · have h := (cameraFrame_setPort s c (Port.issue { s.port c with trainTimer := none } .retry)).trans
      (cameraFrame_count _ .retrain c c)
    split
    · split
      · exact h
      · exact (h.trans (cameraFrame_offer ..)).trans (cameraFrame_setPort ..)
    · exact h.trans (cameraFrame_enterRefused ..)

theorem cameraFrame_trainSegment (s : State) (c : Cam) (i : Nat) (good : Bool) :
    CameraFrame c s (s.trainSegment c i good) := by
  unfold State.trainSegment
  dsimp only
  split
  · exact .rfl
  · split
    · exact cameraFrame_setPort ..
    · split
      · exact (cameraFrame_setPort ..).trans (cameraFrame_judgeAttempt ..)
      · exact cameraFrame_setPort ..

theorem cameraFrame_trainExpires (s : State) (c : Cam) : CameraFrame c s (s.trainExpires c) := by
  unfold State.trainExpires
  dsimp only
  split
  · exact (cameraFrame_setPort ..).trans (cameraFrame_judgeAttempt ..)
  · exact .rfl

theorem cameraFrame_backRecordSent (s : State) (c : Cam) : CameraFrame c s (s.backRecordSent c) := by
  unfold State.backRecordSent
  dsimp only
  split
  · exact .rfl
  · exact cameraFrame_setPort ..

theorem cameraFrame_takePreference (s : State) (c : Cam) (ms : List CamMode) : CameraFrame c s (s.takePreference c ms) := by
  unfold State.takePreference
  dsimp only
  split
  · split
    · exact (cameraFrame_setPort ..).trans (cameraFrame_enterRefused ..)
    · split
      · exact ((cameraFrame_setPort ..).trans (cameraFrame_beginSequence ..)).trans (cameraFrame_setLink ..)
      · exact (cameraFrame_setPort ..).trans (cameraFrame_beginSequence ..)
  · exact cameraFrame_setPort ..

/-! ## Windows at a frame open, a segment and a frame close -/

theorem Window.active_camera {w : Window} {c : Cam} {d : WindowDef} (ha : w.active = some d) :
    w.serves c = decide (d.camera = c) := by
  simp [Window.serves, ha]

theorem Window.sample_of_not_serves {w : Window} {c : Cam} (h : w.serves c = false) (i : Nat) (lum : Nat → Nat → Nat) :
    w.sample c i lum = w := by
  unfold Window.sample
  split
  · next d r ha hr => simp_all [Window.active_camera ha]
  · rfl

theorem Window.closeFrame_of_not_serves {w : Window} {c : Cam} (h : w.serves c = false) (n : Byte) (e : Nat)
    (map : List Bool) : w.closeFrame c n e map = w := by
  unfold Window.closeFrame
  split
  · next d r ha hr => simp_all [Window.active_camera ha]
  · rfl

@[simp] theorem Window.openFrame_active (w : Window) (c : Cam) (m : CamMode) : (w.openFrame c m).active = w.active := by
  unfold Window.openFrame
  split
  · split <;> rfl
  · rfl

@[simp] theorem Window.openFrame_change (w : Window) (c : Cam) (m : CamMode) : (w.openFrame c m).change = w.change := by
  unfold Window.openFrame
  split
  · split <;> rfl
  · rfl

@[simp] theorem Window.sample_active (w : Window) (c : Cam) (i : Nat) (lum : Nat → Nat → Nat) :
    (w.sample c i lum).active = w.active := by
  unfold Window.sample
  split
  · split <;> rfl
  · rfl

@[simp] theorem Window.sample_change (w : Window) (c : Cam) (i : Nat) (lum : Nat → Nat → Nat) :
    (w.sample c i lum).change = w.change := by
  unfold Window.sample
  split
  · split <;> rfl
  · rfl

@[simp] theorem Window.closeFrame_active (w : Window) (c : Cam) (n : Byte) (e : Nat) (map : List Bool) :
    (w.closeFrame c n e map).active = w.active := by
  unfold Window.closeFrame
  split
  · split <;> rfl
  · rfl

@[simp] theorem Window.closeFrame_change (w : Window) (c : Cam) (n : Byte) (e : Nat) (map : List Bool) :
    (w.closeFrame c n e map).change = w.change := by
  unfold Window.closeFrame
  split
  · split <;> rfl
  · rfl

theorem cameraFrame_mapWindows (s : State) {c : Cam} {f : Window → Window} (hf : ∀ w, w.serves c = false → f w = w)
    (ha : ∀ w, (f w).active = w.active) (hc : ∀ w, (f w).change = w.change) :
    CameraFrame c s { s with windows := mapTable f s.windows } :=
  .of (linkOnly_windows ..) (othersKept_mapWindows s hf ha hc) (.of_eq rfl rfl)

theorem cameraFrame_ignoreFrame (s : State) (c : Cam) : CameraFrame c s (s.ignoreFrame c) :=
  (cameraFrame_count ..).trans (cameraFrame_setPort ..)

theorem cameraFrame_takeSegment (s : State) (c : Cam) (i : Nat) (body : SegmentBody) (good : Bool) :
    CameraFrame c s (s.takeSegment c i body good) := by
  unfold State.takeSegment State.writeSegment
  dsimp only
  exact (((cameraFrame_setStore ..).trans (cameraFrame_mapWindows _ (fun _ h => Window.sample_of_not_serves h _ _)
    (fun _ => Window.sample_active ..) fun _ => Window.sample_change ..)).trans (cameraFrame_countTimes ..)).trans
    (cameraFrame_setPort ..)

theorem cameraFrame_segmentArrives (s : State) (c : Cam) (i : Nat) (body : SegmentBody) (good : Bool) :
    CameraFrame c s (s.segmentArrives c i body good) := by
  unfold State.segmentArrives
  dsimp only
  split
  · exact .rfl
  · split
    · exact cameraFrame_count ..
    · exact .rfl
    · split
      · exact cameraFrame_count ..
      · exact cameraFrame_takeSegment ..

/-! ## The parts of a frame close -/

theorem cameraFrame_judgeClarity (s : State) (c : Cam) (cl : Clarity) : CameraFrame c s (s.judgeClarity c cl) :=
  ((cameraFrame_setClarity ..).trans (cameraFrame_rederive ..)).trans (cameraFrame_reform ..)

theorem cameraFrame_storeClose (s : State) (c : Cam) : CameraFrame c s (s.storeClose c) :=
  (cameraFrame_setStore s c _).trans (cameraFrame_rederive ..)

theorem cameraFrame_choices (s : State) (c : Cam) (n : Nat) : CameraFrame c s { s with choices := n } where
  toBeside := .of_eq rfl rfl
  ports _ _ := rfl
  stores _ _ := rfl
  tones _ _ := rfl
  clarities _ _ := rfl
  windows _ _ := ⟨rfl, rfl⟩
  changes _ := ⟨rfl, rfl⟩
  latches := ⟨rfl, rfl⟩
  rest := rfl

theorem cameraFrame_seams (s : State) (c : Cam) (x : Vector SeamPair 4) : CameraFrame c s { s with seams := x } where
  toBeside := .of_eq rfl rfl
  ports _ _ := rfl
  stores _ _ := rfl
  tones _ _ := rfl
  clarities _ _ := rfl
  windows _ _ := ⟨rfl, rfl⟩
  changes _ := ⟨rfl, rfl⟩
  latches := ⟨rfl, rfl⟩
  rest := rfl

theorem cameraFrame_storeAndClarityClose (s : State) (c : Cam) : CameraFrame c s (s.storeAndClarityClose c) := by
  unfold State.storeAndClarityClose
  dsimp only
  have h := cameraFrame_choices s c (s.choices + 1)
  split
  · exact (cameraFrame_setClarity ..).trans (cameraFrame_storeClose ..)
  · split
    · exact (h.trans (cameraFrame_storeClose ..)).trans (cameraFrame_judgeClarity ..)
    · exact (h.trans (cameraFrame_judgeClarity ..)).trans (cameraFrame_storeClose ..)

theorem cameraFrame_zones (s : State) {c : Cam} {x : Vector (Option Zone) 16}
    (h : ∀ w, (s.window w).serves c = false → look x w = s.zone w) :
    CameraFrame c s { s with zones := { s.zones with zones := x } } where
  toBeside := .of_eq rfl rfl
  ports _ _ := rfl
  stores _ _ := rfl
  tones _ _ := rfl
  clarities _ _ := rfl
  windows w hw := ⟨rfl, h w hw⟩
  changes _ := ⟨rfl, rfl⟩
  latches := ⟨rfl, rfl⟩
  rest := rfl

theorem cameraFrame_zoneClose (s : State) (c : Cam) : CameraFrame c s (s.zoneClose c) := by
  unfold State.zoneClose
  dsimp only
  refine .trans (cameraFrame_zones s fun w h => ?_) (cameraFrame_refreshHazard _ c)
  rw [look_ofFn, h]
  rfl

theorem cameraFrame_toneClose (s : State) (c : Cam) : CameraFrame c s (s.toneClose c) :=
  ((cameraFrame_seams s c _).trans (cameraFrame_setTone ..)).trans (cameraFrame_setPort ..)

theorem cameraFrame_judgeFrame (s : State) (c : Cam) : CameraFrame c s (s.judgeFrame c) := by
  unfold State.judgeFrame
  dsimp only
  split
  · exact cameraFrame_setPort ..
  · split
    · exact cameraFrame_setPort ..
    · split
      · exact (((cameraFrame_setPort ..).trans (cameraFrame_count ..)).trans (cameraFrame_beginSequence ..)).trans
          (cameraFrame_setLink ..)
      · exact (cameraFrame_setPort ..).trans (cameraFrame_queueReport ..)

/-- The part of a frame close before the tone controller: no frame is open, the missing segments are counted, and the
windows have their results (R21, R96). -/
def State.frameEnds (s : State) (c : Cam) : State :=
  let p := s.port c
  let s1 := (s.setPort c { p with phase := .noFrame }).countTimes .segmentError c (p.segments - p.expected)
  { s1 with windows := mapTable (Window.closeFrame · c p.frameNumber p.exposure p.resultMap) s1.windows }

/-- The frame close but for the downgrade judgement (R21). -/
def State.closed (s : State) (c : Cam) : State := (((s.frameEnds c).toneClose c).storeAndClarityClose c).zoneClose c

theorem State.frameClose_eq (s : State) (c : Cam) : s.frameClose c = (s.closed c).judgeFrame c := rfl

theorem cameraFrame_frameEnds (s : State) (c : Cam) : CameraFrame c s (s.frameEnds c) := by
  unfold State.frameEnds
  dsimp only
  exact ((cameraFrame_setPort ..).trans (cameraFrame_countTimes ..)).trans
    (cameraFrame_mapWindows _ (fun _ h => Window.closeFrame_of_not_serves h _ _ _) (fun _ => Window.closeFrame_active ..)
      fun _ => Window.closeFrame_change ..)

theorem cameraFrame_closed (s : State) (c : Cam) : CameraFrame c s (s.closed c) := by
  unfold State.closed
  exact (((cameraFrame_frameEnds ..).trans (cameraFrame_toneClose ..)).trans (cameraFrame_storeAndClarityClose ..)).trans
    (cameraFrame_zoneClose ..)

end Sys2Proof.Machine
end

section
/-! PROOF. The law of the mode lists (R9 to R12). It reads the ports alone: a command that leaves the ports keeps it, and for an
event of one camera the port of that camera has to be looked at. -/

namespace Sys2Proof.Machine

/-! ## Requests that leave the ports -/

/-- A request's effect leaves the ports. -/
def LeavesPorts (f : State → Answer) : Prop := ∀ s, (f s).state.ports = s.ports

theorem LeavesPorts.run {α : Type} {f : α → State → Answer} (h : ∀ x, LeavesPorts (f x)) (b : Body α) :
    LeavesPorts (Body.run b f) := by
  cases b with
  | badLength => exact fun _ => rfl
  | fields x => exact h x

/-- A run of re-derivations leaves the ports. -/
theorem foldl_rederive_ports (l : List Cam) (s : State) : (l.foldl (fun t c => t.rederive c) s).ports = s.ports := by
  induction l generalizing s with
  | nil => rfl
  | cons c l ih => exact (ih _).trans (s.rederive_ports c)

theorem setChannel_ports (s : State) (id : ChannelId) (ch : Channel) : (s.setChannel id ch).ports = s.ports := by
  cases id <;> rfl

theorem leavesPorts_silence (x : Unit) : LeavesPorts (silence x) := fun _ => rfl

theorem leavesPorts_cadence (f : CadenceFields) : LeavesPorts (setParametersCadence f) := by
  intro s
  unfold setParametersCadence
  split
  · rfl
  · exact setChannel_ports ..

theorem leavesPorts_windowSet (f : WindowFields) : LeavesPorts (windowSet f) := by
  intro s
  unfold windowSet
  dsimp only
  repeat' split
  all_goals rfl

theorem leavesPorts_windowDrop (id : Nat) : LeavesPorts (windowDrop id) := by
  intro s
  unfold windowDrop
  dsimp only
  repeat' split
  all_goals rfl

theorem leavesPorts_readMeter (id : Nat) : LeavesPorts (readMeter id) := by
  intro s
  unfold readMeter
  split <;> rfl

theorem leavesPorts_clarity (f : ClarityFields) : LeavesPorts (setParametersClarity f) := by
  intro s
  unfold setParametersClarity
  dsimp only
  repeat' split
  all_goals rfl

theorem leavesPorts_clarityLimits (p : ClarityLimits) : LeavesPorts (setParametersClarityLimits p) := fun _ => rfl

theorem leavesPorts_zone (p : ZoneParams) : LeavesPorts (setParametersZone p) := fun _ => rfl

theorem leavesPorts_identify (x : Unit) : LeavesPorts (identify x) := fun _ => rfl

theorem leavesPorts_status (x : Unit) : LeavesPorts (status x) := fun _ => rfl

theorem leavesPorts_counterSelect (f : CounterFields) : LeavesPorts (counterSelect f) := by
  intro s
  unfold counterSelect
  split <;> rfl

theorem leavesPorts_counterRead (x : Unit) : LeavesPorts (counterRead x) := fun _ => rfl

theorem leavesPorts_unknownRequest (kind : Byte) : LeavesPorts (unknownRequest kind) := by
  intro s
  unfold unknownRequest
  repeat' split
  all_goals rfl

theorem leavesPorts_store (p : StoreParams) : LeavesPorts (setParametersStore p) :=
  fun _ => foldl_rederive_ports ..

theorem leavesPorts_tone (f : ToneFields) : LeavesPorts (setParametersTone f) := by
  intro s
  unfold setParametersTone
  split <;> rfl

theorem leavesPorts_toneLimits (p : ToneLimits) : LeavesPorts (setParametersToneLimits p) := fun _ => rfl

theorem leavesPorts_seamSet (f : SeamFields) : LeavesPorts (seamSet f) := by
  intro s
  unfold seamSet
  repeat' split
  all_goals rfl

theorem leavesPorts_link (p : LinkParams) : LeavesPorts (setParametersLink p) := fun _ => rfl

theorem leavesPorts_readCamera (camera : Nat) : LeavesPorts (readCamera camera) := by
  intro s
  unfold readCamera
  split <;> rfl

theorem leavesPorts_gridBegin (f : GridBeginFields) : LeavesPorts (gridBegin f) := by
  intro s
  unfold gridBegin
  repeat' split
  all_goals rfl

theorem leavesPorts_gridNodes (f : GridNodesFields) : LeavesPorts (gridNodes f) := by
  intro s
  unfold gridNodes
  repeat' split
  all_goals rfl

theorem leavesPorts_gridEnd (id : Nat) : LeavesPorts (gridEnd id) := by
  intro s
  unfold gridEnd
  repeat' split
  all_goals rfl

theorem leavesPorts_gridDrop (id : Nat) : LeavesPorts (gridDrop id) := by
  intro s
  unfold gridDrop
  repeat' split
  all_goals rfl

theorem leavesPorts_shapeSet (f : ShapeFields) : LeavesPorts (shapeSet f) := by
  intro s
  unfold shapeSet
  repeat' split
  all_goals rfl

theorem leavesPorts_shapeDrop (id : Nat) : LeavesPorts (shapeDrop id) := by
  intro s
  unfold shapeDrop
  repeat' split
  all_goals rfl

theorem leavesPorts_setOverlayList (f : OverlayListFields) : LeavesPorts (setOverlayList f) := by
  intro s
  unfold setOverlayList
  repeat' split
  all_goals rfl

theorem leavesPorts_viewSet (f : ViewSetFields) : LeavesPorts (viewSet f) := by
  intro s
  unfold viewSet
  split <;> rfl

theorem leavesPorts_paneSet (f : PaneSetFields) : LeavesPorts (paneSet f) := by
  intro s
  unfold paneSet
  dsimp only
  repeat' split
  all_goals rfl

theorem leavesPorts_paneDrop (f : PaneDropFields) : LeavesPorts (paneDrop f) := by
  intro s
  unfold paneDrop
  dsimp only
  repeat' split
  all_goals rfl

theorem leavesPorts_viewMapSet (pairs : List (Nat × Nat)) : LeavesPorts (viewMapSet pairs) := by
  intro s
  unfold viewMapSet
  repeat' split
  all_goals rfl

theorem leavesPorts_applyTables (x : Unit) : LeavesPorts (applyTables x) := by
  intro s
  unfold applyTables
  split <;> rfl

theorem leavesPorts_readTable (f : ReadTableFields) : LeavesPorts (readTable f) := by
  intro s
  unfold readTable
  split <;> rfl

theorem leavesPorts_vehicleState (record : List Byte) : LeavesPorts (vehicleState record) := by
  intro s
  unfold vehicleState
  split
  · rfl
  · rfl
  · exact (selectorOnly_vehicleArrives ..).ports

theorem leavesPorts_situation (p : SituationParams) : LeavesPorts (setParametersSituation p) :=
  fun _ => (selectorOnly_rerank _).ports

theorem leavesPorts_forceView (f : ForceFields) : LeavesPorts (forceView f) := by
  intro s
  unfold forceView
  split
  · split
    · rfl
    · exact (selectorOnly_endForce s .replaced).ports
  · rfl

theorem leavesPorts_releaseView (x : Unit) : LeavesPorts (releaseView x) := by
  intro s
  unfold releaseView
  split
  · exact (selectorOnly_endForce s .released).ports
  · rfl

end Sys2Proof.Machine
end

section
/-! PROOF. Every step keeps the law of the mode lists: one fact for each event that touches a port, and the step put together
from them. -/

namespace Sys2Proof.Machine

/-! ## The law on one port -/

/-- The law of the mode lists on one port (R10, R12). -/
def Port.ModesOk (p : Port) : Prop :=
  p.common = commonList p.preference p.announceList
    ∧ (p.link = .training ∨ p.link = .streaming → ∃ m, p.mode = some m ∧ m ∈ p.preference ∧ m ∈ p.announceList)

/-- What the law reads of a port. -/
def Port.modes (p : Port) : LinkState × Option CamMode × List CamMode × List CamMode × List CamMode :=
  (p.link, p.mode, p.preference, p.announceList, p.common)

theorem State.modeLaw_iff (s : State) : s.ModeLaw ↔ ∀ c, (s.port c).ModesOk := Iff.rfl

theorem mem_commonList {m : CamMode} {p a : List CamMode} : m ∈ commonList p a ↔ m ∈ p ∧ m ∈ a := by
  simp [commonList]

/-- The next lower mode is one of the common list (R10). -/
theorem nextLower?_mem {m n : CamMode} {l : List CamMode} (h : nextLower? m l = some n) : n ∈ l := by
  induction l with
  | nil => simp [nextLower?] at h
  | cons x l ih =>
    unfold nextLower? at h
    split at h
    · exact List.mem_cons_of_mem _ (List.mem_of_head? h)
    · exact List.mem_cons_of_mem _ (ih h)

theorem Port.ModesOk.congr {p q : Port} (h : p.ModesOk) (e : q.modes = p.modes) : q.ModesOk := by
  simp only [Port.modes, Prod.mk.injEq] at e
  obtain ⟨hl, hm, hp, ha, hc⟩ := e
  unfold Port.ModesOk
  rw [hl, hm, hp, ha, hc]
  exact h

/-- Outside TRAINING and STREAMING the common list alone matters. -/
theorem Port.ModesOk.of_idle {p : Port} (h : p.common = commonList p.preference p.announceList) (h1 : p.link ≠ .training)
    (h2 : p.link ≠ .streaming) : p.ModesOk :=
  ⟨h, fun h' => (h'.elim h1 h2).elim⟩

theorem Port.ModesOk.of_mem {p : Port} {m : CamMode} (h : p.common = commonList p.preference p.announceList)
    (hm : p.mode = some m) (hc : m ∈ p.common) : p.ModesOk :=
  ⟨h, fun _ => ⟨m, hm, mem_commonList.mp (h ▸ hc)⟩⟩

/-- A port that begins a sequence on a mode of its common list. -/
theorem Port.ModesOk.begun {p : Port} {m : CamMode} (h : p.common = commonList p.preference p.announceList)
    (hc : m ∈ p.common) (ms : Nat) : (p.begun m ms).ModesOk := by
  refine Port.ModesOk.of_mem (m := m) ?_ ?_ ?_
  · simpa [Port.begun] using h
  · simp [Port.begun]
  · simpa [Port.begun] using hc

/-- A mode of a port in TRAINING or STREAMING is one of its common list. -/
theorem Port.ModesOk.mode_mem {p : Port} (h : p.ModesOk) (hl : p.link = .training ∨ p.link = .streaming) :
    ∃ m, p.mode = some m ∧ m ∈ p.common := by
  obtain ⟨m, hm, hp⟩ := h.2 hl
  exact ⟨m, hm, h.1 ▸ mem_commonList.mpr hp⟩

/-- An event that leaves the other cameras' ports keeps the law if it keeps it on its own. -/
theorem State.ModeLaw.of_port {s t : State} {c : Cam} (h : s.ModeLaw) (ho : ∀ d, d ≠ c → t.port d = s.port d)
    (hc : (t.port c).ModesOk) : t.ModeLaw := by
  intro d
  by_cases hd : d = c
  · subst hd; exact hc
  · have hp : (t.port d).ModesOk := by rw [ho d hd]; exact h d
    exact hp

theorem State.ModeLaw.of_ports {s t : State} (h : s.ModeLaw) (e : t.ports = s.ports) : t.ModeLaw := by
  intro c
  have hp : t.port c = s.port c := by simp only [State.port, e]
  rw [hp]
  exact h c

theorem State.ModeLaw.of_modes {s t : State} (h : s.ModeLaw) (e : ∀ c, (t.port c).modes = (s.port c).modes) : t.ModeLaw :=
  (State.modeLaw_iff t).mpr fun c => Port.ModesOk.congr (h c) (e c)

/-! ## The events of a port -/

section
variable {s : State} {c : Cam}

theorem modesOk_setLink_idle (h : (s.port c).common = commonList (s.port c).preference (s.port c).announceList)
    {new : LinkState} (h1 : new ≠ .training) (h2 : new ≠ .streaming) (cause : LinkCause) :
    ((s.setLink c new cause).port c).ModesOk := by
  rw [State.setLink_port]
  exact .of_idle h h1 h2

theorem modesOk_enterRefused (h : (s.port c).common = commonList (s.port c).preference (s.port c).announceList)
    (cause : LinkCause) : ((s.enterRefused c cause).port c).ModesOk :=
  modesOk_setLink_idle (by simpa [Port.abandon, Port.stopTimers] using h) (by decide) (by decide) cause

theorem modesOk_beginSequence (h : (s.port c).common = commonList (s.port c).preference (s.port c).announceList)
    {m : CamMode} (hm : m ∈ (s.port c).common) : ((s.beginSequence c m).port c).ModesOk := by
  rw [State.beginSequence_eq, State.port_setPort]
  exact .begun h hm _

theorem modesOk_beginSequence_setLink
    (h : (s.port c).common = commonList (s.port c).preference (s.port c).announceList)
    {m : CamMode} (hm : m ∈ (s.port c).common) (new : LinkState) (cause : LinkCause) :
    (((s.beginSequence c m).setLink c new cause).port c).ModesOk := by
  rw [State.setLink_port, State.beginSequence_eq, State.port_setPort, Port.begun_link]
  exact .begun (p := { s.port c with link := new }) h hm _

theorem modesOk_goOff (cause : LinkCause) : ((s.goOff c cause).port c).ModesOk := by
  unfold State.goOff
  dsimp only
  rw [State.reform_port]
  refine modesOk_setLink_idle ?_ (by decide) (by decide) cause
  simp [Port.offValues, Port.initial, commonList]

theorem State.ModeLaw.goOffUnlessOff (h : s.ModeLaw) (cause : LinkCause) : (s.goOffUnlessOff c cause).ModeLaw := by
  unfold State.goOffUnlessOff
  split
  · exact h
  · exact h.of_port (cameraFrame_goOff ..).ports (modesOk_goOff cause)

theorem State.ModeLaw.leaveOff (h : s.ModeLaw) : (s.leaveOff c).ModeLaw := by
  refine h.of_port (cameraFrame_leaveOff ..).ports ?_
  have hc := (h c).1
  unfold State.leaveOff
  dsimp only
  split
  · split
    · exact modesOk_setLink_idle (by simpa [Port.startWait] using hc) (by decide) (by decide) _
    · exact modesOk_setLink_idle hc (by decide) (by decide) _
  · exact h c

theorem State.ModeLaw.gainCarrier (h : s.ModeLaw) : (s.gainCarrier c).ModeLaw := by
  refine h.of_port (cameraFrame_gainCarrier ..).ports ?_
  have hc := (h c).1
  unfold State.gainCarrier
  dsimp only
  split
  · exact modesOk_setLink_idle (by simpa [Port.startWait] using hc) (by decide) (by decide) _
  · rw [State.port_setPort]
    exact Port.ModesOk.congr (h c) rfl

theorem State.ModeLaw.loseCarrier (h : s.ModeLaw) : (s.loseCarrier c).ModeLaw := by
  refine h.of_port (cameraFrame_loseCarrier ..).ports ?_
  have hc := (h c).1
  unfold State.loseCarrier
  dsimp only
  split
  case h_1 | h_2 | h_3 | h_4 =>
    exact modesOk_setLink_idle (by simpa [Port.abandon, Port.stopTimers] using hc) (by decide) (by decide) _
  all_goals
    rw [State.port_setPort]
    exact Port.ModesOk.congr (h c) rfl

theorem State.ModeLaw.announceArrives (h : s.ModeLaw) (r : AnnounceRecord) (good : Bool) :
    (s.announceArrives c r good).ModeLaw := by
  refine h.of_port (cameraFrame_announceArrives ..).ports ?_
  unfold State.announceArrives
  dsimp only
  split
  · unfold State.takeAnnounce
    dsimp only
    split
    · exact modesOk_enterRefused (by simp) _
    · next m rest hm =>
      have hmem : m ∈ commonList (s.port c).preference (announcedModes r.modes) := by rw [hm]; exact List.mem_cons_self
      split
      · exact modesOk_beginSequence (by simp) (by simpa using hmem)
      · exact modesOk_beginSequence_setLink (by simp) (by simpa using hmem) _ _
  · exact h c

theorem State.ModeLaw.announceExpires (h : s.ModeLaw) : (s.announceExpires c).ModeLaw := by
  refine h.of_port (cameraFrame_announceExpires ..).ports ?_
  unfold State.announceExpires
  dsimp only
  split
  · split
    · rw [State.port_setPort]
      exact Port.ModesOk.congr (h c) (by simp [Port.modes])
    · exact modesOk_enterRefused (by simpa using (h c).1) _
  · exact h c

/-- The judgement of an attempt of a port in TRAINING (R15). -/
theorem modesOk_judgeAttempt (h : (s.port c).ModesOk) (hl : (s.port c).link = .training) :
    ((s.judgeAttempt c).port c).ModesOk := by
  obtain ⟨m, hm, hmem⟩ := h.mode_mem (.inl hl)
  unfold State.judgeAttempt
  dsimp only
  split
  · rw [State.setLink_port]
    exact .of_mem (m := m) (by simpa [Port.abandon] using h.1) (by simpa [Port.abandon] using hm)
      (by simpa [Port.abandon] using hmem)
  · split
    · rw [hm]
      dsimp only
      have hn : (nextLower? m (s.port c).common).getD m ∈ (s.port c).common := by
        cases he : nextLower? m (s.port c).common with
        | none => exact hmem
        | some n => exact nextLower?_mem he
      rw [State.port_setPort, State.offer_eq, State.port_setPort]
      exact .of_mem (m := (nextLower? m (s.port c).common).getD m) (by simpa [Port.offer] using h.1)
        (by simp [Port.offer]) (by simpa [Port.offer] using hn)
    · exact modesOk_enterRefused (by simpa using h.1) _

theorem State.ModeLaw.trainSegment (h : s.ModeLaw) (i : Nat) (good : Bool) : (s.trainSegment c i good).ModeLaw := by
  refine h.of_port (cameraFrame_trainSegment ..).ports ?_
  unfold State.trainSegment
  dsimp only
  split
  · exact h c
  · next hl =>
    rw [not_not] at hl
    have hp : ∀ p : Port, p.modes = (s.port c).modes → ((s.setPort c p).port c).ModesOk := fun p e => by
      rw [State.port_setPort]
      exact Port.ModesOk.congr (h c) e
    split
    · exact hp _ rfl
    · split
      · exact modesOk_judgeAttempt (hp _ rfl) (by rw [State.port_setPort]; exact hl)
      · exact hp _ rfl

theorem State.ModeLaw.trainExpires (h : s.ModeLaw) : (s.trainExpires c).ModeLaw := by
  refine h.of_port (cameraFrame_trainExpires ..).ports ?_
  unfold State.trainExpires
  dsimp only
  split
  · next hl =>
    refine modesOk_judgeAttempt ?_ (by rw [State.port_setPort]; exact hl.1)
    rw [State.port_setPort]
    exact Port.ModesOk.congr (h c) rfl
  · exact h c

theorem State.ModeLaw.backRecordSent (h : s.ModeLaw) : (s.backRecordSent c).ModeLaw := by
  refine h.of_port (cameraFrame_backRecordSent ..).ports ?_
  unfold State.backRecordSent
  dsimp only
  split
  · exact h c
  · rw [State.port_setPort]
    exact Port.ModesOk.congr (h c) rfl

theorem State.ModeLaw.takePreference (h : s.ModeLaw) (ms : List CamMode) : (s.takePreference c ms).ModeLaw := by
  refine h.of_port (cameraFrame_takePreference ..).ports ?_
  unfold State.takePreference
  dsimp only
  split
  · split
    · exact modesOk_enterRefused (by simp) _
    · next m rest hm =>
      have hmem : m ∈ commonList ms (s.port c).announceList := by rw [hm]; exact List.mem_cons_self
      split
      · exact modesOk_beginSequence_setLink (by simp) (by simpa using hmem) _ _
      · exact modesOk_beginSequence (by simp) (by simpa using hmem)
  · next hk =>
    rw [State.port_setPort]
    refine ⟨rfl, fun hl => ?_⟩
    obtain ⟨m, hm, hp, ha⟩ := (h c).2 hl
    have hpref : m ∈ ms := by
      by_contra hn
      exact hk ⟨hl, by simp [hm, hn]⟩
    exact ⟨m, hm, hpref, ha⟩

/-! ## Frames -/

theorem toneClose_modes (d : Cam) : ((s.toneClose c).port d).modes = (s.port d).modes := by
  by_cases hd : d = c
  · subst hd
    unfold State.toneClose
    dsimp only
    rw [State.port_setPort]
    unfold Port.requestExposure
    split
    · split
      · simp [Port.modes]
      · rfl
    · rfl
  · rw [(cameraFrame_toneClose s c).ports d hd]

theorem judgeClarity_ports (cl : Clarity) : (s.judgeClarity c cl).ports = s.ports := by
  unfold State.judgeClarity
  simp

theorem storeClose_ports : (s.storeClose c).ports = s.ports := by
  unfold State.storeClose
  simp

theorem storeAndClarityClose_ports : (s.storeAndClarityClose c).ports = s.ports := by
  unfold State.storeAndClarityClose
  dsimp only
  split
  · rw [storeClose_ports, State.setClarity_ports]
  · split
    · rw [judgeClarity_ports, storeClose_ports]
    · rw [storeClose_ports, judgeClarity_ports]

theorem zoneClose_ports : (s.zoneClose c).ports = s.ports := by
  unfold State.zoneClose
  simp

theorem State.ModeLaw.judgeFrame (h : s.ModeLaw) : (s.judgeFrame c).ModeLaw := by
  refine h.of_port (cameraFrame_judgeFrame ..).ports ?_
  have hp : ∀ p : Port, p.modes = (s.port c).modes → ((s.setPort c p).port c).ModesOk := fun p e => by
    rw [State.port_setPort]
    exact Port.ModesOk.congr (h c) e
  unfold State.judgeFrame
  dsimp only
  split
  · exact hp _ rfl
  · split
    · exact hp _ rfl
    · split
      · next m hm =>
        obtain ⟨x, -, hx⟩ := Option.bind_eq_some_iff.mp hm
        exact modesOk_beginSequence_setLink (by simpa using (h c).1) (by simpa using nextLower?_mem hx) _ _
      · exact hp _ rfl

theorem State.ModeLaw.frameEnds (h : s.ModeLaw) : (s.frameEnds c).ModeLaw :=
  State.ModeLaw.of_port (s := s) h (cameraFrame_frameEnds s c).ports (by
    have hp : (s.frameEnds c).port c = { s.port c with phase := .noFrame } := s.port_setPort c _
    rw [hp]
    exact Port.ModesOk.congr (h c) rfl)

theorem State.ModeLaw.frameClose (h : s.ModeLaw) : (s.frameClose c).ModeLaw := by
  rw [State.frameClose_eq]
  refine State.ModeLaw.judgeFrame ?_
  unfold State.closed
  have ht : ((s.frameEnds c).toneClose c).ModeLaw := State.ModeLaw.of_modes h.frameEnds toneClose_modes
  exact ht.of_ports (by rw [zoneClose_ports, storeAndClarityClose_ports])

theorem State.ModeLaw.count (h : s.ModeLaw) (e : StatEvent) (d : Cam) : (s.count e d).ModeLaw := h

theorem State.ModeLaw.trailerArrives (h : s.ModeLaw) (n : Byte) (good : Bool) : (s.trailerArrives c n good).ModeLaw := by
  unfold State.trailerArrives
  dsimp only
  split
  · exact h
  · split
    · exact h.count _ _
    · split
      · exact h
      · split
        · exact h.frameClose
        · exact (h.count _ _).frameClose

theorem foldl_judgeClarity_ports (left : Cam → Bool) (l : List Cam) (t : State) :
    (l.foldl (fun t k => if left k then t.judgeClarity k (t.clarity k).cleared else t) t).ports = t.ports := by
  induction l generalizing t with
  | nil => rfl
  | cons k l ih =>
    rw [List.foldl_cons, ih]
    split
    · exact judgeClarity_ports _
    · rfl

theorem applyChanges_ports : (s.applyChanges c).ports = s.ports := by
  unfold State.applyChanges
  dsimp only
  rw [State.refreshHazard_ports, foldl_judgeClarity_ports]

theorem State.ModeLaw.openFrame (h : s.ModeLaw) (r : HeaderRecord) (m : CamMode) : (s.openFrame c r m).ModeLaw := by
  unfold State.openFrame
  dsimp only
  have h1 : (if (s.port c).previous.any (fun n => r.number ≠ n + 1) then s.count .frameGap c else s).ports = s.ports := by
    split <;> rfl
  generalize (if (s.port c).previous.any (fun n => r.number ≠ n + 1) then s.count .frameGap c else s) = t at h1
  have ht := h.of_ports h1
  refine State.ModeLaw.of_port (c := c) ht (cameraFrame_setPort t c _).ports ?_
  show ((t.setPort c _).port c).ModesOk
  rw [State.port_setPort]
  exact Port.ModesOk.congr (h c) rfl

theorem State.ModeLaw.ignoreFrame (h : s.ModeLaw) : (s.ignoreFrame c).ModeLaw := by
  refine h.of_port (cameraFrame_ignoreFrame ..).ports ?_
  unfold State.ignoreFrame
  rw [State.port_setPort]
  exact Port.ModesOk.congr (h c) rfl

theorem State.ModeLaw.headerArrives (h : s.ModeLaw) (r : HeaderRecord) (good : Bool) :
    (s.headerArrives c r good).ModeLaw := by
  unfold State.headerArrives
  split
  · exact h
  · split
    · unfold State.takeHeader
      dsimp only
      have h1 : (if (s.port c).phase = .opened then (s.count .frameTruncated c).frameClose c else s).ModeLaw := by
        split
        · exact (h.count _ _).frameClose
        · exact h
      generalize (if (s.port c).phase = .opened then (s.count .frameTruncated c).frameClose c else s) = t at h1
      split
      · exact h1
      · have h2 : (t.applyChanges c).ModeLaw := h1.of_ports applyChanges_ports
        split
        · split
          · exact h2.openFrame _ _
          · exact h2.ignoreFrame
        · exact h2.ignoreFrame
    · exact h.count _ _

theorem State.ModeLaw.segmentArrives (h : s.ModeLaw) (i : Nat) (body : SegmentBody) (good : Bool) :
    (s.segmentArrives c i body good).ModeLaw := by
  refine h.of_port (cameraFrame_segmentArrives ..).ports ?_
  unfold State.segmentArrives
  dsimp only
  split
  · exact h c
  · split
    · exact h.count _ _ c
    · exact h c
    · split
      · exact h.count _ _ c
      · unfold State.takeSegment
        rw [State.port_setPort]
        exact Port.ModesOk.congr (h c) rfl

end

/-! ## Requests and the other commands -/

theorem State.ModeLaw.foldl {f : State → Cam → State} (hf : ∀ {s : State} {c : Cam}, s.ModeLaw → (f s c).ModeLaw)
    {s : State} (h : s.ModeLaw) (l : List Cam) : (l.foldl f s).ModeLaw := by
  induction l generalizing s with
  | nil => exact h
  | cons c l ih => exact ih (hf h)

theorem State.ModeLaw.leaveRun {s : State} (h : s.ModeLaw) (m : OpMode) (cause : LinkCause) :
    (s.leaveRun m cause).ModeLaw := by
  unfold State.leaveRun
  dsimp only
  refine State.ModeLaw.of_ports ?_ (State.refreshHazard_ports _)
  refine State.ModeLaw.foldl (fun h => h.goOffUnlessOff cause) ?_ _
  exact h

theorem State.ModeLaw.enterRun {s : State} (h : s.ModeLaw) : s.enterRun.ModeLaw := by
  unfold State.enterRun
  refine State.ModeLaw.of_ports ?_ (State.reform_ports _)
  refine State.ModeLaw.foldl (fun h => h.leaveOff) ?_ _
  exact h

/-- A request's effect keeps the law. -/
def KeepsModeLaw (f : State → Answer) : Prop := ∀ s, s.ModeLaw → (f s).state.ModeLaw

theorem LeavesPorts.keepsModeLaw {f : State → Answer} (h : LeavesPorts f) : KeepsModeLaw f :=
  fun s hs => hs.of_ports (h s)

theorem KeepsModeLaw.run {α : Type} {f : α → State → Answer} (h : ∀ x, KeepsModeLaw (f x)) (b : Body α) :
    KeepsModeLaw (Body.run b f) := by
  cases b with
  | badLength => exact fun _ hs => hs
  | fields x => exact h x

theorem keepsModeLaw_portEnable (port : Nat) : KeepsModeLaw (portEnable port) := by
  intro s h
  unfold portEnable
  split
  · exact h
  · next c hc =>
    refine State.ModeLaw.of_ports (State.ModeLaw.leaveOff ?_) (State.reform_ports _)
    refine h.of_port (cameraFrame_setPort ..).ports ?_
    rw [State.port_setPort]
    exact Port.ModesOk.congr (h c) rfl

theorem keepsModeLaw_portDisable (port : Nat) : KeepsModeLaw (portDisable port) := by
  intro s h
  unfold portDisable
  split
  · exact h
  · next c hc =>
    refine State.ModeLaw.of_ports (State.ModeLaw.goOffUnlessOff ?_ .disabled)
      ((State.reform_ports _).trans (State.refreshHazard_ports _))
    refine h.of_port (cameraFrame_setPort ..).ports ?_
    rw [State.port_setPort]
    exact Port.ModesOk.congr (h c) rfl

theorem keepsModeLaw_linkRestart (port : Nat) : KeepsModeLaw (linkRestart port) := by
  intro s h
  unfold linkRestart
  split
  · exact h
  · next c hc =>
    split
    · refine h.of_port ((cameraFrame_setPort ..).trans (cameraFrame_setLink ..)).ports ?_
      exact modesOk_setLink_idle (by simpa [Port.startWait] using (h c).1) (by decide) (by decide) _
    · exact h

theorem keepsModeLaw_portPreference (f : PreferenceFields) : KeepsModeLaw (portPreference f) := by
  intro s h
  unfold portPreference
  split
  · exact h.takePreference _
  · exact h

@[simp] theorem modeAnswer_state (st : Status) (s : State) : (modeAnswer st s).state = s := rfl

theorem keepsModeLaw_modeConfig (x : Unit) : KeepsModeLaw (modeConfig x) := by
  intro s h
  unfold modeConfig
  split
  · exact h
  · rw [modeAnswer_state]
    exact h.leaveRun _ _
  · exact h

theorem keepsModeLaw_modeRun (x : Unit) : KeepsModeLaw (modeRun x) := by
  intro s h
  unfold modeRun
  split
  · exact h
  all_goals
    split
    · exact h
    · rw [modeAnswer_state]
      exact h.enterRun

theorem keepsModeLaw_modeStandby (x : Unit) : KeepsModeLaw (modeStandby x) := by
  intro s h
  unfold modeStandby
  split
  · exact h
  · rw [modeAnswer_state]
    exact h.leaveRun _ _
  · exact h

theorem keepsModeLaw_restart (x : Unit) : KeepsModeLaw (restart x) := by
  intro s h
  unfold restart
  dsimp only
  have h1 : ∀ t : State, t.ports = s.ports → (allCams.foldl (fun t c => t.goOffUnlessOff c .restarted) t).ModeLaw :=
    fun t ht => State.ModeLaw.foldl (fun h => h.goOffUnlessOff .restarted) (h.of_ports ht) _
  refine (h1 { s with control := s.control.restarted, mode := .config, cadence := s.cadence.leaveRun } rfl).of_ports ?_
  simp only [State.refreshHazard_ports]

theorem storeFrameStart_ports (s : State) : s.storeFrameStart.ports = s.ports := by
  have h : ∀ (l : List Cam) (t : State),
      (l.foldl (fun t c => (t.setStore c ((t.store c).raiseFreeze (t.port c).link)).rederive c) t).ports = t.ports := by
    intro l
    induction l with
    | nil => exact fun _ => rfl
    | cons c l ih => exact fun t => (ih _).trans (by simp)
  unfold State.storeFrameStart
  dsimp only
  rw [h]

theorem applyAtStart_ports (s : State) : s.applyAtStart.ports = s.ports := by
  unfold State.applyAtStart
  split <;> simp

theorem chooseSources_ports (s : State) (v : ViewId) : (s.chooseSources v).ports = s.ports := by
  have h : ∀ (l : List (Option ChosenSource)) (t : State), (l.foldl State.countAlternate t).ports = t.ports := by
    intro l
    induction l with
    | nil => exact fun _ => rfl
    | cons x l ih =>
      refine fun t => (ih _).trans ?_
      unfold State.countAlternate
      split <;> rfl
  exact h _ _

theorem drawLatches_ports (s : State) : s.drawLatches.ports = s.ports := rfl

theorem frameStart_ports (s : State) : s.frameStart.ports = s.ports := by
  unfold State.frameStart
  dsimp only
  rw [drawLatches_ports, chooseSources_ports, (selectorOnly_showView _).ports, applyAtStart_ports, storeFrameStart_ports]

theorem State.modeLaw_atPowerOn (levels : PowerInputs) (epoch choices : Nat) (q : List Instr) :
    (State.atPowerOn levels epoch choices q).ModeLaw := by
  intro c
  have hp : (State.atPowerOn levels epoch choices q).port c = Port.initial (look levels.carrier c) := look_mapTable ..
  rw [hp]
  exact Port.ModesOk.of_idle (by simp [Port.initial, commonList]) (by simp [Port.initial]) (by simp [Port.initial])

/-- A command that acts unless RESET is held keeps what its effect and the pins keep. -/
theorem unlessHeld_keeps {P : State → Prop} (hp : ∀ t, P t → P t.drivePins) {f : State → State} {s t : State}
    (hf : P s → P (f s)) (h : unlessHeld s f = .next t) (hs : P s) : P t := by
  unfold unlessHeld commit at h
  injection h with h
  subst h
  refine hp _ ?_
  split
  · exact hs
  · exact hf hs

theorem unlessHeld_keepsModeLaw {f : State → State} {s t : State} (h : unlessHeld s f = .next t)
    (hs : s.ModeLaw) (hf : (f s).ModeLaw) : t.ModeLaw :=
  unlessHeld_keeps (P := State.ModeLaw) (fun _ h => h) (fun _ => hf) h hs

theorem request_keepsModeLaw {f : State → Answer} {r : Instr} {kind tag : Byte} {s t : State}
    (h : request r kind tag f s = .next t) (hf : KeepsModeLaw f) (hs : s.ModeLaw) : t.ModeLaw :=
  request_keeps (P := State.ModeLaw) (fun _ _ h => h) (fun _ _ h => h) hf h hs

theorem tick_modes (s : State) (c : Cam) : (s.tick.port c).modes = (s.port c).modes := by
  simp [State.tick, State.port, Port.modes]

/-- Every command keeps the law of the mode lists. -/
theorem exec_keepsModeLaw (i : Instr) {s t : State} (hs : s.ModeLaw) (h : exec i s = .next t) : t.ModeLaw := by
  cases i with
  | powerOn levels => cases h; exact State.modeLaw_atPowerOn _ _ _ _
  | resetAssert => cases h; exact hs
  | unknownRecordArrival c => cases h; exact hs
  | carrierGain c => exact unlessHeld_keepsModeLaw (f := fun t => t.gainCarrier c) h hs hs.gainCarrier
  | carrierLoss c => exact unlessHeld_keepsModeLaw (f := fun t => t.loseCarrier c) h hs hs.loseCarrier
  | announceArrival c r k =>
    exact unlessHeld_keepsModeLaw (f := fun t => t.announceArrives c r _) h hs (hs.announceArrives _ _)
  | trainingSegmentArrival c r k =>
    exact unlessHeld_keepsModeLaw (f := fun t => t.trainSegment c r.index _) h hs (hs.trainSegment _ _)
  | frameHeaderArrival c r k =>
    exact unlessHeld_keepsModeLaw (f := fun t => t.headerArrives c r _) h hs (hs.headerArrives _ _)
  | segmentArrival c i body k =>
    exact unlessHeld_keepsModeLaw (f := fun t => t.segmentArrives c i body _) h hs (hs.segmentArrives _ _ _)
  | frameTrailerArrival c n k =>
    exact unlessHeld_keepsModeLaw (f := fun t => t.trailerArrives c n _) h hs (hs.trailerArrives _ _)
  | announceTimerExpiry c => exact unlessHeld_keepsModeLaw (f := fun t => t.announceExpires c) h hs hs.announceExpires
  | trainTimerExpiry c => exact unlessHeld_keepsModeLaw (f := fun t => t.trainExpires c) h hs hs.trainExpires
  | backChannelRecordSent c => exact unlessHeld_keepsModeLaw (f := fun t => t.backRecordSent c) h hs hs.backRecordSent
  | outputFrameStart => exact unlessHeld_keepsModeLaw h hs (hs.of_ports (frameStart_ports s))
  | displaySenseChange level =>
    exact unlessHeld_keepsModeLaw (f := fun t => { t with display := t.display.sense level }) h hs hs
  | displaySenseTimerExpiry =>
    refine unlessHeld_keepsModeLaw h hs (hs.of_ports ?_)
    unfold State.senseExpires
    split <;> rfl
  | holdTimerExpiry w =>
    refine unlessHeld_keepsModeLaw (f := fun t => t.holdExpires w) h hs (hs.of_ports ?_)
    unfold State.holdExpires
    split
    · split
      · exact State.refreshHazard_ports _
      · rfl
    · rfl
  | vehicleTimeoutExpiry => exact unlessHeld_keepsModeLaw h hs (hs.of_ports (selectorOnly_vehicleTimeout s).ports)
  | turnDwellExpiry => exact unlessHeld_keepsModeLaw h hs (hs.of_ports (selectorOnly_turnDwellExpires s).ports)
  | forceTimerExpiry => exact unlessHeld_keepsModeLaw h hs (hs.of_ports (selectorOnly_forceTimerExpires s).ports)
  | viewDwellTimerExpiry => exact unlessHeld_keepsModeLaw h hs (hs.of_ports (selectorOnly_viewDwellExpires s).ports)
  | onTimeExpiry ch =>
    exact unlessHeld_keepsModeLaw (f := fun t => t.setChannel ch (t.channel ch).onExpires) h hs (hs.of_ports (setChannel_ports ..))
  | offTimeExpiry ch =>
    exact unlessHeld_keepsModeLaw (f := fun t => t.setChannel ch (t.channel ch).offExpires) h hs (hs.of_ports (setChannel_ports ..))
  | byteGapTimerExpiry => exact unlessHeld_keepsModeLaw (f := fun t => { t with control := t.control.gapExpires }) h hs hs
  | controlFrameComplete b =>
    exact unlessHeld_keepsModeLaw (f := fun t => { t with control := t.control.completeWith b }) h hs hs
  | frameSendEnd => exact unlessHeld_keepsModeLaw (f := fun t => { t with control := t.control.sendEnd }) h hs hs
  | byteReceived b => exact unlessHeld_keepsModeLaw (f := fun t => { t with control := t.control.receive b }) h hs hs
  | unknownRequest kind tag => exact request_keepsModeLaw h (LeavesPorts.keepsModeLaw (leavesPorts_unknownRequest kind)) hs
  | identify tag b => exact request_keepsModeLaw h (LeavesPorts.keepsModeLaw (LeavesPorts.run leavesPorts_identify b)) hs
  | status tag b => exact request_keepsModeLaw h (LeavesPorts.keepsModeLaw (LeavesPorts.run leavesPorts_status b)) hs
  | setParametersLink tag b =>
    exact request_keepsModeLaw h (LeavesPorts.keepsModeLaw (LeavesPorts.run leavesPorts_link b)) hs
  | setParametersStore tag b =>
    exact request_keepsModeLaw h (LeavesPorts.keepsModeLaw (LeavesPorts.run leavesPorts_store b)) hs
  | setParametersTone tag b =>
    exact request_keepsModeLaw h (LeavesPorts.keepsModeLaw (LeavesPorts.run leavesPorts_tone b)) hs
  | setParametersToneLimits tag b =>
    exact request_keepsModeLaw h (LeavesPorts.keepsModeLaw (LeavesPorts.run leavesPorts_toneLimits b)) hs
  | setParametersClarity tag b =>
    exact request_keepsModeLaw h (LeavesPorts.keepsModeLaw (LeavesPorts.run leavesPorts_clarity b)) hs
  | setParametersClarityLimits tag b =>
    exact request_keepsModeLaw h (LeavesPorts.keepsModeLaw (LeavesPorts.run leavesPorts_clarityLimits b)) hs
  | setParametersZone tag b =>
    exact request_keepsModeLaw h (LeavesPorts.keepsModeLaw (LeavesPorts.run leavesPorts_zone b)) hs
  | setParametersSituation tag b =>
    exact request_keepsModeLaw h (LeavesPorts.keepsModeLaw (LeavesPorts.run leavesPorts_situation b)) hs
  | setParametersCadence tag b =>
    exact request_keepsModeLaw h (LeavesPorts.keepsModeLaw (LeavesPorts.run leavesPorts_cadence b)) hs
  | portEnable tag b => exact request_keepsModeLaw h (KeepsModeLaw.run keepsModeLaw_portEnable b) hs
  | portDisable tag b => exact request_keepsModeLaw h (KeepsModeLaw.run keepsModeLaw_portDisable b) hs
  | linkRestart tag b => exact request_keepsModeLaw h (KeepsModeLaw.run keepsModeLaw_linkRestart b) hs
  | portPreferenceList tag b => exact request_keepsModeLaw h (KeepsModeLaw.run keepsModeLaw_portPreference b) hs
  | windowSet tag b => exact request_keepsModeLaw h (LeavesPorts.keepsModeLaw (LeavesPorts.run leavesPorts_windowSet b)) hs
  | windowDrop tag b => exact request_keepsModeLaw h (LeavesPorts.keepsModeLaw (LeavesPorts.run leavesPorts_windowDrop b)) hs
  | seamSet tag b => exact request_keepsModeLaw h (LeavesPorts.keepsModeLaw (LeavesPorts.run leavesPorts_seamSet b)) hs
  | gridBegin tag b => exact request_keepsModeLaw h (LeavesPorts.keepsModeLaw (LeavesPorts.run leavesPorts_gridBegin b)) hs
  | gridNodes tag b => exact request_keepsModeLaw h (LeavesPorts.keepsModeLaw (LeavesPorts.run leavesPorts_gridNodes b)) hs
  | gridEnd tag b => exact request_keepsModeLaw h (LeavesPorts.keepsModeLaw (LeavesPorts.run leavesPorts_gridEnd b)) hs
  | gridDrop tag b => exact request_keepsModeLaw h (LeavesPorts.keepsModeLaw (LeavesPorts.run leavesPorts_gridDrop b)) hs
  | shapeSet tag b => exact request_keepsModeLaw h (LeavesPorts.keepsModeLaw (LeavesPorts.run leavesPorts_shapeSet b)) hs
  | shapeDrop tag b => exact request_keepsModeLaw h (LeavesPorts.keepsModeLaw (LeavesPorts.run leavesPorts_shapeDrop b)) hs
  | setOverlayList tag b =>
    exact request_keepsModeLaw h (LeavesPorts.keepsModeLaw (LeavesPorts.run leavesPorts_setOverlayList b)) hs
  | viewSet tag b => exact request_keepsModeLaw h (LeavesPorts.keepsModeLaw (LeavesPorts.run leavesPorts_viewSet b)) hs
  | paneSet tag b => exact request_keepsModeLaw h (LeavesPorts.keepsModeLaw (LeavesPorts.run leavesPorts_paneSet b)) hs
  | paneDrop tag b => exact request_keepsModeLaw h (LeavesPorts.keepsModeLaw (LeavesPorts.run leavesPorts_paneDrop b)) hs
  | viewMapSet tag b => exact request_keepsModeLaw h (LeavesPorts.keepsModeLaw (LeavesPorts.run leavesPorts_viewMapSet b)) hs
  | applyTables tag b =>
    exact request_keepsModeLaw h (LeavesPorts.keepsModeLaw (LeavesPorts.run leavesPorts_applyTables b)) hs
  | vehicleState tag record => exact request_keepsModeLaw h (LeavesPorts.keepsModeLaw (leavesPorts_vehicleState record)) hs
  | forceView tag b => exact request_keepsModeLaw h (LeavesPorts.keepsModeLaw (LeavesPorts.run leavesPorts_forceView b)) hs
  | releaseView tag b =>
    exact request_keepsModeLaw h (LeavesPorts.keepsModeLaw (LeavesPorts.run leavesPorts_releaseView b)) hs
  | silence tag b => exact request_keepsModeLaw h (LeavesPorts.keepsModeLaw (LeavesPorts.run leavesPorts_silence b)) hs
  | readCamera tag b => exact request_keepsModeLaw h (LeavesPorts.keepsModeLaw (LeavesPorts.run leavesPorts_readCamera b)) hs
  | readMeter tag b => exact request_keepsModeLaw h (LeavesPorts.keepsModeLaw (LeavesPorts.run leavesPorts_readMeter b)) hs
  | readTable tag b => exact request_keepsModeLaw h (LeavesPorts.keepsModeLaw (LeavesPorts.run leavesPorts_readTable b)) hs
  | counterSelect tag b =>
    exact request_keepsModeLaw h (LeavesPorts.keepsModeLaw (LeavesPorts.run leavesPorts_counterSelect b)) hs
  | counterRead tag b =>
    exact request_keepsModeLaw h (LeavesPorts.keepsModeLaw (LeavesPorts.run leavesPorts_counterRead b)) hs
  | modeConfig tag b => exact request_keepsModeLaw h (KeepsModeLaw.run keepsModeLaw_modeConfig b) hs
  | modeRun tag b => exact request_keepsModeLaw h (KeepsModeLaw.run keepsModeLaw_modeRun b) hs
  | modeStandby tag b => exact request_keepsModeLaw h (KeepsModeLaw.run keepsModeLaw_modeStandby b) hs
  | restart tag b => exact request_keepsModeLaw h (KeepsModeLaw.run keepsModeLaw_restart b) hs

/-- Settles O11, over the commands: a step is a command of the queue or one millisecond, which leaves modes and lists. -/
theorem stepKeepsModeLaw : Obligations.StepKeepsModeLaw := by
  intro s t hs h
  unfold step at h
  split at h
  · cases h
    exact hs.of_modes (tick_modes s)
  · next c rest _ => exact exec_keepsModeLaw c (s := s.withPending rest) hs h

end Sys2Proof.Machine
end

section
/-! PROOF. The events of a port's carrier and announce timer (R13, R16), and ANNOUNCE (R10 to R12). -/

namespace Sys2Proof.Machine

/-! ## The commands of a camera link while RESET is not held -/

section
variable {s : State} (h : s.held = false) (c : Cam)
include h

theorem exec_carrierGain : exec (.carrierGain c) s = .next (s.gainCarrier c).drivePins :=
  unlessHeld_live h fun t => t.gainCarrier c

theorem exec_carrierLoss : exec (.carrierLoss c) s = .next (s.loseCarrier c).drivePins :=
  unlessHeld_live h fun t => t.loseCarrier c

theorem exec_announceArrival (r : AnnounceRecord) (check : BitVec 16) : exec (.announceArrival c r check) s
    = .next (s.announceArrives c r (checkGood r.bytes check)).drivePins :=
  unlessHeld_live h fun t => t.announceArrives c r _

theorem exec_announceTimerExpiry : exec (.announceTimerExpiry c) s = .next (s.announceExpires c).drivePins :=
  unlessHeld_live h fun t => t.announceExpires c

end

/-! ## Carrier (R13, R16) -/

/-- A port that has lost its carrier, its link state apart (R6, R16, R22). -/
def Port.dropped (p : Port) : Port :=
  { p with
    carrier := false, announceTimer := none, trainTimer := none, phase := .noFrame
    resultMap := List.replicate p.segments false, backSending := none, backWaiting := []
    attempts := if p.link = .training then 0 else p.attempts }

theorem Port.dropped_of_ne {p : Port} (h : p.link ≠ .training) :
    p.dropped = { p.abandon.stopTimers with carrier := false, backSending := none, backWaiting := [] } := by
  rw [Port.dropped, if_neg h]
  rfl

/-- Where no new link state follows, the port alone changes. -/
theorem State.loseCarrier_still {s : State} {c : Cam} (h : (s.port c).link ∈ [LinkState.off, .dark, .lost]) :
    s.loseCarrier c = s.setPort c (s.port c).dropped := by
  rw [Port.dropped_of_ne (by intro h'; simp [h'] at h)]
  unfold State.loseCarrier
  dsimp only
  split <;> simp_all

theorem State.loseCarrier_waiting {s : State} {c : Cam} (h : (s.port c).link ∈ [LinkState.announceWait, .refused]) :
    s.loseCarrier c = (s.prepared c (s.port c).dropped (s.store c) s.control).setLink c .dark .carrier := by
  rw [Port.dropped_of_ne (by intro h'; simp [h'] at h), State.prepared_port_only]
  unfold State.loseCarrier
  dsimp only
  split
  case h_1 | h_2 => rfl
  all_goals simp_all

theorem State.loseCarrier_running {s : State} {c : Cam} (h : (s.port c).link ∈ [LinkState.training, .streaming]) :
    s.loseCarrier c = (s.prepared c (s.port c).dropped (s.store c)
      (s.control.countEvents .linkLost (some c) 1)).setLink c .lost .carrier := by
  rw [State.prepared_port_only]
  unfold State.loseCarrier
  dsimp only
  split
  case h_3 hl =>
    rw [Port.dropped, if_pos hl]
    rfl
  case h_4 hl =>
    rw [Port.dropped_of_ne (by simp [hl])]
    rfl
  all_goals simp_all

/-- A counter of LINK_LOST for the camera rises by one; the reports that follow do not count LINK_LOST (R174). -/
theorem counter_linkLost {k : Control} {c : Cam} {i : Fin 4} (he : (look k.counters i).event = .linkLost)
    (hm : (look k.counters i).mask.getLsbD c.val = true) (rs : List Report) :
    (look ((k.countEvents .linkLost (some c) 1).queueAll rs).counters i).count
      = min ((look k.counters i).count + 1) 4294967295 := by
  have hc : look (k.countEvents .linkLost (some c) 1).counters i
      = { look k.counters i with count := min ((look k.counters i).count + 1) 4294967295 } := by
    simp [Control.countEvents, he, hm]
  rw [Control.queueAll_counter _ _ _ (by rw [hc]; simp [he]), hc]

/-- Settles O18, by the link state the carrier event finds. -/
theorem carrierEvents : Obligations.CarrierEvents := by
  refine ⟨fun s c hh hlaw => ?_, fun s c hh => ⟨_, exec_carrierLoss hh c, ?_⟩⟩
  · rw [exec_carrierGain hh]
    unfold State.gainCarrier
    dsimp only
    split
    · next hl =>
      have hn : (s.port c).link ≠ .off ∧ (s.port c).link ≠ .streaming := by rcases hl with hl | hl <;> simp [hl]
      have he := State.prepared_setLink_absent (s := s) (c := c) (k := s.control) (x := s.store c)
        (p := Port.startWait { s.port c with carrier := true } s.params.link.announceWaitMs) hn.2
        (hlaw.absent hn.1 hn.2) (new := .announceWait) (by decide) (by decide) .carrier
      rw [State.prepared_port_only, State.prepared_port_only] at he
      exact congrArg (fun t => Host.Outcome.next t.drivePins) he
    · rfl
  · have hdropped : (s.port c).dropped.link = (s.port c).link := rfl
    cases hl : (s.port c).link
    case off | dark | lost =>
      rw [State.loseCarrier_still (by simp [hl])]
      refine ⟨by simp [hdropped, hl], by simp [Port.dropped, hl], by simp, by simp, by simp, by simp, ?_, by simp, ?_,
        by simp⟩
      · rw [if_neg (by decide)]
        exact ⟨rfl, rfl, rfl⟩
      · exact (cameraFrame_setPort ..).trans (cameraFrame_drivePins ..)
    case announceWait | refused =>
      rw [State.loseCarrier_waiting (by simp [hl])]
      have hm := State.prepared_setLink hdropped rfl rfl rfl .dark .carrier
      have hs := hm.absent (by decide) (by decide)
      have hk := hm.follows
      refine ⟨by rw [hm.port], by rw [hm.port]; simp [Port.dropped, hl], by rw [hs], hm.clarity, hm.seams, hm.choices,
        by simpa [hl] using hk, ⟨by rw [hs], hm.control⟩, hm.frame, by simp⟩
    case training | streaming =>
      rw [State.loseCarrier_running (by simp [hl])]
      have hm := State.prepared_setLink (k := s.control.countEvents .linkLost (some c) 1) hdropped rfl rfl rfl .lost .carrier
      have hs := hm.absent (by decide) (by decide)
      have hk := hm.follows
      refine ⟨by rw [hm.port], by rw [hm.port]; simp [Port.dropped, hl], by rw [hs], hm.clarity, hm.seams, hm.choices,
        by simpa [hl] using hk, ⟨by rw [hs], hm.control⟩, hm.frame, fun _ i he hmask => ?_⟩
      rw [hm.control]
      exact counter_linkLost he hmask _

end Sys2Proof.Machine
end

section
/-! PROOF. ANNOUNCE (R10 to R12) and the announce timer (R13). -/

namespace Sys2Proof.Machine

/-! ## A new training sequence after a change of the port's lists -/

/-- A sequence begun on a port whose mode is as it was. -/
theorem State.beginSequence_setPort {s : State} {c : Cam} {p : Port} (h : p.mode = (s.port c).mode) (m : CamMode) :
    (s.setPort c p).beginSequence c m
      = (s.setStore c (s.offeredStore c m)).setPort c (p.begun m s.params.link.trainWaitMs) := by
  have hs : (s.setPort c p).offeredStore c m = s.offeredStore c m := by simp [State.offeredStore, h]
  rw [State.beginSequence_eq, hs, State.setStore_setPort, State.setPort_setPort, State.port_setPort, State.setPort_params]

/-- The same with what the sequence writes named. -/
theorem State.beginSequence_prepared {s : State} {c : Cam} {p : Port} (h : p.mode = (s.port c).mode) (m : CamMode) :
    (s.setPort c p).beginSequence c m
      = s.prepared c (p.begun m s.params.link.trainWaitMs) (s.offeredStore c m) s.control :=
  State.beginSequence_setPort h m

@[simp] theorem Port.begun_link_eq (p : Port) (m : CamMode) (ms : Nat) : (p.begun m ms).link = p.link := by
  simp [Port.begun]

/-! ## ANNOUNCE (R11) -/

/-- A port that has taken an ANNOUNCE: type code, maximum exposure and lists (R10, R11). -/
def Port.announced (p : Port) (r : AnnounceRecord) : Port :=
  { p with
    typeCode := some r.typeCode, maxExposure := some (min 31 r.maxExposure)
    announceList := announcedModes r.modes, common := commonList p.preference (announcedModes r.modes) }

theorem State.takeAnnounce_refused {s : State} {c : Cam} {r : AnnounceRecord}
    (h : commonList (s.port c).preference (announcedModes r.modes) = []) :
    s.takeAnnounce c r = (s.prepared c ((s.port c).announced r).abandon.stopTimers (s.store c) s.control).setLink c .refused
      .noCommonMode := by
  unfold State.takeAnnounce State.enterRefused
  dsimp only
  rw [h, State.prepared_port_only]
  simp only [State.port_setPort, State.setPort_setPort, Port.announced, h]
  rfl

theorem State.takeAnnounce_begun {s : State} {c : Cam} {r : AnnounceRecord} {m : CamMode} {rest : List CamMode}
    (h : commonList (s.port c).preference (announcedModes r.modes) = m :: rest) :
    s.takeAnnounce c r =
      let begun := s.prepared c (((s.port c).announced r).begun m s.params.link.trainWaitMs) (s.offeredStore c m) s.control
      if (s.port c).link = .training then begun else begun.setLink c .training .announced := by
  dsimp only
  rw [← State.beginSequence_prepared (p := (s.port c).announced r) rfl]
  unfold State.takeAnnounce
  dsimp only
  rw [h]
  simp only [Port.announced, h]

theorem State.announceArrives_taken {s : State} {c : Cam} {r : AnnounceRecord}
    (hl : (s.port c).link ∈ [LinkState.announceWait, .training, .streaming]) (h1 : 1 ≤ r.modes.length)
    (h6 : r.modes.length ≤ 6) : s.announceArrives c r (checkGood r.bytes (linkCheck r.bytes)) = s.takeAnnounce c r := by
  unfold State.announceArrives
  dsimp only
  rw [if_pos ⟨by simp, h1, h6, by simpa using hl⟩]

theorem State.announceArrives_discarded {s : State} {c : Cam} {r : AnnounceRecord} {check : BitVec 16}
    (h : check ≠ linkCheck r.bytes ∨ r.modes = [] ∨ 6 < r.modes.length
      ∨ (s.port c).link ∈ [LinkState.off, .dark, .lost, .refused]) :
    s.announceArrives c r (checkGood r.bytes check) = s := by
  unfold State.announceArrives
  dsimp only
  rw [if_neg]
  rintro ⟨hg, h1, h6, hl⟩
  rw [checkGood_iff] at hg
  rcases h with h | h | h | h
  · exact h hg.symm
  · simp [h] at h1
  · omega
  · rcases hl with hl | hl | hl <;> simp [hl] at h

/-- Settles O19, by the link state and by whether there is a common mode. -/
theorem announceIsTakenOrDiscarded : Obligations.AnnounceIsTakenOrDiscarded := by
  refine ⟨fun s c r hh hl h1 h6 => ⟨fun hs hlaw => ?_, fun hs => ?_⟩, fun s c r check hh h => ?_⟩
  · have ho : (s.port c).link ≠ .off := by intro h; simp [h] at hl
    have ha : (s.store c).health = .absent := hlaw.absent ho hs
    rw [exec_announceArrival hh, State.announceArrives_taken hl h1 h6]
    refine ⟨fun m rest hm => ?_, fun hm => ?_⟩
    · rw [State.takeAnnounce_begun hm]
      dsimp only
      split
      · next ht =>
        have he : (s.port c).announced r = { (s.port c).announced r with link := .training } := by rw [← ht]; rfl
        rw [he]
        rfl
      · rw [State.prepared_setLink_absent (by rw [Port.begun_link_eq]; exact hs) (by rw [State.offeredStore_health, ha])
          (by decide) (by decide), Port.begun_link]
        rfl
    · rw [State.takeAnnounce_refused hm, State.prepared_setLink_absent
        (p := ((s.port c).announced r).abandon.stopTimers) hs ha (by decide) (by decide), State.prepared_port_only]
      rfl
  · refine ⟨_, exec_announceArrival hh c r _, ?_⟩
    rw [State.announceArrives_taken hl h1 h6]
    cases hm : commonList (s.port c).preference (announcedModes r.modes) with
    | nil =>
      rw [State.takeAnnounce_refused hm]
      have hmoved := State.prepared_setLink (s := s) (c := c) (x := s.store c) (k := s.control)
        (p := ((s.port c).announced r).abandon.stopTimers) rfl rfl rfl rfl .refused .noCommonMode
      refine ⟨fun _ _ h => ?_, fun _ => ⟨?_, hmoved.absent (by decide) (by decide), hmoved.control⟩, ?_, hmoved.clarity,
        hmoved.seams, hmoved.choices, hmoved.frame⟩
      · cases h
      · rw [hmoved.port, ← hm]
        rfl
      · have hf := hmoved.follows
        rwa [if_pos ⟨hs, by decide⟩] at hf
    | cons m rest =>
      rw [State.takeAnnounce_begun hm]
      have hmoved := State.prepared_setLink (s := s) (c := c) (x := s.offeredStore c m) (k := s.control)
        (p := ((s.port c).announced r).begun m s.params.link.trainWaitMs) (Port.begun_link_eq ..)
        (State.offeredStore_health ..) rfl rfl .training .announced
      dsimp only
      rw [if_neg (by simp [hs])]
      refine ⟨fun m' rest' h => ?_, fun h => ?_, ?_, hmoved.clarity, hmoved.seams, hmoved.choices, hmoved.frame⟩
      · obtain ⟨rfl, rfl⟩ := List.cons.inj h
        refine ⟨?_, hmoved.absent (by decide) (by decide), hmoved.control⟩
        rw [hmoved.port, Port.begun_link, ← hm]
        rfl
      · cases h
      · have hf := hmoved.follows
        rwa [if_pos ⟨hs, by decide⟩] at hf
  · rw [exec_announceArrival hh, State.announceArrives_discarded h]

end Sys2Proof.Machine
end

section
/-! PROOF. The announce timer (R13), the passing of a millisecond, and the back channel's records with their check (R5, R6). -/

namespace Sys2Proof.Machine

/-! ## Announce timer expiry (R13) -/

/-- Settles O20, by the expiry count. -/
theorem announceTimerExpiry : Obligations.AnnounceTimerExpiry := by
  intro s c hh
  rw [exec_announceTimerExpiry hh]
  unfold State.announceExpires
  dsimp only
  refine ⟨fun hl ht hn => ?_, fun hl ht hn hlaw => ?_, fun ht => ?_⟩
  · rw [if_pos ⟨hl, ht⟩, if_pos (by omega)]
    rfl
  · rw [if_pos ⟨hl, ht⟩, if_neg (by omega)]
    have he := State.prepared_setLink_absent (s := s) (c := c) (k := s.control) (x := s.store c)
      (p := Port.stopTimers (Port.abandon { s.port c with announceCount := (s.port c).announceCount + 1 }))
      (by simp [Port.stopTimers, Port.abandon, hl]) (hlaw.absent (by simp [hl]) (by simp [hl]))
      (new := .refused) (by decide) (by decide) .noAnnounce
    rw [State.prepared_port_only, State.prepared_port_only] at he
    rw [State.enterRefused, State.port_setPort, State.setPort_setPort]
    refine congrArg (fun t => Host.Outcome.next t.drivePins) (he.trans ?_)
    rw [hn]
    rfl
  · rw [if_neg fun h => ht h.2]

/-! ## One millisecond -/

/-- Settles O2: each timer's entry of `State.tick`. -/
theorem emptyQueuePassesOneMillisecond : Obligations.EmptyQueuePassesOneMillisecond := by
  intro s hq
  refine ⟨s.tick, by rw [step, hq], fun c => ?_, fun w => ?_, rfl, rfl, rfl, rfl, by simp only [State.tick]⟩
  · exact look_mapTable ..
  · exact look_mapTable ..

/-! ## The check over a body and its own bytes (R5) -/

/-- A check that takes in its own top bit is shifted. -/
theorem checkBit_msb {crc : BitVec 16} {b : Bool} (h : b = crc.msb) : checkBit crc b = crc <<< 1 := by
  simp [checkBit, h]

/-- A check that takes in its own high byte is shifted by a byte. -/
theorem checkByte_high {crc : BitVec 16} {b : Byte} (h : ∀ i, i < 8 → b.getLsbD i = crc.getLsbD (8 + i)) :
    checkByte crc b = crc <<< 8 := by
  have hstep : ∀ k, k < 8 → checkBit (crc <<< k) (b.getLsbD (7 - k)) = crc <<< (k + 1) := fun k hk => by
    rw [checkBit_msb, BitVec.shiftLeft_add]
    rw [h _ (by omega), BitVec.msb_eq_getLsbD_last, BitVec.getLsbD_shiftLeft]
    have h1 : 16 - 1 - k = 8 + (7 - k) := by omega
    simp only [h1]
    simp
    omega
  have h0 := hstep 0 (by omega)
  rw [BitVec.shiftLeft_zero] at h0
  simp only [checkByte, List.foldl_cons, List.foldl_nil]
  rw [h0, hstep 1 (by omega), hstep 2 (by omega), hstep 3 (by omega), hstep 4 (by omega), hstep 5 (by omega),
    hstep 6 (by omega), hstep 7 (by omega)]

theorem oneByte_getLsbD (n i : Nat) (h : i < 8) : (oneByte n).getLsbD i = n.testBit i := by
  unfold oneByte
  rw [BitVec.getLsbD_ofNat]
  simp [h]

/-- The check over a body and its own two bytes, high byte first, is 0. -/
theorem linkCheck_append_check (body : List Byte) : linkCheck (body ++ highFirst 2 (linkCheck body).toNat) = 0 := by
  have happ : ∀ crc : BitVec 16, (highFirst 2 crc.toNat).foldl checkByte crc = 0 := fun crc => by
    have h1 : checkByte crc (oneByte (crc.toNat / 256)) = crc <<< 8 := checkByte_high fun i hi => by
      rw [oneByte_getLsbD _ _ hi, show 256 = 2 ^ 8 from rfl, Nat.testBit_div_two_pow]
      rw [BitVec.testBit_toNat, Nat.add_comm]
    have h2 : checkByte (crc <<< 8) (oneByte crc.toNat) = (crc <<< 8) <<< 8 := checkByte_high fun i hi => by
      rw [oneByte_getLsbD _ _ hi, BitVec.testBit_toNat, BitVec.getLsbD_shiftLeft]
      simp
      omega
    have h3 : (crc <<< 8) <<< 8 = 0#16 := by
      rw [← BitVec.shiftLeft_add]
      exact BitVec.shiftLeft_eq_zero (by omega)
    simp only [highFirst, List.foldl_cons, List.foldl_nil, pow_one, pow_zero, Nat.div_one]
    rw [h1, h2, h3]
    rfl
  unfold linkCheck
  rw [List.foldl_append]
  exact happ _

/-- A word's two bytes, high byte first. -/
theorem highFirst_two (k : BitVec 16) : highFirst 2 k.toNat = [k.extractLsb' 8 8, k.extractLsb' 0 8] := by
  have hhigh : oneByte (k.toNat / 256) = k.extractLsb' 8 8 := BitVec.eq_of_toNat_eq (by
    simp [oneByte, BitVec.extractLsb'_toNat, Nat.shiftRight_eq_div_pow])
  have hlow : oneByte k.toNat = k.extractLsb' 0 8 := BitVec.eq_of_toNat_eq (by
    simp [oneByte, BitVec.extractLsb'_toNat])
  simp only [highFirst, pow_one, pow_zero, Nat.div_one, hhigh, hlow]

/-- Settles O25, by the record that is sent. -/
theorem backChannelAndUnknownRecords : Obligations.BackChannelAndUnknownRecords := by
  refine ⟨fun s c hh hb => ?_, fun p => ⟨fun h => ?_, fun h => ?_, fun h => ?_, fun m h => ?_, fun r h => ?_⟩,
    fun s c => rfl⟩
  · rw [show exec (.backChannelRecordSent c) s = .next (s.backRecordSent c).drivePins from
      unlessHeld_live hh fun t => t.backRecordSent c]
    rw [State.backRecordSent, if_neg hb]
    rfl
  · rw [Port.backLine, h]
    rfl
  · rw [Port.backLine, h]
    rfl
  · rw [Port.backLine, h]
    rfl
  · rw [Port.backLine, h]
    rw [Option.map_some, BackRecord.bytes, highFirst_two]
    cases m <;> rfl
  · exact ⟨r.kind, r.bytes, by rw [Port.backLine, h]; rfl, linkCheck_append_check r.body⟩

end Sys2Proof.Machine
end

section
/-! PROOF. Training: segments counted, attempts judged (R14, R15). -/

namespace Sys2Proof.Machine

section
variable {s : State} (h : s.held = false) (c : Cam)
include h

theorem exec_trainingSegmentArrival (r : TrainRecord) (check : BitVec 16) : exec (.trainingSegmentArrival c r check) s
    = .next (s.trainSegment c r.index (checkGood r.bytes check)).drivePins :=
  unlessHeld_live h fun t => t.trainSegment c r.index _

theorem exec_trainTimerExpiry : exec (.trainTimerExpiry c) s = .next (s.trainExpires c).drivePins :=
  unlessHeld_live h fun t => t.trainExpires c

end

/-- What a bad check adds to the bad count. -/
theorem checkGood_count (bytes : List Byte) (check : BitVec 16) :
    (if checkGood bytes check then 0 else 1) = if check = linkCheck bytes then 0 else 1 := by
  have hiff : checkGood bytes check = true ↔ check = linkCheck bytes := (checkGood_iff ..).trans eq_comm
  simp only [hiff]

theorem Port.segments_of_mode {p : Port} {m : CamMode} (h : p.mode = some m) : p.segments = modeSegments m := by
  simp [Port.segments, h]

/-! ## Further writes on a prepared state -/

section
variable (s : State) (c : Cam) (p q : Port) (x y : CamStore) (k : Control)

theorem State.setPort_eq_prepared : s.setPort c p = s.prepared c p (s.store c) s.control :=
  (s.prepared_port_only c p s.control).symm

@[simp] theorem State.prepared_port : (s.prepared c p x k).port c = p := s.port_setPort c p

@[simp] theorem State.prepared_store : (s.prepared c p x k).store c = x := s.store_setStore c x

@[simp] theorem State.prepared_params : (s.prepared c p x k).params = s.params := rfl

@[simp] theorem State.prepared_control : (s.prepared c p x k).control = k := rfl

@[simp] theorem State.prepared_setPort : (s.prepared c p x k).setPort c q = s.prepared c q x k := by
  simp only [State.prepared, State.setPort, put_put]

@[simp] theorem State.prepared_setStore : (s.prepared c p x k).setStore c y = s.prepared c p y k := by
  simp only [State.prepared, State.setPort, State.setStore, put_put]

@[simp] theorem State.setPort_prepared : (s.setPort c q).prepared c p x k = s.prepared c p x k := by
  simp only [State.prepared, State.setPort, State.setStore, put_put]

@[simp] theorem State.prepared_count (e : StatEvent) :
    (s.prepared c p x k).count e c = s.prepared c p x (k.countEvents e (some c) 1) := rfl

theorem State.prepared_offer (m : CamMode) :
    (s.prepared c p x k).offer c m
      = s.prepared c (p.offer m s.params.link.trainWaitMs) ((s.prepared c p x k).offeredStore c m) k := by
  rw [State.offer_eq, State.prepared_setStore, State.prepared_setPort, State.prepared_port, State.prepared_params]

theorem State.prepared_enterRefused (cause : LinkCause) : (s.prepared c p x k).enterRefused c cause
    = (s.prepared c p.abandon.stopTimers x k).setLink c .refused cause := by
  rw [State.enterRefused, State.prepared_port, State.prepared_setPort]

theorem State.keepsStreaming_prepared : KeepsStreaming c s (s.prepared c p x k) := ⟨rfl, rfl, rfl⟩

variable {k} in
theorem State.cameraFrame_prepared (h1 : k.rate = s.control.rate) (h2 : k.rx = s.control.rx) :
    CameraFrame c s (s.prepared c p x k) :=
  ((cameraFrame_setStore ..).trans (cameraFrame_setPort ..)).trans (cameraFrame_control _ _ h1 h2)

end

/-! ## The three ends of an attempt (R15) -/

/-- A port whose attempt is accepted, its link state apart. -/
def Port.accepted (p : Port) : Port :=
  { p with
    trainTimer := none, phase := .noFrame, resultMap := List.replicate p.segments false, previous := none
    badFrames := 0, backSending := (p.backAfter [.accept]).1, backWaiting := (p.backAfter [.accept]).2 }

/-- A port whose attempt has failed and that offers mode `m`, the same or the next lower one. -/
def Port.retried (p : Port) (m : CamMode) (ms : Nat) : Port :=
  { p with
    mode := some m, trainExpected := 0, trainBad := 0, trainTimer := some ms
    resultMap := List.replicate (modeSegments m) false, attempts := p.attempts + 1
    backSending := (p.backAfter [.retry, .offer m]).1, backWaiting := (p.backAfter [.retry, .offer m]).2 }

/-- A port whose fourth attempt has failed, its link state apart. -/
def Port.failed (p : Port) : Port :=
  { p with
    phase := .noFrame, resultMap := List.replicate p.segments false, announceTimer := none, trainTimer := none
    backSending := (p.backAfter [.retry]).1, backWaiting := (p.backAfter [.retry]).2 }

theorem Port.issue_retry_offer (p : Port) (m : CamMode) (ms : Nat) :
    { (Port.issue { p with trainTimer := none } .retry).offer m ms with attempts := p.attempts + 1 } = p.retried m ms := by
  have hback : (Port.issue { p with trainTimer := none } .retry).backAfter [.offer m] = p.backAfter [.retry, .offer m] :=
    Port.backAfter_issue ..
  rw [Port.retried, ← hback, Port.offer, Port.issue_eq (r := .offer m), Port.issue_eq (r := .retry)]
  rfl

theorem Port.issue_retry_refused (p : Port) :
    (Port.issue { p with trainTimer := none } .retry).abandon.stopTimers = p.failed := by
  rw [Port.issue_eq]
  rfl

section
variable {s : State} {c : Cam}

theorem State.judgeAttempt_accepted (h : (s.port c).trainBad ≤ s.params.link.trainTolerance) :
    s.judgeAttempt c
      = (s.prepared c (s.port c).accepted { s.store c with freeze := 0 } s.control).setLink c .streaming .trained := by
  unfold State.judgeAttempt
  dsimp only
  rw [if_pos h, Port.issue_eq]
  rfl

theorem State.judgeAttempt_retried (h : ¬(s.port c).trainBad ≤ s.params.link.trainTolerance)
    (ha : (s.port c).attempts < 4) {m : CamMode} (hm : (s.port c).mode = some m) :
    s.judgeAttempt c =
      let next := (nextLower? m (s.port c).common).getD m
      s.prepared c ((s.port c).retried next s.params.link.trainWaitMs) (s.offeredStore c next)
        (s.control.countEvents .retrain (some c) 1) := by
  have hoffer : ∀ next, ((s.setPort c (Port.issue { s.port c with trainTimer := none } .retry)).count .retrain c).offer c
        next = s.prepared c ((Port.issue { s.port c with trainTimer := none } .retry).offer next s.params.link.trainWaitMs)
          (s.offeredStore c next) (s.control.countEvents .retrain (some c) 1) := fun next => by
    rw [State.setPort_eq_prepared, State.prepared_count, State.prepared_offer]
    simp [State.offeredStore]
  unfold State.judgeAttempt
  dsimp only
  rw [if_neg h, if_pos ha]
  split
  · next hn => simp [hm] at hn
  · next m' hm' =>
    obtain rfl : m' = m := by simpa [hm'] using hm
    rw [hoffer, State.prepared_port, State.prepared_setPort, ← Port.issue_retry_offer]

theorem State.judgeAttempt_refused (h : ¬(s.port c).trainBad ≤ s.params.link.trainTolerance)
    (ha : ¬(s.port c).attempts < 4) : s.judgeAttempt c
      = (s.prepared c (s.port c).failed (s.store c) (s.control.countEvents .retrain (some c) 1)).setLink c .refused
        .trainFail := by
  unfold State.judgeAttempt
  dsimp only
  rw [if_neg h, if_neg ha, State.setPort_eq_prepared, State.prepared_count, State.prepared_enterRefused,
    Port.issue_retry_refused]

end

/-! ## The whole obligation -/

/-- A port with the bad count and the expected index of its attempt. -/
def Port.counted (p : Port) (bad n : Nat) : Port := { p with trainBad := bad, trainExpected := n }

@[simp] theorem Port.counted_trainBad (p : Port) (bad n : Nat) : (p.counted bad n).trainBad = bad := rfl
@[simp] theorem Port.counted_attempts (p : Port) (bad n : Nat) : (p.counted bad n).attempts = p.attempts := rfl
@[simp] theorem Port.counted_mode (p : Port) (bad n : Nat) : (p.counted bad n).mode = p.mode := rfl
@[simp] theorem Port.counted_common (p : Port) (bad n : Nat) : (p.counted bad n).common = p.common := rfl

/-- Segment `i` comes in the order of the attempt. -/
theorem State.trainSegment_counted {s : State} {c : Cam} {i : Nat} (hl : (s.port c).link = .training)
    (h1 : (s.port c).trainExpected ≤ i) (h2 : i < (s.port c).segments) (good : Bool) :
    s.trainSegment c i good =
      let s1 := s.setPort c ((s.port c).counted
        (min 255 ((s.port c).trainBad + (i - (s.port c).trainExpected) + if good then 0 else 1)) (i + 1))
      if i + 1 = (s.port c).segments then s1.judgeAttempt c else s1 := by
  unfold State.trainSegment
  dsimp only
  rw [if_neg (not_not_intro hl), if_neg (by omega)]
  rfl

/-- The end of an attempt: the instruction judges a port that has its last count. -/
theorem exec_attempt_ends {s : State} {c : Cam} {m : CamMode} {i : Instr} {bad : Nat} (hh : s.held = false)
    (hl : (s.port c).link = .training) (hm : (s.port c).mode = some m)
    (h : i = .trainTimerExpiry c ∧ (s.port c).trainTimer = some 0
          ∧ bad = min 255 ((s.port c).trainBad + (modeSegments m - (s.port c).trainExpected))
        ∨ (∃ r check, i = .trainingSegmentArrival c r check ∧ r.index = modeSegments m - 1
          ∧ (s.port c).trainExpected ≤ modeSegments m - 1
          ∧ bad = min 255 ((s.port c).trainBad + (modeSegments m - 1 - (s.port c).trainExpected)
              + if check = linkCheck r.bytes then 0 else 1))) :
    ∃ n, exec i s = .next ((s.setPort c ((s.port c).counted bad n)).judgeAttempt c).drivePins := by
  have hsegments := Port.segments_of_mode hm
  rcases h with ⟨rfl, ht, hb⟩ | ⟨r, check, rfl, hi, he, hb⟩
  · refine ⟨(s.port c).trainExpected, ?_⟩
    rw [exec_trainTimerExpiry hh, State.trainExpires, if_pos ⟨hl, ht⟩, hb, ← hsegments]
    rfl
  · have hpos : 0 < modeSegments m := by cases m <;> decide
    refine ⟨r.index + 1, ?_⟩
    rw [exec_trainingSegmentArrival hh, State.trainSegment_counted hl (by omega) (by omega), checkGood_count]
    dsimp only
    rw [if_pos (by omega), hb, hi]

/-- Settles O21: a segment that does not end the attempt, an event that changes nothing, and the three ends of an attempt. -/
theorem trainingIsCountedAndJudged : Obligations.TrainingIsCountedAndJudged := by
  refine ⟨fun s c r check hh hl hlast => ?_, fun s c hh => ⟨fun hl r check => ?_, fun ht => ?_⟩,
    fun s c m i bad hh hl hm hi => ?_⟩
  · rw [exec_trainingSegmentArrival hh]
    split
    · next hin =>
      rw [State.trainSegment_counted hl hin.1 hin.2, checkGood_count]
      dsimp only
      rw [if_neg fun h => hlast ⟨hin.1, h⟩]
      rfl
    · next hout =>
      unfold State.trainSegment
      dsimp only
      rw [if_neg (not_not_intro hl), if_pos (by omega)]
      rfl
  · rw [exec_trainingSegmentArrival hh, State.trainSegment, if_pos hl]
  · rw [exec_trainTimerExpiry hh, State.trainExpires, if_neg fun h => ht h.2]
  · obtain ⟨n, hexec⟩ := exec_attempt_ends hh hl hm hi
    refine ⟨_, hexec, ?_⟩
    have hback : ∀ rs, ((s.port c).counted bad n).backAfter rs = (s.port c).backAfter rs :=
      Port.backAfter_congr rfl rfl rfl
    by_cases hb : bad ≤ s.params.link.trainTolerance
    · rw [State.judgeAttempt_accepted (by simpa using hb), State.setPort_prepared, State.port_setPort,
        State.setPort_store, State.setPort_control]
      have hmoved := State.prepared_setLink (s := s) (c := c) (x := { s.store c with freeze := 0 }) (k := s.control)
        (p := ((s.port c).counted bad n).accepted) rfl rfl rfl rfl .streaming .trained
      have hfollows := hmoved.follows
      rw [if_neg (by simp [hl])] at hfollows
      dsimp only
      rw [if_pos hb, ← hback, hmoved.port]
      exact ⟨⟨rfl, rfl, rfl, rfl, hm, rfl, rfl, by rw [hmoved.store], by rw [hmoved.store], hmoved.control⟩, rfl, hfollows,
        hmoved.clarity, hmoved.seams, hmoved.choices, hmoved.frame⟩
    · by_cases ha : (s.port c).attempts < 4
      · rw [State.judgeAttempt_retried (m := m) (by simpa using hb) (by simpa using ha) (by simpa using hm)]
        rw [if_neg hb, if_pos ha, State.setPort_prepared, State.port_setPort, State.drivePins_port,
          State.prepared_port, State.setPort_params, State.setPort_control, Port.counted_common]
        generalize (nextLower? m (s.port c).common).getD m = next
        dsimp only
        rw [← hback]
        refine ⟨⟨hl, rfl, rfl, rfl, rfl, rfl, rfl, ?_, rfl⟩, rfl, (State.keepsStreaming_prepared ..).trans
          (keepsStreaming_drivePins ..), rfl, rfl, rfl, ?_⟩
        case refine_2 =>
          exact (State.cameraFrame_prepared (k := s.control.countEvents .retrain (some c) 1) s c _ _ rfl rfl).trans
            (cameraFrame_drivePins ..)
        rw [State.drivePins_store, State.prepared_store, State.offeredStore]
        simp [hm, CamStore.emptied, eq_comm]
        rfl
      · rw [State.judgeAttempt_refused (by simpa using hb) (by simpa using ha), State.setPort_prepared, State.port_setPort,
          State.setPort_store, State.setPort_control]
        have hmoved := State.prepared_setLink (s := s) (c := c) (x := s.store c)
          (k := s.control.countEvents .retrain (some c) 1)
          (p := ((s.port c).counted bad n).failed) rfl rfl rfl rfl .refused .trainFail
        have hfollows := hmoved.follows
        rw [if_neg (by simp [hl])] at hfollows
        dsimp only
        rw [if_neg hb, if_neg ha, ← hback, hmoved.port]
        exact ⟨⟨rfl, rfl, rfl, rfl, hm, rfl, by rw [hmoved.store], hmoved.control⟩, rfl, hfollows, hmoved.clarity,
          hmoved.seams, hmoved.choices, hmoved.frame⟩

end Sys2Proof.Machine
end

section
/-! PROOF. Segments of a frame (R19, R26). -/

namespace Sys2Proof.Machine

theorem exec_segmentArrival {s : State} (h : s.held = false) (c : Cam) (i : Nat) (body : SegmentBody) (check : BitVec 16) :
    exec (.segmentArrival c i body check) s
      = .next (s.segmentArrives c i body (checkGood (segmentBytes i body) check)).drivePins :=
  unlessHeld_live h fun t => t.segmentArrives c i body _

theorem checkGood_eq (bytes : List Byte) (check : BitVec 16) :
    checkGood bytes check = decide (check = linkCheck bytes) := by
  rw [Bool.eq_iff_iff, checkGood_iff, decide_eq_true_iff, eq_comm]

/-- Settles O23, by the frame phase and the index. -/
theorem segmentGoesToThePendingBank : Obligations.SegmentGoesToThePendingBank := by
  intro s c i body check hh
  dsimp only
  rw [exec_segmentArrival hh, checkGood_eq]
  generalize decide (check = linkCheck (segmentBytes i body)) = good
  refine ⟨fun hl hp h1 h2 => ?_, fun hl h => ?_, fun h => ?_⟩
  · have ht : s.segmentArrives c i body good = s.takeSegment c i body good := by
      unfold State.segmentArrives
      dsimp only
      rw [if_neg (not_not_intro hl), hp]
      dsimp only
      rw [if_neg (by omega)]
    rw [ht]
    have hstore : (s.takeSegment c i body good).drivePins.store c = (s.store c).write i body := s.store_setStore c _
    refine ⟨_, rfl, s.port_setPort c _, ?_, fun k hk => ?_, ?_, rfl, rfl, rfl,
      (cameraFrame_takeSegment ..).trans (cameraFrame_drivePins ..)⟩
    all_goals rw [hstore, CamStore.write]
    · exact readCell_writeCell_same ..
    · exact readCell_writeCell_ne _ _ hk
  · have ht : s.segmentArrives c i body good = s.count .segmentError c := by
      unfold State.segmentArrives
      dsimp only
      rw [if_neg (not_not_intro hl)]
      rcases h with ⟨hp, h⟩ | hp
      · rw [hp]
        exact if_pos h
      · rw [hp]
    rw [ht]
    rfl
  · have ht : s.segmentArrives c i body good = s := by
      unfold State.segmentArrives
      dsimp only
      rcases h with hl | hp
      · rw [if_pos hl]
      · rw [hp]
        exact ite_self _
    rw [ht]

end Sys2Proof.Machine
end

section
/-! PROOF. The parts of a frame close (R21): what each leaves in the shares of its camera. -/

namespace Sys2Proof.Machine

/-! ## The tone controller's request (R24) -/

theorem Port.requestExposure_eq {p : Port} (h : p.link = .streaming) (r : Option BackRecord) :
    p.requestExposure r
      = { p with backSending := (p.backAfter r.toList).1, backWaiting := (p.backAfter r.toList).2 } := by
  cases r with
  | none => rw [Option.toList_none, Port.backAfter_nil]; rfl
  | some r => rw [Port.requestExposure, if_pos h, Port.issue_eq]; rfl

@[simp] theorem Port.requestExposure_link (p : Port) (r : Option BackRecord) : (p.requestExposure r).link = p.link := by
  unfold Port.requestExposure
  split
  · split <;> simp
  · rfl

/-! ## Store and clarity monitor at a frame close (R27, R29, R37, R120) -/

@[simp] theorem State.rederive_selector (s : State) (c : Cam) : (s.rederive c).selector = s.selector :=
  (congrArg State.selector (s.rederive_rest c) :)

@[simp] theorem State.refreshHazard_selector (s : State) : s.refreshHazard.selector = s.selector :=
  (congrArg State.selector s.refreshHazard_rest :)

/-- The blocks that the store and the clarity monitor leave at a frame close. -/
structure BesideStoreAndClarity (s t : State) : Prop where
  ports : t.ports = s.ports
  params : t.params = s.params
  windows : t.windows = s.windows
  tones : t.tones = s.tones
  seams : t.seams = s.seams
  zones : t.zones = s.zones
  selector : t.selector = s.selector

theorem BesideStoreAndClarity.trans {s t u : State} (a : BesideStoreAndClarity s t) (b : BesideStoreAndClarity t u) :
    BesideStoreAndClarity s u :=
  ⟨b.ports.trans a.ports, b.params.trans a.params, b.windows.trans a.windows, b.tones.trans a.tones,
    b.seams.trans a.seams, b.zones.trans a.zones, b.selector.trans a.selector⟩

/-- The store of camera `c` once its frame has closed, its health apart (R27, R29, R35). -/
def State.closedStore (s : State) (c : Cam) : CamStore :=
  (s.store c).close s.params.store.holdLimit (s.port c).frameNumber (s.port c).resultMap

theorem CamStore.close_health (st : CamStore) (n : Nat) (frame : Byte) (map : List Bool) :
    (st.close n frame map).health = st.health := by simp only [CamStore.close]

/-- The health of camera `c` from a store and a clarity state, its link and the limits as they are (R36). -/
def State.healthWith (s : State) (c : Cam) (x : CamStore) (cl : ClarityState) : Health :=
  deriveHealth (s.port c).link x.freeze (staleOrEmpty x.table) cl s.params.store

/-- The HEALTH report of a change of health between two values, with the segment table it finds (R37). -/
def healthStep (c : Cam) (old new : Health) (table : List SegEntry) : List Report :=
  if new = old then [] else [.health c old new (table.countP fun e => e.state = .empty ∨ e.state = .stale)]

theorem healthReport_eq_healthStep (s t : State) (c : Cam) : healthReport s t c
    = healthStep c (s.store c).health (t.store c).health (t.store c).table := rfl

@[simp] theorem healthStep_self (c : Cam) (h : Health) (table : List SegEntry) : healthStep c h h table = [] := if_pos rfl

theorem BesideStoreAndClarity.healthWith {s t : State} (h : BesideStoreAndClarity s t) (c : Cam) (x : CamStore)
    (cl : ClarityState) : t.healthWith c x cl = s.healthWith c x cl := by
  simp only [State.healthWith, State.port, h.ports, h.params]

theorem CamStore.close_withHealth (st : CamStore) (h : Health) (n : Nat) (frame : Byte) (map : List Bool) :
    { st with health := h }.close n frame map = { st.close n frame map with health := h } := by
  simp only [CamStore.close]

section
variable (s : State) (c : Cam)

theorem besideStoreAndClarity_storeClose : BesideStoreAndClarity s (s.storeClose c) := by
  constructor <;> simp [State.storeClose]

theorem besideStoreAndClarity_judgeClarity (cl : Clarity) : BesideStoreAndClarity s (s.judgeClarity c cl) := by
  constructor <;> simp [State.judgeClarity]

@[simp] theorem State.storeClose_clarity (d : Cam) : (s.storeClose c).clarity d = s.clarity d := by
  simp [State.storeClose]

@[simp] theorem State.judgeClarity_clarity (cl : Clarity) : (s.judgeClarity c cl).clarity c = cl := by
  simp [State.judgeClarity]

theorem State.storeClose_eq : s.storeClose c = (s.setStore c (s.closedStore c)).rederive c := rfl

theorem State.storeClose_store : (s.storeClose c).store c =
    { s.closedStore c with health := s.healthWith c (s.closedStore c) (s.clarity c).state } := by
  rw [State.storeClose_eq, State.rederive_store, State.store_setStore, State.healthOf, State.store_setStore]
  rfl

theorem State.judgeClarity_store (cl : Clarity) : (s.judgeClarity c cl).store c =
    { s.store c with health := s.healthWith c (s.store c) cl.state } := by
  simp [State.judgeClarity, State.healthOf, State.healthWith]

/-- The store's event after a change of clarity. -/
theorem State.judgeClarity_closedStore (cl : Clarity) : (s.judgeClarity c cl).closedStore c =
    { s.closedStore c with health := s.healthWith c (s.store c) cl.state } := by
  have hb := besideStoreAndClarity_judgeClarity s c cl
  simp only [State.closedStore, State.port, hb.ports, hb.params]
  rw [State.judgeClarity_store, CamStore.close_withHealth]

theorem State.storeClose_control : (s.storeClose c).control = s.control.queueAll
    (healthReport s (s.storeClose c) c) := by
  have hhealth : ((s.setStore c (s.closedStore c)).store c).health = (s.store c).health := by
    rw [State.store_setStore]
    exact CamStore.close_health ..
  rw [State.storeClose_eq, State.rederive_control, State.healthChange_eq_healthReport, State.setStore_control]
  generalize (s.setStore c (s.closedStore c)).rederive c = t
  rw [healthReport_congr hhealth (Eq.refl _)]

theorem State.judgeClarity_control (cl : Clarity) : (s.judgeClarity c cl).control = s.control.queueAll
    (healthReport s (s.judgeClarity c cl) c) := by
  unfold State.judgeClarity
  rw [State.reform_control, State.rederive_control, State.healthChange_eq_healthReport]
  rfl

/-! Both together, where the clarity state changes in the order the free value gives (log 10). -/

theorem besideStoreAndClarity_close : BesideStoreAndClarity s (s.storeAndClarityClose c) := by
  have hclear : ∀ cl, BesideStoreAndClarity s (s.setClarity c cl) := fun _ => by constructor <;> rfl
  have hchoice : BesideStoreAndClarity s { s with choices := s.choices + 1 } := by constructor <;> rfl
  unfold State.storeAndClarityClose
  dsimp only
  split
  · exact (hclear _).trans (besideStoreAndClarity_storeClose ..)
  · split
    · exact (hchoice.trans (besideStoreAndClarity_storeClose ..)).trans (besideStoreAndClarity_judgeClarity ..)
    · exact (hchoice.trans (besideStoreAndClarity_judgeClarity ..)).trans (besideStoreAndClarity_storeClose ..)

theorem State.storeAndClarityClose_clarity : (s.storeAndClarityClose c).clarity c = s.clarityClose c := by
  unfold State.storeAndClarityClose
  dsimp only
  split
  · rw [State.storeClose_clarity, State.clarity_setClarity]
  · split
    · rw [State.judgeClarity_clarity]
    · rw [State.storeClose_clarity, State.judgeClarity_clarity]

theorem State.storeFirst_store (cl : Clarity) : ((s.storeClose c).judgeClarity c cl).store c =
    { s.closedStore c with health := s.healthWith c (s.closedStore c) cl.state } := by
  rw [State.judgeClarity_store, (besideStoreAndClarity_storeClose ..).healthWith, State.storeClose_store]
  generalize s.closedStore c = x
  rfl

theorem State.clarityFirst_store (cl : Clarity) : ((s.judgeClarity c cl).storeClose c).store c =
    { s.closedStore c with health := s.healthWith c (s.closedStore c) cl.state } := by
  rw [State.storeClose_store, State.judgeClarity_clarity, (besideStoreAndClarity_judgeClarity ..).healthWith,
    State.judgeClarity_closedStore]
  generalize s.closedStore c = x
  rfl

theorem State.storeFirst_control (cl : Clarity) : ((s.storeClose c).judgeClarity c cl).control =
    let storeFirst := s.healthWith c (s.closedStore c) (s.clarity c).state
    s.control.queueAll (healthStep c (s.store c).health storeFirst (s.closedStore c).table
      ++ healthStep c storeFirst (s.healthWith c (s.closedStore c) cl.state) (s.closedStore c).table) := by
  rw [State.judgeClarity_control, State.storeClose_control, Control.queueAll_append, healthReport_eq_healthStep,
    healthReport_eq_healthStep, State.storeFirst_store, State.storeClose_store]

theorem State.clarityFirst_control (cl : Clarity) : ((s.judgeClarity c cl).storeClose c).control =
    let clarityFirst := s.healthWith c (s.store c) cl.state
    s.control.queueAll (healthStep c (s.store c).health clarityFirst (s.store c).table
      ++ healthStep c clarityFirst (s.healthWith c (s.closedStore c) cl.state) (s.closedStore c).table) := by
  rw [State.storeClose_control, State.judgeClarity_control, Control.queueAll_append, healthReport_eq_healthStep,
    healthReport_eq_healthStep, State.clarityFirst_store, State.judgeClarity_store]

/-- Where the clarity state stays, the store's event alone. -/
theorem State.storeAlone_store (cl : Clarity) : ((s.setClarity c cl).storeClose c).store c =
    { s.closedStore c with health := s.healthWith c (s.closedStore c) cl.state } := by
  have hx : (s.setClarity c cl).closedStore c = s.closedStore c := rfl
  rw [State.storeClose_store, State.clarity_setClarity, hx]
  rfl

theorem State.storeAlone_control (cl : Clarity) : ((s.setClarity c cl).storeClose c).control
    = s.control.queueAll (healthStep c (s.store c).health (s.healthWith c (s.closedStore c) cl.state)
      (s.closedStore c).table) := by
  rw [State.storeClose_control, healthReport_eq_healthStep, State.storeAlone_store]
  rfl

theorem State.storeAndClarityClose_store : (s.storeAndClarityClose c).store c =
    { s.closedStore c with health := s.healthWith c (s.closedStore c) (s.clarityClose c).state } := by
  have hx : State.closedStore { s with choices := s.choices + 1 } c = s.closedStore c := rfl
  have hh : State.healthWith { s with choices := s.choices + 1 } c = s.healthWith c := rfl
  unfold State.storeAndClarityClose
  dsimp only
  split
  · rw [State.storeAlone_store]
  · split
    · rw [State.storeFirst_store, hx, hh]
    · rw [State.clarityFirst_store, hx, hh]

/-- The HEALTH reports of a frame close, in the one order or the other (log 10). -/
theorem State.storeAndClarityClose_control :
    let before := (s.store c).health
    let after := s.healthWith c (s.closedStore c) (s.clarityClose c).state
    let storeFirst := s.healthWith c (s.closedStore c) (s.clarity c).state
    let clarityFirst := s.healthWith c (s.store c) (s.clarityClose c).state
    ∃ rs, (rs = healthStep c before storeFirst (s.closedStore c).table ++ healthStep c storeFirst after (s.closedStore c).table
        ∨ (s.clarityClose c).state ≠ (s.clarity c).state
          ∧ rs = healthStep c before clarityFirst (s.store c).table ++ healthStep c clarityFirst after (s.closedStore c).table)
      ∧ (s.storeAndClarityClose c).control = s.control.queueAll rs := by
  have hx : State.closedStore { s with choices := s.choices + 1 } c = s.closedStore c := rfl
  have hh : State.healthWith { s with choices := s.choices + 1 } c = s.healthWith c := rfl
  unfold State.storeAndClarityClose
  dsimp only
  split
  · next h =>
    refine ⟨_, .inl rfl, ?_⟩
    rw [State.storeAlone_control, h, healthStep_self, List.append_nil]
  · split
    · refine ⟨_, .inl rfl, ?_⟩
      rw [State.storeFirst_control, hx, hh]
      rfl
    · next h _ =>
      refine ⟨_, .inr ⟨h, rfl⟩, ?_⟩
      rw [State.clarityFirst_control, hx, hh]
      rfl

end

end Sys2Proof.Machine
end

section
/-! PROOF. The frame close but for the downgrade judgement, as one (R21). -/

namespace Sys2Proof.Machine

/-! ## What an exposure request leaves -/

theorem Port.requestExposure_rest (p : Port) (r : Option BackRecord) :
    { p.requestExposure r with backSending := p.backSending, backWaiting := p.backWaiting } = p := by
  unfold Port.requestExposure
  split
  · split
    · rw [Port.issue_eq]
    · rfl
  · rfl

section
variable (p : Port) (r : Option BackRecord)

@[simp] theorem Port.requestExposure_phase : (p.requestExposure r).phase = p.phase :=
  (congrArg Port.phase (p.requestExposure_rest r) :)
@[simp] theorem Port.requestExposure_carrier : (p.requestExposure r).carrier = p.carrier :=
  (congrArg Port.carrier (p.requestExposure_rest r) :)
@[simp] theorem Port.requestExposure_exposure : (p.requestExposure r).exposure = p.exposure :=
  (congrArg Port.exposure (p.requestExposure_rest r) :)
@[simp] theorem Port.requestExposure_frameNumber : (p.requestExposure r).frameNumber = p.frameNumber :=
  (congrArg Port.frameNumber (p.requestExposure_rest r) :)
@[simp] theorem Port.requestExposure_resultMap : (p.requestExposure r).resultMap = p.resultMap :=
  (congrArg Port.resultMap (p.requestExposure_rest r) :)
@[simp] theorem Port.requestExposure_badFrames : (p.requestExposure r).badFrames = p.badFrames :=
  (congrArg Port.badFrames (p.requestExposure_rest r) :)
@[simp] theorem Port.requestExposure_mode : (p.requestExposure r).mode = p.mode :=
  (congrArg Port.mode (p.requestExposure_rest r) :)
@[simp] theorem Port.requestExposure_common : (p.requestExposure r).common = p.common :=
  (congrArg Port.common (p.requestExposure_rest r) :)

end

/-! ## What a frame close reads -/

/-- The windows once the frame of camera `c` has closed (R96). -/
def State.closedWindows (s : State) (c : Cam) : Vector Window 16 :=
  mapTable (Window.closeFrame · c (s.port c).frameNumber (s.port c).exposure (s.port c).resultMap) s.windows

/-- The state with the windows of a closed frame: what seams and clarity read. -/
def State.measured (s : State) (c : Cam) : State := { s with windows := s.closedWindows c }

section
variable (s : State) (c : Cam)

@[simp] theorem State.measured_windows : (s.measured c).windows = s.closedWindows c := by unfold State.measured; rfl
@[simp] theorem State.measured_params : (s.measured c).params = s.params := by unfold State.measured; rfl
@[simp] theorem State.measured_clarity (d : Cam) : (s.measured c).clarity d = s.clarity d := by
  unfold State.measured State.clarity; rfl
@[simp] theorem State.measured_port (d : Cam) : (s.measured c).port d = s.port d := by
  unfold State.measured State.port; rfl
@[simp] theorem State.measured_tone (d : Cam) : (s.measured c).tone d = s.tone d := by
  unfold State.measured State.tone; rfl

end

/-- The tone state of camera `c` before the saturation counts are tested (R102 to R105, R110). -/
def State.toneLooped (s : State) (c : Cam) : Tone :=
  Tone.loop { s.tone c with settle := (s.tone c).settle - 1 } (toneMean? (s.closedWindows c) c)
    (seamSum (mapTable ((s.measured c).seamClose c) s.seams) c) s.params.toneLimits.satFrames

/-- The tone state after the test and the exposure step asked for (R106). -/
def State.toneTested (s : State) (c : Cam) : Tone × Option BackRecord :=
  (s.toneLooped c).exposureStep (s.port c) s.params.toneLimits

/-- Clarity reads the windows, its own state, the limits and the links. -/
theorem State.clarityClose_congr {s t : State} {c : Cam} (hw : t.windows = s.windows) (hc : t.clarity c = s.clarity c)
    (hp : t.params = s.params) (hl : ∀ d, (t.port d).link = (s.port d).link) : t.clarityClose c = s.clarityClose c := by
  simp only [State.clarityClose, State.clarityFirst, State.clarityDecision, State.partnerMeasures, hw, hc, hp, hl]
  rfl

/-- What a frame close of camera `c` leaves but for the downgrade judgement, from `s` with the control link `k`. -/
structure FrameClosed (c : Cam) (s : State) (k : Control) (t : State) : Prop where
  port : t.port c = Port.requestExposure { s.port c with phase := .noFrame } (s.toneTested c).2
  tone : t.tone c = (s.toneTested c).1
  windows : t.windows = s.closedWindows c
  seams : t.seams = mapTable ((s.measured c).seamClose c) s.seams
  clarity : t.clarity c = (s.measured c).clarityClose c
  store : t.store c = { s.closedStore c with health := s.healthWith c (s.closedStore c) (t.clarity c).state }
  zone : ∀ w, t.zone w = if (s.window w).serves c then
      (s.zone w).map fun z => z.close (look (s.closedWindows c) w) ((s.window w).armed s.selector.situation) s.params.zone
    else s.zone w
  hazardList : t.zones.hazardList = activeZones t.zones.zones
  hazard : t.zones.hazardList ≠ s.zones.hazardList → t.zones.hazard = !t.zones.hazardList.isEmpty
  control : let before := (s.store c).health
    let storeFirst := s.healthWith c (s.closedStore c) (s.clarity c).state
    let clarityFirst := s.healthWith c (s.store c) (t.clarity c).state
    ∃ rs, (rs = healthStep c before storeFirst (t.store c).table ++ healthStep c storeFirst (t.store c).health (t.store c).table
        ∨ (t.clarity c).state ≠ (s.clarity c).state
          ∧ rs = healthStep c before clarityFirst (s.store c).table
            ++ healthStep c clarityFirst (t.store c).health (t.store c).table)
      ∧ t.control = (k.countEvents .segmentError (some c) ((s.port c).segments - (s.port c).expected)).queueAll
        (rs ++ hazardReport s t)
  params : t.params = s.params

/-- The state of a frame close before the store's and the clarity monitor's events. -/
def State.toned (s : State) (c : Cam) : State := (s.frameEnds c).toneClose c

section
variable (s : State) (c : Cam)

@[simp] theorem State.frameEnds_port : (s.frameEnds c).port c = { s.port c with phase := .noFrame } := s.port_setPort c _

@[simp] theorem State.frameEnds_windows : (s.frameEnds c).windows = s.closedWindows c := rfl

theorem State.frameEnds_seamClose : (s.frameEnds c).seamClose c = (s.measured c).seamClose c := rfl

theorem State.frameEnds_loop :
    Tone.loop { (s.frameEnds c).tone c with settle := ((s.frameEnds c).tone c).settle - 1 }
      (toneMean? (s.frameEnds c).windows c) (seamSum (mapTable ((s.frameEnds c).seamClose c) (s.frameEnds c).seams) c)
      (s.frameEnds c).params.toneLimits.satFrames = s.toneLooped c := rfl

theorem State.frameEnds_exposureStep (t : Tone) : t.exposureStep ((s.frameEnds c).port c) (s.frameEnds c).params.toneLimits
    = t.exposureStep (s.port c) s.params.toneLimits := by
  rw [State.frameEnds_port]
  rfl

theorem State.toned_eq : s.toned c = (({ s.frameEnds c with
      seams := mapTable ((s.measured c).seamClose c) s.seams }.setTone c (s.toneTested c).1).setPort c
        (Port.requestExposure { s.port c with phase := .noFrame } (s.toneTested c).2)) := by
  unfold State.toned State.toneClose
  dsimp only
  rw [State.frameEnds_loop, State.frameEnds_exposureStep, State.frameEnds_port, State.frameEnds_seamClose]
  rfl

/-! The blocks before the store's and the clarity monitor's events. -/

theorem State.toned_port :
    (s.toned c).port c = Port.requestExposure { s.port c with phase := .noFrame } (s.toneTested c).2 := by
  rw [State.toned_eq, State.port_setPort]

theorem State.toned_tone : (s.toned c).tone c = (s.toneTested c).1 := by
  rw [State.toned_eq, State.setPort_tone, State.tone_setTone]

theorem State.toned_windows : (s.toned c).windows = s.closedWindows c := by rw [State.toned_eq]; rfl
theorem State.toned_seams : (s.toned c).seams = mapTable ((s.measured c).seamClose c) s.seams := by rw [State.toned_eq]; rfl
theorem State.toned_params : (s.toned c).params = s.params := by rw [State.toned_eq]; rfl
theorem State.toned_zones : (s.toned c).zones = s.zones := by rw [State.toned_eq]; rfl
theorem State.toned_selector : (s.toned c).selector = s.selector := by rw [State.toned_eq]; rfl
theorem State.toned_clarity : (s.toned c).clarity c = s.clarity c := by rw [State.toned_eq]; rfl
theorem State.toned_store : (s.toned c).store c = s.store c := by rw [State.toned_eq]; rfl
theorem State.toned_control : (s.toned c).control
    = s.control.countEvents .segmentError (some c) ((s.port c).segments - (s.port c).expected) := by
  rw [State.toned_eq]; rfl

theorem State.toned_link (d : Cam) : ((s.toned c).port d).link = (s.port d).link := by
  by_cases hd : d = c
  · subst hd
    rw [State.toned_port, Port.requestExposure_link]
  · rw [State.toned, ((cameraFrame_frameEnds s c).trans (cameraFrame_toneClose ..)).ports d hd]

theorem State.toned_closedStore : (s.toned c).closedStore c = s.closedStore c := by
  rw [State.closedStore, State.toned_store, State.toned_params, State.toned_port, Port.requestExposure_frameNumber,
    Port.requestExposure_resultMap, State.closedStore]

theorem State.toned_healthWith (x : CamStore) (cl : ClarityState) : (s.toned c).healthWith c x cl = s.healthWith c x cl := by
  rw [State.healthWith, State.toned_params, State.toned_link, State.healthWith]

theorem State.toned_clarityClose : (s.toned c).clarityClose c = (s.measured c).clarityClose c :=
  State.clarityClose_congr (s.toned_windows c) (s.toned_clarity c) (s.toned_params c) (s.toned_link c)

/-- The state of a frame close before the zone watch's event. -/
def State.storeClosed : State := (s.toned c).storeAndClarityClose c

theorem State.closed_eq : s.closed c = (s.storeClosed c).zoneClose c := rfl

theorem State.zoneClose_eq : s.zoneClose c = State.refreshHazard { s with zones := { s.zones with
    zones := Vector.ofFn fun w =>
      if (s.window w).serves c then
        (s.zone w).map fun z => z.close (s.window w) ((s.window w).armed s.selector.situation) s.params.zone
      else s.zone w } } := rfl

@[simp] theorem State.zoneClose_port (d : Cam) : (s.zoneClose c).port d = s.port d := by
  rw [State.zoneClose_eq, State.refreshHazard_port]; rfl
@[simp] theorem State.zoneClose_tone (d : Cam) : (s.zoneClose c).tone d = s.tone d := by
  rw [State.zoneClose_eq, State.refreshHazard_tone]; rfl
@[simp] theorem State.zoneClose_clarity (d : Cam) : (s.zoneClose c).clarity d = s.clarity d := by
  rw [State.zoneClose_eq, State.refreshHazard_clarity]; rfl
@[simp] theorem State.zoneClose_store (d : Cam) : (s.zoneClose c).store d = s.store d := by
  rw [State.zoneClose_eq, State.refreshHazard_store]; rfl
@[simp] theorem State.zoneClose_windows : (s.zoneClose c).windows = s.windows := by
  rw [State.zoneClose_eq, State.refreshHazard_windows]
@[simp] theorem State.zoneClose_seams : (s.zoneClose c).seams = s.seams := by
  rw [State.zoneClose_eq, State.refreshHazard_seams]
@[simp] theorem State.zoneClose_params : (s.zoneClose c).params = s.params := by
  rw [State.zoneClose_eq, State.refreshHazard_params]

theorem State.zoneClose_zone (w : WindowId) : (s.zoneClose c).zone w = if (s.window w).serves c then
    (s.zone w).map fun z => z.close (s.window w) ((s.window w).armed s.selector.situation) s.params.zone
  else s.zone w := by
  rw [State.zoneClose_eq, State.refreshHazard_zone]
  exact look_ofFn ..

theorem State.zoneClose_hazardList : (s.zoneClose c).zones.hazardList = activeZones (s.zoneClose c).zones.zones := by
  rw [State.zoneClose_eq, State.refreshHazard_hazardList, State.refreshHazard_zones_zones]

/-- Where the close changes the list, the flag follows it (R128). -/
theorem State.zoneClose_hazard (h : (s.zoneClose c).zones.hazardList ≠ s.zones.hazardList) :
    (s.zoneClose c).zones.hazard = !(s.zoneClose c).zones.hazardList.isEmpty := by
  rw [State.zoneClose_eq, State.refreshHazard_hazardList] at h ⊢
  rw [State.refreshHazard_hazard h]

theorem State.zoneClose_control : (s.zoneClose c).control = s.control.queueAll (hazardReport s (s.zoneClose c)) := by
  rw [State.zoneClose_eq, State.refreshHazard_control]
  rfl

end

/-- A window is served by its camera after the close as before it, and its zone armed as before. -/
theorem State.closedWindows_active (s : State) (c : Cam) (w : WindowId) :
    (look (s.closedWindows c) w).active = (s.window w).active := by
  rw [State.closedWindows, look_mapTable, Window.closeFrame_active]
  rfl

theorem State.closed_frameClosed (s : State) (c : Cam) : FrameClosed c s s.control (s.closed c) := by
  have hb : BesideStoreAndClarity (s.toned c) (s.storeClosed c) := besideStoreAndClarity_close (s.toned c) c
  have hclarity : (s.closed c).clarity c = (s.measured c).clarityClose c := by
    rw [State.closed_eq, State.zoneClose_clarity, State.storeClosed, State.storeAndClarityClose_clarity,
      State.toned_clarityClose]
  have hstore : (s.closed c).store c
      = { s.closedStore c with health := s.healthWith c (s.closedStore c) ((s.closed c).clarity c).state } := by
    rw [hclarity, State.closed_eq, State.zoneClose_store, State.storeClosed, State.storeAndClarityClose_store,
      State.toned_closedStore, State.toned_healthWith, State.toned_clarityClose]
  have hwindows : (s.storeClosed c).windows = s.closedWindows c := hb.windows.trans (s.toned_windows c)
  refine ⟨?_, ?_, ?_, ?_, hclarity, hstore, fun w => ?_, ?_, fun h => ?_, ?_, ?_⟩
  · rw [State.closed_eq, State.zoneClose_port, ← State.toned_port]
    exact congrArg (fun ps => look ps c) hb.ports
  · rw [State.closed_eq, State.zoneClose_tone, ← State.toned_tone]
    exact congrArg (fun ts => look ts c) hb.tones
  · rw [State.closed_eq, State.zoneClose_windows, hwindows]
  · rw [State.closed_eq, State.zoneClose_seams, ← State.toned_seams]
    exact hb.seams
  · have hwindow : (s.storeClosed c).window w = look (s.closedWindows c) w := by rw [State.window, hwindows]
    have hactive : ((s.storeClosed c).window w).active = (s.window w).active := by
      rw [hwindow, State.closedWindows_active]
    have hselector : (s.storeClosed c).selector = s.selector := hb.selector.trans (s.toned_selector c)
    have hparams : (s.storeClosed c).params = s.params := hb.params.trans (s.toned_params c)
    have hzone : (s.storeClosed c).zone w = s.zone w :=
      congrArg (fun z : ZoneWatch => look z.zones w) (hb.zones.trans (s.toned_zones c))
    rw [State.closed_eq, State.zoneClose_zone, Window.serves_congr hactive, Window.armed, Window.armed, hactive, hselector,
      hparams, hzone, hwindow]
  · rw [State.closed_eq]
    exact (s.storeClosed c).zoneClose_hazardList c
  · have hlist : (s.storeClosed c).zones.hazardList = s.zones.hazardList :=
      congrArg ZoneWatch.hazardList (hb.zones.trans (s.toned_zones c))
    rw [State.closed_eq] at h ⊢
    rw [← hlist] at h
    exact (s.storeClosed c).zoneClose_hazard c h
  · have hhazard : hazardReport (s.storeClosed c) (s.closed c) = hazardReport s (s.closed c) :=
      hazardReport_congr (congrArg ZoneWatch.hazardList (hb.zones.trans (s.toned_zones c))) (Eq.refl _) fun _ => Eq.refl _
    obtain ⟨rs, hrs, hcontrol⟩ := (s.toned c).storeAndClarityClose_control c
    rw [State.toned_clarityClose, State.toned_closedStore, State.toned_clarity, State.toned_store] at hrs
    simp only [State.toned_healthWith] at hrs
    dsimp only
    rw [hstore, hclarity]
    refine ⟨rs, hrs, ?_⟩
    rw [Control.queueAll_append, ← State.toned_control, ← hcontrol, ← hhazard]
    rw [State.closed_eq, State.zoneClose_control]
    rfl
  · rw [State.closed_eq, State.zoneClose_params]
    exact hb.params.trans (s.toned_params c)

end Sys2Proof.Machine
end

section
/-! PROOF. The downgrade judgement of a closed frame (R23), and the trailer that closes it (R20, R21). -/

namespace Sys2Proof.Machine

theorem State.measured_control_clarityClose (s : State) (c : Cam) (k : Control) :
    State.clarityClose (State.measured { s with control := k } c) c = (s.measured c).clarityClose c := by
  apply State.clarityClose_congr
  case hl => exact fun _ => rfl
  all_goals rfl

theorem State.toneTested_control (s : State) (c : Cam) (k : Control) :
    State.toneTested { s with control := k } c = s.toneTested c := rfl

/-- The control link the close starts from is named on its own. -/
theorem FrameClosed.of_control {c : Cam} {s : State} {k : Control} {t : State}
    (h : FrameClosed c { s with control := k } k t) : FrameClosed c s k t := by
  exact {
    port := by rw [h.port, State.toneTested_control]; rfl, tone := by rw [h.tone, State.toneTested_control]
    windows := h.windows, seams := h.seams
    clarity := by rw [h.clarity, State.measured_control_clarityClose], store := h.store, zone := h.zone
    hazardList := h.hazardList, hazard := h.hazard, control := h.control, params := h.params }

/-- The close from a state that has counted an event. -/
theorem State.closed_counted (s : State) (c : Cam) (k : Control) : FrameClosed c s k (State.closed { s with control := k } c) :=
  (State.closed_frameClosed { s with control := k } c).of_control

/-- The mode of a downgrade where a closed frame makes it due and there is one (R23). -/
def State.downgrade? (s : State) (c : Cam) : Option CamMode :=
  if s.params.link.retrainThreshold < (s.port c).resultMap.countP (fun g => !g)
      ∧ s.params.link.retrainFrames ≤ (s.port c).badFrames + 1 then
    (s.port c).mode.bind fun m => nextLower? m (s.port c).common
  else none

theorem State.judgeFrame_stays {s : State} {c : Cam} (h : s.downgrade? c = none) :
    let bad := s.params.link.retrainThreshold < (s.port c).resultMap.countP (fun g => !g)
    let due := bad ∧ s.params.link.retrainFrames ≤ (s.port c).badFrames + 1
    s.judgeFrame c = s.prepared c { s.port c with badFrames := if bad ∧ ¬due then (s.port c).badFrames + 1 else 0 }
      (s.store c) (s.control.queueAll (if due then [.link c .streaming .noLowerMode] else [])) := by
  unfold State.downgrade? at h
  unfold State.judgeFrame
  dsimp only
  split
  · next hgood =>
    rw [if_neg (by omega), if_neg (by omega), State.setPort_eq_prepared]
    rfl
  · next hbad =>
    split
    · next hless =>
      rw [if_pos (by omega), if_neg (by omega), State.setPort_eq_prepared]
      rfl
    · next hmore =>
      rw [if_pos (by omega)] at h
      rw [h, if_neg (by omega), if_pos (by omega), State.prepared_port_only]
      rfl

theorem State.judgeFrame_downgrades {s : State} {c : Cam} {m : CamMode} (h : s.downgrade? c = some m) :
    s.judgeFrame c = (s.prepared c
      (Port.begun { s.port c with badFrames := min s.params.link.retrainFrames ((s.port c).badFrames + 1) } m
        s.params.link.trainWaitMs) (s.offeredStore c m) (s.control.countEvents .retrain (some c) 1)).setLink c .training
          .downgrade := by
  have hbegun : ∀ p : Port, p.mode = (s.port c).mode → ((s.setPort c p).count .retrain c).beginSequence c m
      = s.prepared c (p.begun m s.params.link.trainWaitMs) (s.offeredStore c m)
        (s.control.countEvents .retrain (some c) 1) := fun p hp => by
    rw [State.setPort_eq_prepared, State.prepared_count, State.beginSequence_eq, State.prepared_setStore,
      State.prepared_setPort, State.prepared_port, State.prepared_params]
    simp [State.offeredStore, hp]
  unfold State.downgrade? at h
  split at h
  · next hdue =>
    unfold State.judgeFrame
    dsimp only
    rw [if_neg (by omega), if_neg (by omega), h]
    dsimp only
    rw [hbegun]
    rfl
  · cases h

end Sys2Proof.Machine
end

section
/-! PROOF. Frame trailers (R20, R21, R23). -/

namespace Sys2Proof.Machine

/-! ## Tone at a frame close (R103 to R106) -/

section
variable (t : Tone)

@[simp] theorem Tone.exposureStep_effective (p : Port) (lim : ToneLimits) :
    (t.exposureStep p lim).1.effective = t.effective := by
  unfold Tone.exposureStep
  split
  · rfl
  · split <;> rfl

@[simp] theorem Tone.exposureStep_gain (p : Port) (lim : ToneLimits) : (t.exposureStep p lim).1.gain = t.gain := by
  unfold Tone.exposureStep
  split
  · rfl
  · split <;> rfl

/-- The tone controller asks for nothing, for UP or for DOWN (R106). -/
theorem Tone.exposureStep_asks (p : Port) (lim : ToneLimits) :
    (t.exposureStep p lim).2.toList ∈ ([[], [.exposureUp], [.exposureDown]] : List (List BackRecord)) := by
  unfold Tone.exposureStep
  split
  · simp
  · split <;> simp

@[simp] theorem Tone.loop_effective (mean : Option Nat) (corrections : Int) (sat : Nat) :
    (t.loop mean corrections sat).effective = effectiveTarget t.target corrections := by
  unfold Tone.loop
  dsimp only
  split <;> rfl

theorem Tone.loop_gain (mean : Option Nat) (corrections : Int) (sat : Nat) :
    (t.loop mean corrections sat).gain = match mean with
      | none => t.gain
      | some m => stepGain t.gain (desiredGain m t.black (t.loop mean corrections sat).effective) := by
  rw [Tone.loop_effective]
  unfold Tone.loop
  dsimp only
  split <;> rfl

end

/-- The gain's step, clamped (R104). -/
theorem stepGain_eq (g d : Nat) :
    ((stepGain g d : Nat) : Int) = min 1023 (max 128 ((g : Int) + min 16 (max (-16) ((d : Int) - g)))) := by
  unfold stepGain clampInt
  omega

/-! ## The table and the banks of a closed frame (R27, R29) -/

theorem SegEntry.close_eq (e : SegEntry) (limit : Nat) (frame : Byte) (good : Prop) [Decidable good] :
    e.close limit frame (decide good) = if good then ⟨.fresh, 0, some frame⟩
      else
        let age := min 15 (e.age + 1)
        match e.state with
        | .empty => ⟨.empty, 0, none⟩
        | .stale => ⟨.stale, age, e.lastGood⟩
        | .fresh | .held => ⟨if age ≤ limit then .held else .stale, age, e.lastGood⟩ := by
  obtain ⟨state, age, lastGood⟩ := e
  unfold SegEntry.close
  by_cases h : good
  · simp [h]
  · cases state <;> simp [h, SegEntry.blank]

section
variable (s : State) (c : Cam)

@[simp] theorem State.closedStore_freeze : (s.closedStore c).freeze = 0 := by
  simp only [State.closedStore, CamStore.close]

@[simp] theorem State.closedStore_banks : (s.closedStore c).banks = (s.store c).banks := by
  simp only [State.closedStore, CamStore.close]

theorem State.closedStore_shown (k : Fin 50) : look (s.closedStore c).shown k =
    if (s.port c).resultMap[k.val]? = some true then (look (s.store c).shown k).other else look (s.store c).shown k := by
  simp only [State.closedStore, CamStore.close, look_ofFn]

theorem State.closedStore_table : (s.closedStore c).table = (s.store c).table.mapIdx fun k e =>
    if (s.port c).resultMap[k]? = some true then (⟨.fresh, 0, some (s.port c).frameNumber⟩ : SegEntry)
    else
      let age := min 15 (e.age + 1)
      match e.state with
      | .empty => ⟨.empty, 0, none⟩
      | .stale => ⟨.stale, age, e.lastGood⟩
      | .fresh | .held => ⟨if age ≤ s.params.store.holdLimit then .held else .stale, age, e.lastGood⟩ := by
  simp only [State.closedStore, CamStore.close, SegEntry.close_eq]

end

/-! ## The downgrade judgement on a closed frame -/

/-- What a frame that makes no downgrade leaves, from the state `a` that its close gives (R23). -/
structure FrameStays (c : Cam) (s a t : State) : Prop where
  port : t.port c = { a.port c with
    badFrames := if s.params.link.retrainThreshold < (s.port c).resultMap.countP (fun g => !g)
        ∧ ¬(s.params.link.retrainThreshold < (s.port c).resultMap.countP (fun g => !g)
          ∧ s.params.link.retrainFrames ≤ (s.port c).badFrames + 1) then (s.port c).badFrames + 1 else 0 }
  store : t.store c = a.store c
  control : t.control = a.control.queueAll (if s.params.link.retrainThreshold < (s.port c).resultMap.countP (fun g => !g)
      ∧ s.params.link.retrainFrames ≤ (s.port c).badFrames + 1 then [.link c .streaming .noLowerMode] else [])
  tone : t.tone = a.tone
  windows : t.windows = a.windows
  seams : t.seams = a.seams
  clarity : t.clarity = a.clarity
  zones : t.zones = a.zones

section
variable {c : Cam} {s : State} {k : Control} {t : State} (F : FrameClosed c s k t)
include F

theorem FrameClosed.resultMap : (t.port c).resultMap = (s.port c).resultMap := by rw [F.port]; simp
theorem FrameClosed.badFrames : (t.port c).badFrames = (s.port c).badFrames := by rw [F.port]; simp
theorem FrameClosed.mode : (t.port c).mode = (s.port c).mode := by rw [F.port]; simp
theorem FrameClosed.common : (t.port c).common = (s.port c).common := by rw [F.port]; simp
theorem FrameClosed.link : (t.port c).link = (s.port c).link := by rw [F.port]; simp
theorem FrameClosed.phase : (t.port c).phase = .noFrame := by rw [F.port]; simp
theorem FrameClosed.exposure : (t.port c).exposure = (s.port c).exposure := by rw [F.port]; simp

theorem FrameClosed.carrier : (t.port c).carrier = (s.port c).carrier := by
  rw [F.port, Port.requestExposure_carrier]

/-- The back channel after the tone controller's request (R24). -/
theorem FrameClosed.back (hl : (s.port c).link = .streaming) :
    ((t.port c).backSending, (t.port c).backWaiting) = (s.port c).backAfter (s.toneTested c).2.toList := by
  have hp : Port.link { s.port c with phase := .noFrame } = .streaming := hl
  rw [F.port, Port.requestExposure_eq hp]
  rfl

theorem FrameClosed.downgrade? : t.downgrade? c = s.downgrade? c := by
  simp only [State.downgrade?, F.resultMap, F.badFrames, F.mode, F.common, F.params]

theorem FrameClosed.judge_stays (h : s.downgrade? c = none) : FrameStays c s t (t.judgeFrame c).drivePins := by
  have hj := State.judgeFrame_stays (F.downgrade?.trans h)
  simp only [F.resultMap, F.badFrames, F.params] at hj
  rw [hj]
  constructor
  case port =>
    rw [State.drivePins_port, State.prepared_port]
    simp only [F.resultMap]
  case store => rw [State.drivePins_store, State.prepared_store]
  all_goals rfl

theorem FrameClosed.judge_downgrades {m : CamMode} (h : s.downgrade? c = some m) :
    LinkMoved c t (t.judgeFrame c).drivePins
      (Port.begun { t.port c with badFrames := min s.params.link.retrainFrames ((t.port c).badFrames + 1) } m
        s.params.link.trainWaitMs)
      (t.offeredStore c m) (t.control.countEvents .retrain (some c) 1) .training .downgrade := by
  rw [State.judgeFrame_downgrades (F.downgrade?.trans h), F.params]
  apply State.prepared_setLink
  case hp => rw [Port.begun_link_eq]
  case hx => rw [State.offeredStore_health]
  case h1 => rw [Control.countEvents_rate]
  case h2 => rw [Control.countEvents_rx]

theorem FrameClosed.health : (t.store c).health = s.healthWith c (s.closedStore c) (t.clarity c).state := by rw [F.store]
theorem FrameClosed.table : (t.store c).table = (s.closedStore c).table := by rw [F.store]
theorem FrameClosed.freeze : (t.store c).freeze = 0 := by
  simp only [F.store, State.closedStore_freeze]
theorem FrameClosed.banks : (t.store c).banks = (s.store c).banks := by
  simp only [F.store, State.closedStore_banks]

/-- The tone state's effective target and gain, by the windows of the closed frame (R103, R104). -/
theorem FrameClosed.effective : (t.tone c).effective = effectiveTarget (s.tone c).target (seamSum t.seams c) := by
  rw [F.tone, F.seams, State.toneTested, Tone.exposureStep_effective, State.toneLooped, Tone.loop_effective]

theorem FrameClosed.gain : (t.tone c).gain = match toneMean? (s.closedWindows c) c with
    | none => (s.tone c).gain
    | some m => stepGain (s.tone c).gain (desiredGain m (s.tone c).black (t.tone c).effective) := by
  rw [F.tone, State.toneTested, Tone.exposureStep_gain, Tone.exposureStep_effective, State.toneLooped,
    Tone.loop_gain]

/-- The gain kept without a tone mean, also by what leaves the gain (R105). -/
theorem FrameClosed.gain_kept {x : Tone} (hg : x.gain = (t.tone c).gain) (hm : toneMean? (s.closedWindows c) c = none) :
    x.gain = (s.tone c).gain := by
  rw [hg, F.gain, hm]

/-- The gain moved by R104, also by what leaves gain and effective target. -/
theorem FrameClosed.gain_stepped {x : Tone} (hg : x.gain = (t.tone c).gain) (he : x.effective = (t.tone c).effective)
    {m : Nat} (hm : toneMean? (s.closedWindows c) c = some m) :
    let g : Int := (s.tone c).gain
    let e := max (m - (s.tone c).black) 1
    let desired : Int := ((x.effective * 256 + e / 2) / e : Nat)
    (x.gain : Int) = min 1023 (max 128 (g + min 16 (max (-16) (desired - g)))) := by
  rw [hg, F.gain, hm, he]
  exact stepGain_eq ..

/-- The HEALTH reports of the close, and the control link after it, for a camera that streams (R37, log 10). -/
theorem FrameClosed.reports (hl : (s.port c).link = .streaming) :
    let unusable := fun es : List SegEntry => es.countP fun e => e.state = .empty ∨ e.state = .stale
    let health := fun freeze es cl => deriveHealth .streaming freeze (unusable es) cl s.params.store
    let table := (s.closedStore c).table
    let after := health 0 table (t.clarity c).state
    let storeFirst := health 0 table (s.clarity c).state
    let clarityFirst := health (s.store c).freeze (s.store c).table (t.clarity c).state
    (t.store c).health = after
    ∧ ∃ rs, (rs = healthStep c (s.store c).health storeFirst table ++ healthStep c storeFirst after table
        ∨ (t.clarity c).state ≠ (s.clarity c).state
          ∧ rs = healthStep c (s.store c).health clarityFirst (s.store c).table ++ healthStep c clarityFirst after table)
      ∧ t.control = (k.countEvents .segmentError (some c) ((s.port c).segments - (s.port c).expected)).queueAll
        (rs ++ hazardReport s t) := by
  have hhealth : ∀ x cl, s.healthWith c x cl = deriveHealth .streaming x.freeze
      (x.table.countP fun e => e.state = .empty ∨ e.state = .stale) cl s.params.store := fun x cl => by
    rw [State.healthWith, hl, staleOrEmpty_eq]
  obtain ⟨rs, hrs, hcontrol⟩ := F.control
  rw [F.table, F.health, hhealth, hhealth, hhealth, State.closedStore_freeze] at hrs
  exact ⟨by rw [F.health, hhealth, State.closedStore_freeze], rs, hrs, hcontrol⟩

end

/-- A streaming camera is never ABSENT (R36). -/
theorem deriveHealth_streaming_ne (f b : Nat) (cl : ClarityState) (p : StoreParams) :
    deriveHealth .streaming f b cl p ≠ .absent := by
  unfold deriveHealth
  rw [if_neg (by decide), if_neg (by decide)]
  split
  · decide
  · split
    · decide
    · split <;> decide

/-! ## A sequence begun after the tone controller's request -/

/-- Records issued in two runs are issued in one. -/
theorem Port.backAfter_append {p q : Port} (as rs : List BackRecord) (hc : q.carrier = p.carrier)
    (hs : (q.backSending, q.backWaiting) = p.backAfter as) : q.backAfter rs = p.backAfter (as ++ rs) := by
  obtain ⟨hs, hw⟩ := Prod.ext_iff.mp hs
  unfold Port.backAfter at hs hw ⊢
  rw [hc]
  cases hcar : p.carrier with
  | false => simp_all
  | true => cases hb : p.backSending <;> cases as <;> simp_all

theorem Port.begun_back (p : Port) (m : CamMode) (ms : Nat) :
    ((p.begun m ms).backSending, (p.begun m ms).backWaiting) = p.backAfter [.offer m] := by
  rw [Port.begun, Port.issue_eq]
  rfl

@[simp] theorem State.offeredStore_freeze (s : State) (c : Cam) (m : CamMode) :
    (s.offeredStore c m).freeze = (s.store c).freeze := by
  unfold State.offeredStore; split <;> rfl

@[simp] theorem State.offeredStore_banks (s : State) (c : Cam) (m : CamMode) :
    (s.offeredStore c m).banks = (s.store c).banks := by
  unfold State.offeredStore; split <;> rfl

theorem State.offeredStore_table (s : State) (c : Cam) (m : CamMode) : (s.offeredStore c m).table =
    if (s.port c).mode = some m then (s.store c).table else List.replicate (modeSegments m) ⟨.empty, 0, none⟩ := by
  unfold State.offeredStore; split <;> rfl

/-! ## The trailer -/

section
variable {s : State} (hh : s.held = false) {c : Cam} {n : Byte}
include hh

theorem exec_frameTrailerArrival (check : BitVec 16) : exec (.frameTrailerArrival c n check) s
    = .next (s.trailerArrives c n (checkGood [n] check)).drivePins :=
  unlessHeld_live hh fun t => t.trailerArrives c n _

/-- A good trailer of an open frame is its close, from a state that has counted a wrong frame number. -/
theorem exec_trailer_closes (hl : (s.port c).link = .streaming) (hp : (s.port c).phase = .opened) :
    exec (.frameTrailerArrival c n (linkCheck [n])) s = .next (State.drivePins (State.judgeFrame (State.closed
      { s with control := if n = (s.port c).frameNumber then s.control
        else s.control.countEvents .frameTruncated (some c) 1 } c) c)) := by
  have hgood : checkGood [n] (linkCheck [n]) = true := (checkGood_iff ..).mpr rfl
  rw [exec_frameTrailerArrival hh, hgood, State.trailerArrives]
  rw [if_neg (not_not_intro hl), if_neg (by decide), if_neg (not_not_intro hp)]
  split
  · rw [State.frameClose_eq]
  · rw [State.frameClose_eq]
    rfl

end

/-- Settles O24: a good trailer by the downgrade it makes due, and a trailer that closes nothing. -/
theorem trailerClosesTheFrame : Obligations.TrailerClosesTheFrame := by
  refine ⟨fun s c number hh hl hp => ⟨_, exec_trailer_closes hh hl hp, ?_⟩, fun s c number check hh =>
    ⟨fun hl hc => ?_, fun hl hp => ?_, fun hl => ?_⟩⟩
  · have hrate : (if number = (s.port c).frameNumber then s.control
        else s.control.countEvents .frameTruncated (some c) 1).rate = s.control.rate := by split <;> rfl
    have hrx : (if number = (s.port c).frameNumber then s.control
        else s.control.countEvents .frameTruncated (some c) 1).rx = s.control.rx := by split <;> rfl
    generalize (if number = (s.port c).frameNumber then s.control
        else s.control.countEvents .frameTruncated (some c) 1) = k at *
    have F := s.closed_counted c k
    have hframe : CameraFrame c s (State.closed { s with control := k } c) :=
      (cameraFrame_control s c hrate hrx).trans (cameraFrame_closed ..)
    generalize State.closed { s with control := k } c = a at F hframe
    have hend : CameraFrame c s (a.judgeFrame c).drivePins :=
      (hframe.trans (cameraFrame_judgeFrame ..)).trans (cameraFrame_drivePins ..)
    cases hd : s.downgrade? c with
    | none =>
      have E := F.judge_stays hd
      generalize (a.judgeFrame c).drivePins = t at E hend ⊢
      refine ⟨by rw [E.port]; exact F.phase, by rw [E.port]; exact F.exposure, by rw [E.store, F.freeze],
        by rw [E.store, F.banks], ?_, hend⟩
      intro closed windows table counted unusable health change before after storeFirst clarityFirst bad due
      have htable : (s.closedStore c).table = table := s.closedStore_table c
      have hdown : (if due then (s.port c).mode.bind fun m => nextLower? m (s.port c).common else none) = none := hd
      have hhazard : hazardReport s t = hazardReport s a :=
        hazardReport_congr rfl (by rw [E.zones]) fun w => by rw [State.window, E.windows]; rfl
      have htone : t.tone c = a.tone c := by rw [E.tone]
      obtain ⟨hafter, rs, hrs, hcontrol⟩ := F.reports hl
      rw [htable, ← E.clarity] at hafter hrs
      rw [hdown]
      refine ⟨⟨rs, hrs, ?_⟩, ⟨?_, ?_, ?_, ?_, fun k => ?_, ?_, ?_⟩, ?_, ?_⟩
      · rw [E.control, hcontrol, hhazard]
        simp only [Control.queueAll_append]
        rfl
      · rw [E.port]; exact F.link.trans hl
      · rw [E.port]; exact F.mode
      · rw [E.port]
      · rw [E.windows, F.windows]; rfl
      · rw [E.store, F.store]; exact s.closedStore_shown c k
      · rw [E.store, F.table, htable]
      · rw [E.store, hafter]
      · rw [htone, E.seams, F.effective]
      · split
        · next hm => exact F.gain_kept (by rw [htone]) hm
        · next m hm => exact F.gain_stepped (by rw [htone]) (by rw [htone]) hm
    | some m =>
      have E := F.judge_downgrades hd
      generalize (a.judgeFrame c).drivePins = t at E hend ⊢
      have hstore := E.absent (by decide) (by decide)
      have hleaves := E.follows
      rw [if_pos ⟨F.link.trans hl, by decide⟩] at hleaves
      refine ⟨?_, ?_, ?_, ?_, ?_, hend⟩
      · rw [E.port, Port.begun, Port.issue_eq]
      · rw [E.port, Port.begun, Port.issue_eq]; exact F.exposure
      · rw [hstore]; exact (a.offeredStore_freeze c m).trans F.freeze
      · rw [hstore]; exact (a.offeredStore_banks c m).trans F.banks
      intro closed windows table counted unusable health change before after storeFirst clarityFirst bad due
      have htable : (s.closedStore c).table = table := s.closedStore_table c
      have hdown : (if due then (s.port c).mode.bind fun m => nextLower? m (s.port c).common else none) = some m := hd
      have hhazard : hazardReport s t = hazardReport s a :=
        hazardReport_congr rfl hleaves.hazard.2 fun w => (E.frame.changes w).1
      have hserves : ∀ w, (a.window w).serves c = (s.window w).serves c := fun w =>
        Window.serves_congr (hframe.changes w).1 c
      obtain ⟨hafter, rs, hrs, hcontrol⟩ := F.reports hl
      rw [htable, ← E.clarity] at hafter hrs
      have hreport : healthReport a t c = [.health c after .absent (unusable (t.store c).table)] := by
        have hne : (a.store c).health ≠ .absent := by
          rw [hafter]
          exact deriveHealth_streaming_ne _ _ _ _
        rw [healthReport, hstore, if_neg hne.symm, hafter]
      rw [hdown]
      refine ⟨⟨rs, hrs, ?_⟩, ⟨?_, ?_, ?_, ?_, ?_, ?_, ?_, fun w => ?_, ?_, ?_, ?_, fun w z hw hz => ?_, ?_, ?_⟩, ?_, ?_⟩
      · rw [E.control, hreport, hhazard, hcontrol]
      · rw [E.port]
      · rw [E.port, Port.begun, Port.issue_eq]
      · rw [E.port, Port.begun, Port.issue_eq]
      · rw [E.port, Port.begun, Port.issue_eq]
      · rw [E.port, Port.begun, Port.issue_eq]
      · rw [E.port, Port.begun, Port.issue_eq]
      · refine ⟨_, Tone.exposureStep_asks (s.toneLooped c) (s.port c) s.params.toneLimits, ?_⟩
        rw [E.port]
        exact (Port.begun_back ..).trans (Port.backAfter_append _ _ F.carrier (F.back hl))
      · rw [hleaves.windows, hserves]
        split
        · rw [State.window, F.windows]
          rfl
        · next hw => exact (hframe.windows w (by simpa using hw)).1
      · rw [hleaves.tone]
      · rw [hleaves.tone]
      · rw [hleaves.tone]
      · rw [hleaves.zones, hserves, if_pos hw] at hz
        obtain ⟨y, -, rfl⟩ := Option.map_eq_some_iff.mp hz
        refine ⟨rfl, rfl, ?_⟩
        dsimp only
        split
        · decide
        · assumption
      · rw [hstore]
      · rw [hstore]
        refine (a.offeredStore_table c m).trans ?_
        rw [F.mode, F.table, htable]
      · rw [hleaves.tone, E.seams, F.effective]
      · split
        · next hm => exact F.gain_kept (by rw [hleaves.tone]) hm
        · next m hm => exact F.gain_stepped (by rw [hleaves.tone]) (by rw [hleaves.tone]) hm
  · rw [exec_frameTrailerArrival hh, State.trailerArrives, if_neg (not_not_intro hl), if_pos (by simp [checkGood_eq, hc])]
    rfl
  · rw [exec_frameTrailerArrival hh, State.trailerArrives, if_neg (not_not_intro hl), if_neg (by simp [checkGood_eq]),
      if_pos hp]
  · rw [exec_frameTrailerArrival hh, State.trailerArrives, if_pos hl]

end Sys2Proof.Machine
end

section
/-! PROOF. Seams, saturation, exposure, clarity and zones at a frame close, and the frames in a row their states take (R105 to
R125). -/

namespace Sys2Proof.Machine

/-! ## Clarity decisions in a row (R119) -/

section
variable {cl : Clarity} {lim : ClarityLimits}

theorem Clarity.decide_low_before (hs : cl.state = .clear) (h : cl.low + 1 < lim.obscureFrames) :
    (cl.decide lim true).state = .clear ∧ (cl.decide lim true).low = cl.low + 1 := by
  have hl : min lim.obscureFrames (min lim.obscureFrames cl.low + 1) = cl.low + 1 := by omega
  simp only [Clarity.decide, hs, if_true, hl, if_neg (Nat.not_le.mpr h), and_self]

theorem Clarity.decide_low_last (hs : cl.state = .clear) (h : lim.obscureFrames ≤ cl.low + 1) :
    (cl.decide lim true).state = .obscured ∧ (cl.decide lim true).low = 0 ∧ (cl.decide lim true).clear = 0 := by
  have hl : lim.obscureFrames ≤ min lim.obscureFrames (min lim.obscureFrames cl.low + 1) := by omega
  simp only [Clarity.decide, hs, if_true, if_pos hl, and_self]

theorem Clarity.decide_high_before (hs : cl.state = .obscured) (h : cl.clear + 1 < lim.clearFrames) :
    (cl.decide lim false).state = .obscured ∧ (cl.decide lim false).clear = cl.clear + 1 := by
  have hk : min lim.clearFrames (min lim.clearFrames cl.clear + 1) = cl.clear + 1 := by omega
  simp [Clarity.decide, hs, hk, if_neg (Nat.not_le.mpr h)]

theorem Clarity.decide_high_last (hs : cl.state = .obscured) (h : lim.clearFrames ≤ cl.clear + 1) :
    (cl.decide lim false).state = .clear ∧ (cl.decide lim false).low = 0 ∧ (cl.decide lim false).clear = 0 := by
  have hk : lim.clearFrames ≤ min lim.clearFrames cl.clear + 1 := by omega
  simp [Clarity.decide, hs, hk]

/-- Low frames in a row raise the low count, one each. -/
theorem Clarity.iterate_low (hs : cl.state = .clear) (h0 : cl.low = 0) (n : Nat) (h : n < lim.obscureFrames) :
    ((fun x : Clarity => x.decide lim true)^[n] cl).state = .clear
      ∧ ((fun x : Clarity => x.decide lim true)^[n] cl).low = n := by
  induction n with
  | zero => exact ⟨hs, h0⟩
  | succ n ih =>
    obtain ⟨hstate, hlow⟩ := ih (by omega)
    rw [Function.iterate_succ_apply']
    obtain ⟨hstate', hlow'⟩ := Clarity.decide_low_before hstate (lim := lim) (by omega)
    exact ⟨hstate', by rw [hlow', hlow]⟩

/-- Frames in a row that are not low raise the clear count, one each. -/
theorem Clarity.iterate_high (hs : cl.state = .obscured) (h0 : cl.clear = 0) (n : Nat) (h : n < lim.clearFrames) :
    ((fun x : Clarity => x.decide lim false)^[n] cl).state = .obscured
      ∧ ((fun x : Clarity => x.decide lim false)^[n] cl).clear = n := by
  induction n with
  | zero => exact ⟨hs, h0⟩
  | succ n ih =>
    obtain ⟨hstate, hclear⟩ := ih (by omega)
    rw [Function.iterate_succ_apply']
    obtain ⟨hstate', hclear'⟩ := Clarity.decide_high_before hstate (lim := lim) (by omega)
    exact ⟨hstate', by rw [hclear', hclear]⟩

end

/-! ## Zone judgements in a row (R125) -/

section
variable (z : Zone) (p : ZoneParams)

/-- A judgement leaves what the zone remembers of the result. -/
theorem Zone.judge_kept (active : Bool) : (z.judge p active).means = z.means
    ∧ (z.judge p active).exposure = z.exposure ∧ (z.judge p active).valid = z.valid := by
  unfold Zone.judge
  generalize (if active then min p.actFrames (min p.actFrames z.count + 1) else 0) = count
  dsimp only
  split
  · exact ⟨rfl, rfl, rfl⟩
  · split
    · exact ⟨rfl, rfl, rfl⟩
    · split <;> exact ⟨rfl, rfl, rfl⟩

theorem Zone.judge_still : (z.judge p false).count = 0 ∧ (z.judge p false).hold = z.hold
    ∧ (z.judge p false).state = if z.state = .active then .active else .idle := by
  unfold Zone.judge
  cases z.state <;> simp

variable {z p}

theorem Zone.judge_before (h : z.count + 1 < p.actFrames) : (z.judge p true).count = z.count + 1
    ∧ (z.judge p true).hold = z.hold ∧ (z.judge p true).state = if z.state = .active then .active else .counting := by
  have hc : min p.actFrames (min p.actFrames z.count + 1) = z.count + 1 := by omega
  have hn : z.count + 1 ≠ p.actFrames := by omega
  unfold Zone.judge
  cases z.state <;> simp [hc, hn]

theorem Zone.judge_last (h : p.actFrames ≤ z.count + 1) : (z.judge p true).count = p.actFrames
    ∧ (z.judge p true).hold = some p.actHold ∧ (z.judge p true).state = .active := by
  have hc : min p.actFrames (min p.actFrames z.count + 1) = p.actFrames := by omega
  unfold Zone.judge
  cases z.state <;> simp [hc]

/-- Active frames in a row of an IDLE zone. -/
theorem Zone.iterate_idle (hs : z.state = .idle) (h0 : z.count = 0) (n : Nat) (h : n < p.actFrames) :
    ((fun x : Zone => x.judge p true)^[n] z).state = (if n = 0 then .idle else .counting)
      ∧ ((fun x : Zone => x.judge p true)^[n] z).count = n ∧ ((fun x : Zone => x.judge p true)^[n] z).hold = z.hold := by
  induction n with
  | zero => exact ⟨hs, h0, rfl⟩
  | succ n ih =>
    obtain ⟨hstate, hcount, hhold⟩ := ih (by omega)
    rw [Function.iterate_succ_apply']
    obtain ⟨hcount', hhold', hstate'⟩ := Zone.judge_before (p := p) (z := (fun x : Zone => x.judge p true)^[n] z) (by omega)
    refine ⟨?_, by rw [hcount', hcount], by rw [hhold', hhold]⟩
    rw [hstate', hstate]
    by_cases hn : n = 0 <;> simp [hn]

/-- Active frames in a row of an ACTIVE zone: the count rises and the hold timer stays below ACT_FRAMES. -/
theorem Zone.iterate_active (hs : z.state = .active) (h0 : z.count = 0) (n : Nat) (h : n < p.actFrames) :
    ((fun x : Zone => x.judge p true)^[n] z).state = .active
      ∧ ((fun x : Zone => x.judge p true)^[n] z).count = n ∧ ((fun x : Zone => x.judge p true)^[n] z).hold = z.hold := by
  induction n with
  | zero => exact ⟨hs, h0, rfl⟩
  | succ n ih =>
    obtain ⟨hstate, hcount, hhold⟩ := ih (by omega)
    rw [Function.iterate_succ_apply']
    obtain ⟨hcount', hhold', hstate'⟩ := Zone.judge_before (p := p) (z := (fun x : Zone => x.judge p true)^[n] z) (by omega)
    exact ⟨by rw [hstate', hstate]; rfl, by rw [hcount', hcount], by rw [hhold', hhold]⟩

/-- From ACT_FRAMES on every active frame restarts the hold timer. -/
theorem Zone.iterate_active_held (hs : z.state = .active) (h0 : z.count = 0) (h1 : 1 ≤ p.actFrames) (n : Nat)
    (h : p.actFrames ≤ n) : ((fun x : Zone => x.judge p true)^[n] z).state = .active
      ∧ ((fun x : Zone => x.judge p true)^[n] z).count = p.actFrames
      ∧ ((fun x : Zone => x.judge p true)^[n] z).hold = some p.actHold := by
  induction n, h using Nat.le_induction with
  | base =>
    obtain ⟨n, hn⟩ := Nat.exists_eq_add_of_le' h1
    obtain ⟨hstate, hcount, -⟩ := Zone.iterate_active (p := p) hs h0 n (by omega)
    rw [hn, Function.iterate_succ_apply', ← hn]
    obtain ⟨hcount', hhold', hstate'⟩ := Zone.judge_last (p := p) (z := (fun x : Zone => x.judge p true)^[n] z) (by omega)
    exact ⟨hstate', hcount', hhold'⟩
  | succ n hn ih =>
    obtain ⟨hstate, hcount, -⟩ := ih
    rw [Function.iterate_succ_apply']
    obtain ⟨hcount', hhold', hstate'⟩ := Zone.judge_last (p := p) (z := (fun x : Zone => x.judge p true)^[n] z) (by omega)
    exact ⟨hstate', hcount', hhold'⟩

end

end Sys2Proof.Machine
end

section
/-! PROOF. What a frame close does to seams, saturation, exposure, clarity and zones (R105 to R125). -/

namespace Sys2Proof.Machine

/-! ## Seams (R110, R111) -/

/-- The luminance the driver sees at a window's mean, by the gain and the black offset of its camera (R111). -/
def State.seenLuma (s : State) (cam : Cam) (mean : Nat) : Int :=
  ((min 255 (((mean - (s.tone cam).black) * (s.tone cam).gain + 128) / 256) : Nat) : Int)

theorem toneLevel_eq (s : State) (cam : Cam) (mean : Nat) :
    (toneLevel mean (s.tone cam).gain (s.tone cam).black : Int) = s.seenLuma cam mean := by
  unfold toneLevel State.seenLuma
  split
  · next h => simp [Nat.sub_eq_zero_of_le h]
  · rfl

theorem State.seamClose_eq (s : State) (c : Cam) (p : SeamPair) : s.seamClose c p =
    if p.enabled = false then p
    else match seamInForce s.windows p, p.windowA, p.windowB with
      | some (ca, cb), some a, some b =>
        if cb ≠ c then if p.camera = none ∨ p.camera = some cb then p else { p with correction := 0, camera := none }
        else match (s.window a).valid?, (s.window b).valid? with
          | some ma, some mb =>
            { p with
              correction := min 24 (max (-24) ((s.seenLuma ca ma.mean - s.seenLuma cb mb.mean).tdiv 2)), camera := some c }
          | _, _ => if p.camera = some c then p else { p with correction := 0, camera := some c }
      | _, _, _ => { p with correction := 0, camera := none } := by
  unfold State.seamClose
  cases he : p.enabled with
  | false => rfl
  | true =>
    simp only [Bool.not_true, Bool.false_eq_true, if_false, Bool.true_eq_false]
    generalize ha : p.windowA = wa
    generalize hb : p.windowB = wb
    cases seamInForce s.windows p with
    | none => rfl
    | some cams =>
      obtain ⟨ca, cb⟩ := cams
      cases wa with
      | none => rfl
      | some a =>
        cases wb with
        | none => rfl
        | some b =>
          dsimp only
          split
          · cases hp : p.camera <;> simp [eq_comm]
          · cases (s.window a).valid? with
            | none => rfl
            | some ma =>
              cases (s.window b).valid? with
              | none => rfl
              | some mb =>
                dsimp only
                rw [seamCorrection, toneLevel_eq, toneLevel_eq]
                split
                · next hp => rw [ha, hb, he, hp]; rfl
                · rfl

/-! ## Saturation and exposure (R105, R106) -/

section
variable (t : Tone)

@[simp] theorem Tone.loop_settle (mean : Option Nat) (corrections : Int) (sat : Nat) :
    (t.loop mean corrections sat).settle = t.settle := by
  unfold Tone.loop
  dsimp only
  split <;> rfl

theorem Tone.loop_high (mean : Option Nat) (corrections : Int) (sat : Nat) :
    (t.loop mean corrections sat).high = match mean with
      | none => min sat t.high
      | some m => if (t.loop mean corrections sat).gain = 1023
            ∧ 1023 < desiredGain m t.black (t.loop mean corrections sat).effective then min sat (t.high + 1) else 0 := by
  unfold Tone.loop
  cases mean <;> rfl

theorem Tone.loop_low (mean : Option Nat) (corrections : Int) (sat : Nat) :
    (t.loop mean corrections sat).low = match mean with
      | none => min sat t.low
      | some m => if (t.loop mean corrections sat).gain = 128
            ∧ desiredGain m t.black (t.loop mean corrections sat).effective < 128 then min sat (t.low + 1) else 0 := by
  unfold Tone.loop
  cases mean <;> rfl

/-- UP is asked for (R106). -/
def Tone.asksUp (p : Port) (lim : ToneLimits) : Prop :=
  t.high = lim.satFrames ∧ t.settle = 0 ∧ ∃ top, p.maxExposure = some top ∧ p.exposure < top

/-- DOWN is asked for (R106). -/
def Tone.asksDown (p : Port) (lim : ToneLimits) : Prop :=
  ¬t.asksUp p lim ∧ t.low = lim.satFrames ∧ t.settle = 0 ∧ 0 < p.exposure

variable {t} in
theorem Tone.asksUp_iff {p : Port} {lim : ToneLimits} : t.asksUp p lim ↔
    t.high = lim.satFrames ∧ t.settle = 0 ∧ p.maxExposure.any (fun top => p.exposure < top) = true := by
  simp [Tone.asksUp, Option.any_eq_true]

theorem Tone.exposureStep_up {p : Port} {lim : ToneLimits} (h : t.asksUp p lim) : t.exposureStep p lim =
    ({ t with settle := lim.exposureSettle, high := 0 }, some .exposureUp) := if_pos (Tone.asksUp_iff.mp h)

theorem Tone.exposureStep_down {p : Port} {lim : ToneLimits} (h : t.asksDown p lim) : t.exposureStep p lim =
    ({ t with settle := lim.exposureSettle, low := 0 }, some .exposureDown) := by
  rw [Tone.exposureStep, if_neg fun hu => h.1 (Tone.asksUp_iff.mpr hu), if_pos h.2]

theorem Tone.exposureStep_none {p : Port} {lim : ToneLimits} (hu : ¬t.asksUp p lim) (hd : ¬t.asksDown p lim) :
    t.exposureStep p lim = (t, none) := by
  rw [Tone.exposureStep, if_neg fun h => hu (Tone.asksUp_iff.mpr h), if_neg fun h => hd ⟨hu, h⟩]

end

/-! ## Clarity (R117, R118, R120) -/

/-- What a measured CLARITY window decides (R117, R118, R120), where windows and links are those of `t`. -/
theorem State.clarityClose_eq {u s t : State} {c : Cam} (hw : u.windows = t.windows) (hc : u.clarity c = s.clarity c)
    (hp : u.params = s.params) (hl : ∀ d, (u.port d).link = (t.port d).link) : u.clarityClose c =
    let lim := s.params.clarityLimits
    let result := (clarityWindow? t.windows c).bind (·.result)
    let old := if result.any (·.first) then { s.clarity c with low := 0, clear := 0 } else s.clarity c
    match result.map (·.verdict) with
    | some (.valid m) =>
      if m.mean < lim.validLo ∨ lim.validHi < m.mean then old
      else match old.mode with
        | .fixed => old.decide lim (decide (m.contrast < old.level * lim.clrStep))
        | .paired p => match (clarityWindow? t.windows p).bind Window.valid? with
          | some pm => if (t.port p).link = .streaming then
              old.decide lim (decide (m.contrast * 16 < pm.contrast * old.level))
            else old
          | none => old
    | _ => old := by
  unfold State.clarityClose State.clarityFirst State.clarityDecision State.partnerMeasures isLow
  rw [hw, hc, hp]
  simp only [hl]
  generalize hold : (if ((clarityWindow? t.windows c).bind (·.result)).any (·.first) then
    { s.clarity c with low := 0, clear := 0 } else s.clarity c) = old
  have hmode : old.mode = (s.clarity c).mode := by rw [← hold]; split <;> rfl
  have hlevel : old.level = (s.clarity c).level := by rw [← hold]; split <;> rfl
  rw [hmode, hlevel]
  cases clarityWindow? t.windows c with
  | none => rfl
  | some w =>
    rw [Option.bind_some, Option.bind_some, Window.valid?]
    cases w.result with
    | none => rfl
    | some r =>
      obtain ⟨a, b, e, v, f⟩ := r
      cases v with
      | valid m =>
        dsimp only [Option.map_some]
        by_cases h : s.params.clarityLimits.validLo ≤ m.mean ∧ m.mean ≤ s.params.clarityLimits.validHi
        · rw [if_pos h, if_neg (by omega)]
          cases (s.clarity c).mode with
          | fixed => rfl
          | paired p =>
            dsimp only
            by_cases hl : (t.port p).link = .streaming
            · rw [if_pos hl]
              cases (clarityWindow? t.windows p).bind Window.valid? with
              | none => rfl
              | some pm => exact (if_pos hl).symm
            · rw [if_neg hl]
              cases (clarityWindow? t.windows p).bind Window.valid? with
              | none => rfl
              | some pm => exact (if_neg hl).symm
        · rw [if_neg h, if_pos (by omega)]
      | _ => rfl

/-! ## Zones (R124) -/

theorem Zone.close_eq (z : Zone) (w : Window) (armed : Bool) (p : ZoneParams) : z.close w armed p =
    match w.result, w.active with
    | some ⟨_, _, e, .valid m, _⟩, some d =>
      let kept := { z with means := m.blocks, exposure := some e, valid := true }
      let level := match d.role with
        | .watch l _ => l
        | _ => 0
      let difference := (List.zipWith (fun a b => max a b - min a b) m.blocks z.means).sum / 16
      if armed = false ∨ z.valid = false ∨ z.exposure ≠ some e then kept
      else kept.judge p (decide (level * p.actStep ≤ difference))
    | _, _ => { z with valid := false } := by
  unfold Zone.close
  cases w.result with
  | none => rfl
  | some r =>
    obtain ⟨a, b, e, v, f⟩ := r
    cases v with
    | valid m =>
      cases w.active with
      | none => rfl
      | some d =>
        dsimp only
        cases armed with
        | false => rfl
        | true =>
          simp only [Bool.not_true, Bool.false_eq_true, if_false, Bool.true_eq_false, false_or, Bool.not_eq_true']
          split
          · rfl
          · rfl
    | _ => rfl

/-! ## The saturation counts of a closed frame -/

section
variable {c : Cam} {s : State} {k : Control} {t : State} (F : FrameClosed c s k t)
include F

theorem FrameClosed.loopedHigh : (s.toneLooped c).high = match toneMean? (s.closedWindows c) c with
    | none => min s.params.toneLimits.satFrames (s.tone c).high
    | some m => if (t.tone c).gain = 1023 ∧ 1023 < desiredGain m (s.tone c).black (t.tone c).effective then
        min s.params.toneLimits.satFrames ((s.tone c).high + 1) else 0 := by
  rw [F.tone, State.toneTested, Tone.exposureStep_gain, Tone.exposureStep_effective, State.toneLooped, Tone.loop_high]

theorem FrameClosed.loopedLow : (s.toneLooped c).low = match toneMean? (s.closedWindows c) c with
    | none => min s.params.toneLimits.satFrames (s.tone c).low
    | some m => if (t.tone c).gain = 128 ∧ desiredGain m (s.tone c).black (t.tone c).effective < 128 then
        min s.params.toneLimits.satFrames ((s.tone c).low + 1) else 0 := by
  rw [F.tone, State.toneTested, Tone.exposureStep_gain, Tone.exposureStep_effective, State.toneLooped, Tone.loop_low]

end

/-! ## A close after which the link streams on -/

/-- A good trailer after which the link streams on makes no downgrade. -/
theorem trailer_stays {s t : State} {c : Cam} {n : Byte} (hh : s.held = false) (hl : (s.port c).link = .streaming)
    (hp : (s.port c).phase = .opened) (ht : exec (.frameTrailerArrival c n (linkCheck [n])) s = .next t)
    (hs : (t.port c).link = .streaming) :
    ∃ k a, FrameClosed c s k a ∧ FrameStays c s a t ∧ CameraFrame c s t := by
  rw [exec_trailer_closes hh hl hp] at ht
  have hrate : (if n = (s.port c).frameNumber then s.control
      else s.control.countEvents .frameTruncated (some c) 1).rate = s.control.rate := by split <;> rfl
  have hrx : (if n = (s.port c).frameNumber then s.control
      else s.control.countEvents .frameTruncated (some c) 1).rx = s.control.rx := by split <;> rfl
  generalize (if n = (s.port c).frameNumber then s.control
      else s.control.countEvents .frameTruncated (some c) 1) = k at *
  have F := s.closed_counted c k
  have hframe : CameraFrame c s (State.closed { s with control := k } c) :=
    (cameraFrame_control s c hrate hrx).trans (cameraFrame_closed ..)
  generalize State.closed { s with control := k } c = a at F hframe ht
  obtain rfl : (a.judgeFrame c).drivePins = t := Host.Outcome.next.inj ht
  cases hd : s.downgrade? c with
  | none =>
    exact ⟨k, a, F, F.judge_stays hd, (hframe.trans (cameraFrame_judgeFrame ..)).trans (cameraFrame_drivePins ..)⟩
  | some m =>
    have hlink := (F.judge_downgrades hd).port
    rw [hlink] at hs
    cases hs

/-- A HAZARD report between two states tells of a list that differs, with the flag and each zone's camera (R128). -/
theorem hazard_of_mem_hazardReport {s t : State} {flag : Bool} {zs : List (WindowId × Cam)}
    (h : .hazard flag zs ∈ hazardReport s t) : t.zones.hazardList ≠ s.zones.hazardList
      ∧ flag = !t.zones.hazardList.isEmpty ∧ zs = t.zones.hazardList.map fun w => (w, t.zoneCamera w) := by
  unfold hazardReport at h
  split at h
  · cases h
  · next hne =>
    obtain ⟨hflag, hzs⟩ : flag = _ ∧ zs = _ := by simpa using h
    exact ⟨hne, hflag, hzs⟩

theorem State.zoneCamera_of_active {s : State} {w : WindowId} {d : WindowDef} (h : (s.window w).active = some d) :
    s.zoneCamera w = d.camera := by
  simp [State.zoneCamera, h]

/-- Every partner of a clarity pair streams after such a close as before it. -/
theorem FrameStays.link {c : Cam} {s a t : State} {k : Control} (E : FrameStays c s a t) (F : FrameClosed c s k a)
    (hframe : CameraFrame c s t) (d : Cam) : (t.port d).link = (s.port d).link := by
  by_cases hd : d = c
  · rw [hd, E.port]
    exact F.link
  · rw [hframe.ports d hd]

/-- The saturation counts, the settle count and the request of a close after which the link streams on (R105, R106). -/
theorem FrameStays.saturation {c : Cam} {s a t : State} {k : Control} (E : FrameStays c s a t) (F : FrameClosed c s k a)
    (hl : (s.port c).link = .streaming) :
    let sat := s.params.toneLimits.satFrames
    let old := s.tone c
    let settle := old.settle - 1
    let desired := fun m => desiredGain m old.black (t.tone c).effective
    let high := match toneMean? t.windows c with
      | none => min sat old.high
      | some m => if (t.tone c).gain = 1023 ∧ 1023 < desired m then min sat (old.high + 1) else 0
    let low := match toneMean? t.windows c with
      | none => min sat old.low
      | some m => if (t.tone c).gain = 128 ∧ desired m < 128 then min sat (old.low + 1) else 0
    let up := high = sat ∧ settle = 0 ∧ ∃ top, (s.port c).maxExposure = some top ∧ (s.port c).exposure < top
    let down := ¬up ∧ low = sat ∧ settle = 0 ∧ 0 < (s.port c).exposure
    (t.tone c).high = (if up then 0 else high) ∧ (t.tone c).low = (if down then 0 else low)
      ∧ (t.tone c).settle = (if up ∨ down then s.params.toneLimits.exposureSettle else settle)
      ∧ ((t.port c).backSending, (t.port c).backWaiting) = (if up then (s.port c).backAfter [.exposureUp]
        else if down then (s.port c).backAfter [.exposureDown]
        else ((s.port c).backSending, (s.port c).backWaiting)) := by
  have hwindows : t.windows = s.closedWindows c := E.windows.trans F.windows
  intro sat old settle desired high low up down
  have htone : t.tone c = a.tone c := by rw [E.tone]
  have hback : ((t.port c).backSending, (t.port c).backWaiting) = (s.port c).backAfter (s.toneTested c).2.toList := by
    rw [E.port]
    exact F.back hl
  have hhigh : (s.toneLooped c).high = high := by
    rw [F.loopedHigh]
    simp only [high, desired, hwindows, htone]
    cases toneMean? (s.closedWindows c) c <;> rfl
  have hlow : (s.toneLooped c).low = low := by
    rw [F.loopedLow]
    simp only [low, desired, hwindows, htone]
    cases toneMean? (s.closedWindows c) c <;> rfl
  have hsettle : (s.toneLooped c).settle = settle := Tone.loop_settle ..
  have hup : (s.toneLooped c).asksUp (s.port c) s.params.toneLimits ↔ up := by
    rw [Tone.asksUp, hhigh, hsettle]
  have hdown : (s.toneLooped c).asksDown (s.port c) s.params.toneLimits ↔ down := by
    rw [Tone.asksDown, hup, hlow, hsettle]
  rw [hback, htone, F.tone, State.toneTested]
  clear hback
  generalize s.toneLooped c = x at *
  by_cases hu : up
  · have hnd : ¬down := fun h => h.1 hu
    rw [Tone.exposureStep_up _ (hup.mpr hu), if_pos hu, if_neg hnd, if_pos (.inl hu), if_pos hu]
    exact ⟨rfl, hlow, rfl, rfl⟩
  · by_cases hd : down
    · rw [Tone.exposureStep_down _ (hdown.mpr hd), if_neg hu, if_pos hd, if_pos (.inr hd), if_neg hu, if_pos hd]
      exact ⟨hhigh, rfl, rfl, rfl⟩
    · rw [Tone.exposureStep_none _ (mt hup.mp hu) (mt hdown.mp hd), if_neg hu, if_neg hd, if_neg (not_or.mpr ⟨hu, hd⟩),
        if_neg hu, if_neg hd]
      exact ⟨hhigh, hlow, hsettle, Port.backAfter_nil _⟩

/-- Settles O34: the close by `FrameClosed`, and the frames in a row by the decisions of one frame. -/
theorem framesInARowChangeTheState : Obligations.FramesInARowChangeTheState := by
  refine ⟨fun s t c number hh hl hp ht hs => ?_, fun cl lim hs h0 h1 => ?_, fun cl lim hs h0 h1 => ?_,
    fun z p hs h0 h1 => ?_, fun z p hs h0 h1 => ?_, fun z p => ?_⟩
  · obtain ⟨k, a, F, E, hframe⟩ := trailer_stays hh hl hp ht hs
    have hwindows : t.windows = s.closedWindows c := E.windows.trans F.windows
    refine ⟨fun j => ?_, ?_, ?_, fun w hw => ?_, ?_, fun flag zs hz => ?_⟩
    · have hw : t.windows = (s.measured c).windows := hwindows
      have hwindow : t.window = (s.measured c).window := by funext w; rw [State.window, hw]; rfl
      rw [E.seams, F.seams, look_mapTable, State.seamClose_eq, hw, hwindow]
      rfl
    · exact E.saturation F hl
    · have hclarity : t.clarity c = (s.measured c).clarityClose c := by rw [E.clarity, F.clarity]
      rw [hclarity]
      exact State.clarityClose_eq (by rw [State.measured_windows, hwindows]) (s.measured_clarity c c) (s.measured_params c)
        fun d => by rw [State.measured_port, E.link F hframe]
    · have hzone : t.zone w = a.zone w := by rw [State.zone, E.zones]; rfl
      have hwindow : t.window w = look (s.closedWindows c) w := by rw [State.window, hwindows]
      rw [hzone, F.zone, if_pos hw, hwindow]
      refine Option.map_congr fun z _ => ?_
      have hclose := z.close_eq (look (s.closedWindows c) w) ((s.window w).armed s.selector.situation) s.params.zone
      rw [State.closedWindows_active] at hclose
      generalize look (s.closedWindows c) w = v at hclose ⊢
      exact hclose
    · rw [E.zones]; exact F.hazardList
    · obtain ⟨hne, hflag, hzs⟩ := hazard_of_mem_hazardReport hz
      refine ⟨hne, ?_, by rw [hzs, List.map_map]; exact List.map_id _, fun p hp d hd => ?_⟩
      · rw [E.zones] at hne hflag ⊢
        rw [hflag, F.hazard hne]
      · rw [hzs] at hp
        obtain ⟨w, -, rfl⟩ := List.mem_map.mp hp
        have hactive : (t.window w).active = some d := (hframe.changes w).1.trans hd
        exact State.zoneCamera_of_active hactive
  · intro after
    refine ⟨fun n hn => Clarity.iterate_low hs h0 n hn, ?_⟩
    obtain ⟨n, hn⟩ := Nat.exists_eq_add_of_le' h1
    obtain ⟨hstate, hlow⟩ := Clarity.iterate_low hs h0 (lim := lim) n (by omega)
    have hlast := Clarity.decide_low_last hstate (lim := lim) (by omega)
    simp only [after]
    rw [hn, Function.iterate_succ_apply']
    exact hlast
  · intro after
    refine ⟨fun n hn => Clarity.iterate_high hs h0 n hn, ?_⟩
    obtain ⟨n, hn⟩ := Nat.exists_eq_add_of_le' h1
    obtain ⟨hstate, hclear⟩ := Clarity.iterate_high hs h0 (lim := lim) n (by omega)
    have hlast := Clarity.decide_high_last hstate (lim := lim) (by omega)
    simp only [after]
    rw [hn, Function.iterate_succ_apply']
    exact hlast
  · intro after
    refine ⟨fun n hn1 hn => ?_, ?_⟩
    · obtain ⟨hstate, hcount, hhold⟩ := Zone.iterate_idle (p := p) hs h0 n hn
      exact ⟨by rw [hstate, if_neg (by omega)], hcount, hhold⟩
    · obtain ⟨n, hn⟩ := Nat.exists_eq_add_of_le' h1
      obtain ⟨-, hcount, -⟩ := Zone.iterate_idle (p := p) hs h0 n (by omega)
      obtain ⟨-, hhold, hstate⟩ := Zone.judge_last (p := p) (z := (fun x : Zone => x.judge p true)^[n] z) (by omega)
      simp only [after]
      rw [hn, Function.iterate_succ_apply']
      exact ⟨hstate, hhold⟩
  · exact ⟨fun n hn => Zone.iterate_active hs h0 n hn, fun n hn => Zone.iterate_active_held hs h0 h1 n hn⟩
  · obtain ⟨hcount, hhold, hstate⟩ := z.judge_still p
    exact ⟨z.judge_kept p, hcount, hhold, hstate, Zone.judge_before, Zone.judge_last⟩

end Sys2Proof.Machine
end

section
/-! PROOF. Pending window changes at a header (R89, R90, R120, R127), and the header (R18). -/

namespace Sys2Proof.Machine

/-! ## Clarity states that become CLEAR, in camera order -/

/-- `t` is `s` with the clarity of every camera of `l` that `p` names CLEAR again, and what follows for their health. -/
structure ClaritiesCleared (p : Cam → Bool) (l : List Cam) (s t : State) : Prop where
  clarity : ∀ k, t.clarity k = if k ∈ l ∧ p k = true then (s.clarity k).cleared else s.clarity k
  store : ∀ k, { t.store k with health := (s.store k).health } = s.store k
  still : ∀ k, k ∉ l → t.store k = s.store k
  control : t.control = s.control.queueAll (l.flatMap (healthReport s t))
  rest : { t with stores := s.stores, clarities := s.clarities, cadence := s.cadence, control := s.control } = s
  beside : Beside s t

theorem ClaritiesCleared.rfl {p : Cam → Bool} {s : State} : ClaritiesCleared p [] s s where
  clarity _ := by simp
  store _ := .refl _
  still _ _ := .refl _
  control := .refl _
  rest := .refl _
  beside := .rfl

theorem State.judgeClarity_rest (s : State) (c : Cam) (cl : Clarity) : { s.judgeClarity c cl with
    stores := s.stores, clarities := s.clarities, cadence := s.cadence, control := s.control } = s := by
  unfold State.judgeClarity State.rederive
  dsimp only
  split <;> rfl

theorem beside_judgeClarity (s : State) (c : Cam) (cl : Clarity) : Beside s (s.judgeClarity c cl) := by
  refine ((Beside.of_eq ?_ ?_).trans (beside_rederive (s.setClarity c cl) c)).trans (beside_reform _) <;> rfl

theorem healthReport_self {s t : State} {c : Cam} (h : t.store c = s.store c) : healthReport s t c = [] := by
  rw [healthReport, h, if_pos rfl]

/-- One camera's step. -/
theorem State.clearOne (s : State) (p : Cam → Bool) (k : Cam) :
    ClaritiesCleared p [k] s (if p k then s.judgeClarity k (s.clarity k).cleared else s) := by
  split
  · next hk =>
    have hframe := (cameraFrame_judgeClarity s k (s.clarity k).cleared)
    refine ⟨fun d => ?_, fun d => ?_, fun d hd => hframe.stores d (by simpa using hd), ?_, s.judgeClarity_rest ..,
      beside_judgeClarity ..⟩
    · by_cases hd : d = k
      · subst hd
        rw [State.judgeClarity_clarity, if_pos ⟨List.mem_singleton_self _, hk⟩]
      · rw [hframe.clarities d hd, if_neg fun h => hd (List.mem_singleton.mp h.1)]
    · by_cases hd : d = k
      · subst hd
        rw [State.judgeClarity_store]
      · rw [hframe.stores d hd]
    · rw [State.judgeClarity_control, List.flatMap_singleton]
  · next hk =>
    refine ⟨fun d => ?_, fun _ => .refl _, fun _ _ => .refl _, ?_, .refl _, .rfl⟩
    · rw [if_neg]
      rintro ⟨hd, hp⟩
      rw [List.mem_singleton.mp hd] at hp
      exact hk hp
    · rw [List.flatMap_singleton, healthReport_self (.refl _)]
      rfl

/-- Steps of different cameras add up. -/
theorem ClaritiesCleared.append {p : Cam → Bool} {l r : List Cam} {s t u : State} (a : ClaritiesCleared p l s t)
    (b : ClaritiesCleared p r t u) (h : ∀ k ∈ l, k ∉ r) : ClaritiesCleared p (l ++ r) s u where
  clarity k := by
    rw [b.clarity, a.clarity]
    by_cases hr : k ∈ r
    · have hl : k ∉ l := fun hl => h k hl hr
      simp [hr, hl]
    · simp [hr]
  store k := by rw [← a.store k, ← b.store k]
  still k hk := by
    rw [List.mem_append, not_or] at hk
    rw [b.still k hk.2, a.still k hk.1]
  control := by
    have hl : l.flatMap (healthReport s t) = l.flatMap (healthReport s u) := by
      refine List.flatMap_congr fun k hk => ?_
      simp only [healthReport, b.still k (h k hk)]
    have hr : r.flatMap (healthReport t u) = r.flatMap (healthReport s u) := by
      refine List.flatMap_congr fun k hk => ?_
      simp only [healthReport, a.still k fun hl => h k hl hk]
    rw [b.control, a.control, ← Control.queueAll_append, hl, hr, List.flatMap_append]
  rest := by rw [← a.rest, ← b.rest]
  beside := a.beside.trans b.beside

theorem claritiesCleared_foldl (p : Cam → Bool) {l : List Cam} (hl : l.Nodup) (s : State) :
    ClaritiesCleared p l s (l.foldl (fun t k => if p k then t.judgeClarity k (t.clarity k).cleared else t) s) := by
  induction l generalizing s with
  | nil => exact .rfl
  | cons k l ih =>
    obtain ⟨hk, hl⟩ := List.nodup_cons.mp hl
    exact (s.clearOne p k).append (ih hl _) fun d hd hmem => hk (List.mem_singleton.mp hd ▸ hmem)

/-! ## Pending changes (R89, R90, R120, R127) -/

/-- The windows once the changes due at a header of camera `c` have taken effect. -/
def State.changedWindows (s : State) (c : Cam) : Vector Window 16 :=
  mapTable (fun w => if w.changeDue c then w.takeChange else w) s.windows

/-- Windows and zones with the changes that are due. -/
def State.changed (s : State) (c : Cam) : State :=
  { s with
    windows := s.changedWindows c
    zones := { s.zones with
      zones := Vector.ofFn fun w =>
        if (s.window w).changeDue c then zoneAfterChange (look (s.changedWindows c) w) else s.zone w } }

theorem State.changed_rest (s : State) (c : Cam) :
    { s.changed c with windows := s.windows, zones := { (s.changed c).zones with zones := s.zones.zones } } = s := by
  unfold State.changed; rfl

@[simp] theorem State.changed_hazardList (s : State) (c : Cam) :
    (s.changed c).zones.hazardList = s.zones.hazardList := (congrArg (fun t => t.zones.hazardList) (s.changed_rest c) :)
@[simp] theorem State.changed_latchedHazard (s : State) (c : Cam) :
    (s.changed c).zones.latchedHazard = s.zones.latchedHazard := (congrArg (fun t => t.zones.latchedHazard) (s.changed_rest c) :)
@[simp] theorem State.changed_latchedZones (s : State) (c : Cam) :
    (s.changed c).zones.latchedZones = s.zones.latchedZones := (congrArg (fun t => t.zones.latchedZones) (s.changed_rest c) :)
@[simp] theorem State.changed_stores (s : State) (c : Cam) : (s.changed c).stores = s.stores :=
  (congrArg State.stores (s.changed_rest c) :)
@[simp] theorem State.changed_clarities (s : State) (c : Cam) : (s.changed c).clarities = s.clarities :=
  (congrArg State.clarities (s.changed_rest c) :)
@[simp] theorem State.changed_control (s : State) (c : Cam) : (s.changed c).control = s.control :=
  (congrArg State.control (s.changed_rest c) :)
@[simp] theorem State.changed_cadence (s : State) (c : Cam) : (s.changed c).cadence = s.cadence :=
  (congrArg State.cadence (s.changed_rest c) :)
@[simp] theorem State.changed_windows (s : State) (c : Cam) : (s.changed c).windows = s.changedWindows c := by
  unfold State.changed; rfl
@[simp] theorem State.changed_zone (s : State) (c : Cam) (w : WindowId) : (s.changed c).zone w =
    if (s.window w).changeDue c then zoneAfterChange (look (s.changedWindows c) w) else s.zone w := by
  unfold State.changed; exact look_ofFn ..

/-- The changes due leave camera `k` without the CLARITY window it had (R120). -/
def State.losesClarity (s : State) (c k : Cam) : Bool :=
  allWindows.any (fun w => (s.window w).changeDue c && (s.window w).active.any (·.clarityOf k))
    && (clarityWindow? (s.changedWindows c) k).isNone

/-- The clarity states after the changes. -/
def State.changedClarity (s : State) (c : Cam) : State :=
  allCams.foldl (fun t k => if s.losesClarity c k then t.judgeClarity k (t.clarity k).cleared else t) (s.changed c)

/-- The state `t` with the blocks a pending change reaches taken from `s`. -/
def State.outsideChanges (s t : State) : State :=
  { t with
    stores := s.stores, clarities := s.clarities, windows := s.windows, zones := s.zones, cadence := s.cadence
    control := s.control }

theorem State.refreshHazard_outside (u s : State) : s.outsideChanges u.refreshHazard = s.outsideChanges u :=
  (congrArg s.outsideChanges u.refreshHazard_rest :)

theorem ClaritiesCleared.outside {p : Cam → Bool} {l : List Cam} {t u : State} (h : ClaritiesCleared p l t u) (s : State) :
    s.outsideChanges u = s.outsideChanges t := (congrArg s.outsideChanges h.rest :)

theorem State.changed_outside (s : State) (c : Cam) : s.outsideChanges (s.changed c) = s := by
  unfold State.changed; rfl

theorem State.applyChanges_eq (s : State) (c : Cam) : s.applyChanges c = (s.changedClarity c).refreshHazard := rfl

theorem mem_allWindows (w : WindowId) : w ∈ allWindows := List.mem_finRange w

theorem clarityWindow?_isNone {ws : Vector Window 16} {k : Cam} :
    (clarityWindow? ws k).isNone = true ↔ ∀ w, (look ws w).active.any (·.clarityOf k) = false := by
  simp [clarityWindow?, List.find?_eq_none, mem_allWindows]

theorem State.losesClarity_iff {s : State} {c k : Cam} : s.losesClarity c k = true ↔
    (∃ w, (s.window w).changeDue c = true ∧ (s.window w).active.any (·.clarityOf k) = true)
      ∧ ∀ w, (look (s.changedWindows c) w).active.any (·.clarityOf k) = false := by
  rw [State.losesClarity, Bool.and_eq_true, clarityWindow?_isNone]
  simp [List.any_eq_true, mem_allWindows]

/-- What the changes due at a header of camera `c` leave. -/
structure ChangesApplied (c : Cam) (s t : State) : Prop where
  windows : t.windows = s.changedWindows c
  zone : ∀ w, t.zone w = if (s.window w).changeDue c then zoneAfterChange (look (s.changedWindows c) w) else s.zone w
  clarity : ∀ k, t.clarity k = if s.losesClarity c k = true then (s.clarity k).cleared else s.clarity k
  store : ∀ k, { t.store k with health := (s.store k).health } = s.store k
  hazardList : t.zones.hazardList = activeZones t.zones.zones
  latches : t.zones.latchedHazard = s.zones.latchedHazard ∧ t.zones.latchedZones = s.zones.latchedZones
  control : t.control = s.control.queueAll (([0, 1, 2, 3] : List Cam).flatMap (healthReport s t) ++ hazardReport s t)
  rest : { t with
    stores := s.stores, clarities := s.clarities, windows := s.windows, zones := s.zones, cadence := s.cadence
    control := s.control } = s
  beside : Beside s t

theorem State.changesApplied (s : State) (c : Cam) : ChangesApplied c s (s.applyChanges c) := by
  have hc : ClaritiesCleared (s.losesClarity c) allCams (s.changed c) (s.changedClarity c) :=
    claritiesCleared_foldl (s.losesClarity c) (by decide) (s.changed c)
  rw [State.applyChanges_eq]
  generalize s.changedClarity c = u at hc ⊢
  have hwindows : u.windows = (s.changed c).windows := (congrArg State.windows hc.rest :)
  have hzones : u.zones = (s.changed c).zones := (congrArg State.zones hc.rest :)
  have hallCams : ∀ k : Cam, k ∈ allCams := by decide
  have hclarity : ∀ k, (s.changed c).clarity k = s.clarity k := fun k => by rw [State.clarity, State.changed_clarities]; rfl
  have hstore : ∀ k, (s.changed c).store k = s.store k := fun k => by rw [State.store, State.changed_stores]; rfl
  have hlist : u.zones.hazardList = s.zones.hazardList := by
    rw [hzones, State.changed_hazardList]
  constructor
  case windows => rw [State.refreshHazard_windows, hwindows, State.changed_windows]
  case zone =>
    intro w
    rw [State.refreshHazard_zone, State.zone, hzones]
    exact s.changed_zone c w
  case clarity =>
    intro k
    rw [State.refreshHazard_clarity, hc.clarity, hclarity]
    simp only [hallCams, true_and]
  case store =>
    intro k
    have hk := hc.store k
    rw [hstore] at hk
    rw [State.refreshHazard_store, hk]
  case hazardList => rw [State.refreshHazard_hazardList, State.refreshHazard_zones_zones]
  case latches =>
    rw [State.refreshHazard_latchedHazard, State.refreshHazard_latchedZones, hzones, State.changed_latchedHazard,
      State.changed_latchedZones]
    exact ⟨rfl, rfl⟩
  case control =>
    have hhealth : healthReport (s.changed c) u = healthReport s u.refreshHazard := by
      funext k
      rw [healthReport, healthReport, State.refreshHazard_store, hstore]
    have hhazard : hazardReport u u.refreshHazard = hazardReport s u.refreshHazard :=
      hazardReport_congr hlist (Eq.refl _) fun _ => Eq.refl _
    rw [State.refreshHazard_control, hc.control, Control.queueAll_append, hhealth, hhazard, State.changed_control]
    rfl
  case rest => exact (u.refreshHazard_outside s).trans ((hc.outside s).trans (s.changed_outside c))
  case beside =>
    refine Beside.trans (Beside.trans (.of_eq ?_ ?_) hc.beside) (beside_refreshHazard u)
    · rw [State.changed_control]
    · rw [State.changed_cadence]

end Sys2Proof.Machine
end

section
/-! PROOF. Frame headers (R18, R21). -/

namespace Sys2Proof.Machine

/-! ## The pins are no input -/

/-- The state with other pins. -/
def State.withPins (s : State) (p : Pins) : State := { s with pins := p }

theorem State.drivePins_eq_withPins (s : State) : s.drivePins = s.withPins s.drivePins.pins := rfl

@[simp] theorem State.withPins_drivePins (s : State) (p : Pins) : (s.withPins p).drivePins = s.drivePins := rfl

theorem State.judgeClarity_withPins (s : State) (p : Pins) (c : Cam) (cl : Clarity) :
    (s.withPins p).judgeClarity c cl = (s.judgeClarity c cl).withPins p := by
  have hc : ((s.withPins p).setClarity c cl).healthOf c = (s.setClarity c cl).healthOf c := rfl
  have hs : (((s.withPins p).setClarity c cl).store c).health = ((s.setClarity c cl).store c).health := rfl
  unfold State.judgeClarity State.rederive
  dsimp only
  rw [hc, hs]
  split <;> rfl

theorem State.refreshHazard_withPins (s : State) (p : Pins) : (s.withPins p).refreshHazard = s.refreshHazard.withPins p := by
  have hz : (s.withPins p).zones = s.zones := rfl
  unfold State.refreshHazard
  dsimp only
  rw [hz]
  split <;> rfl

theorem foldl_judgeClarity_withPins (p : Pins) (loses : Cam → Bool) (l : List Cam) (s : State) :
    l.foldl (fun t k => if loses k then t.judgeClarity k (t.clarity k).cleared else t) (s.withPins p)
      = (l.foldl (fun t k => if loses k then t.judgeClarity k (t.clarity k).cleared else t) s).withPins p := by
  induction l generalizing s with
  | nil => rfl
  | cons k l ih =>
    rw [List.foldl_cons, List.foldl_cons, ← ih]
    congr 1
    split
    · exact State.judgeClarity_withPins ..
    · rfl

theorem State.applyChanges_withPins (s : State) (p : Pins) (c : Cam) :
    (s.withPins p).applyChanges c = (s.applyChanges c).withPins p := by
  have hl : (s.withPins p).losesClarity c = s.losesClarity c := rfl
  have hc : (s.withPins p).changed c = (s.changed c).withPins p := rfl
  rw [State.applyChanges_eq, State.applyChanges_eq, State.changedClarity, hl, hc, foldl_judgeClarity_withPins,
    State.refreshHazard_withPins]
  rfl

theorem State.openFrame_withPins (s : State) (p : Pins) (c : Cam) (h : HeaderRecord) (m : CamMode) :
    (s.withPins p).openFrame c h m = (s.openFrame c h m).withPins p := by
  have hp : (s.withPins p).port c = s.port c := rfl
  unfold State.openFrame
  dsimp only
  rw [hp]
  split <;> rfl

/-! ## A header on a port without an open frame (R18) -/

/-- The steps of a good header after the close of an open frame. -/
def State.judgeHeader (s : State) (c : Cam) (h : HeaderRecord) : State :=
  match ((s.applyChanges c).port c).mode with
  | some m => if modeOfCode? h.mode = some m then (s.applyChanges c).openFrame c h m else (s.applyChanges c).ignoreFrame c
  | none => (s.applyChanges c).ignoreFrame c

theorem State.judgeHeader_withPins (s : State) (p : Pins) (c : Cam) (h : HeaderRecord) :
    (s.withPins p).judgeHeader c h = (s.judgeHeader c h).withPins p := by
  have hp : ((s.applyChanges c).withPins p).port c = (s.applyChanges c).port c := rfl
  unfold State.judgeHeader
  rw [State.applyChanges_withPins, hp]
  split
  · split
    · exact State.openFrame_withPins ..
    · rfl
  · rfl

theorem State.judgeHeader_of_mode {s : State} {c : Cam} {m : CamMode} (hm : (s.port c).mode = some m) (h : HeaderRecord) :
    s.judgeHeader c h = if modeOfCode? h.mode = some m then (s.applyChanges c).openFrame c h m
      else (s.applyChanges c).ignoreFrame c := by
  have hp : ((s.applyChanges c).port c).mode = some m := by rw [State.port, applyChanges_ports]; exact hm
  rw [State.judgeHeader, hp]

/-- A good header with a frame open closes it as truncated (R18, R21). -/
theorem State.takeHeader_opened {s : State} {c : Cam} {h : HeaderRecord} (hp : (s.port c).phase = .opened) :
    s.takeHeader c h = if (((s.count .frameTruncated c).frameClose c).port c).link ≠ .streaming then
        (s.count .frameTruncated c).frameClose c
      else ((s.count .frameTruncated c).frameClose c).judgeHeader c h := by
  unfold State.takeHeader
  rw [if_pos hp]
  generalize (s.count .frameTruncated c).frameClose c = x
  rfl

section
variable {s : State} (hh : s.held = false) {c : Cam} {h : HeaderRecord}
include hh

theorem exec_frameHeaderArrival (check : BitVec 16) : exec (.frameHeaderArrival c h check) s
    = .next (s.headerArrives c h (checkGood h.bytes check)).drivePins :=
  unlessHeld_live hh fun t => t.headerArrives c h _

theorem exec_header_taken (hl : (s.port c).link = .streaming) :
    exec (.frameHeaderArrival c h (linkCheck h.bytes)) s = .next (s.takeHeader c h).drivePins := by
  have hgood : checkGood h.bytes (linkCheck h.bytes) = true := (checkGood_iff ..).mpr rfl
  rw [exec_frameHeaderArrival hh, hgood, State.headerArrives, if_neg (not_not_intro hl), if_pos rfl]

theorem exec_header_judged (hl : (s.port c).link = .streaming) (hp : (s.port c).phase ≠ .opened) :
    exec (.frameHeaderArrival c h (linkCheck h.bytes)) s = .next (s.judgeHeader c h).drivePins := by
  rw [exec_header_taken hh hl]
  unfold State.takeHeader
  rw [if_neg hp]
  dsimp only
  rw [if_neg (not_not_intro hl)]
  rfl

end

/-! ## Without a pending change -/

theorem Window.changeDue_none {w : Window} (h : w.change = .none) (c : Cam) : w.changeDue c = false := by
  rw [Window.changeDue, h]

/-- Where no change is pending and the hazard list is that of the zones, the changes of a header do nothing. -/
theorem State.applyChanges_none {s : State} {c : Cam} (h : ∀ w, (s.window w).change = .none)
    (hz : s.zones.hazardList = activeZones s.zones.zones) : s.applyChanges c = s := by
  have hdue : ∀ w, (s.window w).changeDue c = false := fun w => Window.changeDue_none (h w) c
  have hwindows : s.changedWindows c = s.windows := table_ext fun w => by
    rw [State.changedWindows, look_mapTable]
    exact if_neg (by rw [show (look s.windows w).changeDue c = false from hdue w]; decide)
  have hzones : (s.changed c).zones.zones = s.zones.zones := table_ext fun w => by
    have hz : (s.changed c).zone w = s.zone w := by rw [State.changed_zone, hdue]; rfl
    exact hz
  have hchanged : s.changed c = s := by
    have hrest := s.changed_rest c
    rw [← hzones, ← hwindows, ← State.changed_windows] at hrest
    exact hrest
  have hloses : ∀ k, s.losesClarity c k = false := fun k => by
    rw [Bool.eq_false_iff, ne_eq, State.losesClarity_iff]
    rintro ⟨⟨w, hw, -⟩, -⟩
    rw [hdue] at hw
    cases hw
  have hclarity : s.changedClarity c = s := by
    simp only [State.changedClarity, hloses, hchanged, Bool.false_eq_true, if_false, allCams, List.foldl_cons,
      List.foldl_nil]
  rw [State.applyChanges_eq, hclarity, State.refreshHazard_of_list hz]

/-! ## The port, the windows and the control link after the changes -/

/-- The state with the port of camera `c`, the windows and the control link replaced. -/
def State.headerTaken (s : State) (c : Cam) (p : Port) (ws : Vector Window 16) (k : Control) : State :=
  { s with ports := put s.ports c p, windows := ws, control := k }

/-- A port with a frame open (R18). -/
def Port.opened (p : Port) (h : HeaderRecord) (m : CamMode) : Port :=
  { p with
    exposure := min h.exposure (p.maxExposure.getD 31), phase := .opened, frameNumber := h.number
    previous := some h.number, expected := 0, resultMap := List.replicate (modeSegments m) false }

theorem State.openFrame_eq (s : State) (c : Cam) (h : HeaderRecord) (m : CamMode) : s.openFrame c h m =
    s.headerTaken c ((s.port c).opened h m) (mapTable (fun w => w.openFrame c m) s.windows)
      (if (s.port c).previous.any (fun n => h.number ≠ n + 1) then s.control.countEvents .frameGap (some c) 1
        else s.control) := by
  unfold State.openFrame
  dsimp only
  split <;> rfl

theorem State.ignoreFrame_eq (s : State) (c : Cam) : s.ignoreFrame c =
    s.headerTaken c { s.port c with phase := .ignoring } s.windows (s.control.countEvents .frameTruncated (some c) 1) := rfl

/-- What a header leaves that writes port `p`, windows `ws` and control link `k` after the changes `a`: `t` against `s`. -/
structure HeaderLeft (c : Cam) (s a t : State) (p : Port) (ws : Vector Window 16) (k : Control) : Prop where
  port : t.port c = p
  windows : t.windows = ws
  control : t.control = k
  zones : t.zones = a.zones
  clarity : ∀ d, t.clarity d = a.clarity d
  ports : ∀ d, d ≠ c → t.port d = s.port d
  store : ∀ d, { t.store d with health := (s.store d).health } = s.store d
  rest : { t with
    ports := s.ports, stores := s.stores, clarities := s.clarities, windows := s.windows, zones := s.zones
    cadence := s.cadence, control := s.control, pins := s.pins } = s
  beside : Beside s t
  reports : ([0, 1, 2, 3] : List Cam).flatMap (healthReport s t) ++ hazardReport s t
    = ([0, 1, 2, 3] : List Cam).flatMap (healthReport s a) ++ hazardReport s a

theorem ChangesApplied.headerTaken {c : Cam} {s a : State} (A : ChangesApplied c s a) (hp : a.ports = s.ports) {p : Port}
    {ws : Vector Window 16} {k : Control} (hrate : k.rate = a.control.rate) (hrx : k.rx = a.control.rx)
    (hw : ∀ w, (look ws w).active = (a.window w).active) :
    HeaderLeft c s a (a.headerTaken c p ws k).drivePins p ws k where
  port := look_put_same ..
  windows := rfl
  control := rfl
  zones := rfl
  clarity _ := rfl
  ports d hd := by
    have hput : look (put a.ports c p) d = look a.ports d := by rw [look_put, if_neg (Ne.symm hd)]
    exact hput.trans (congrArg (fun ps => look ps d) hp)
  store := A.store
  rest := (congrArg (fun x : State => { x with ports := s.ports, pins := s.pins }) A.rest :)
  beside := A.beside.trans ⟨hrate, hrx, rfl, rfl, rfl⟩
  reports := by
    have hhazard : hazardReport s (a.headerTaken c p ws k).drivePins = hazardReport s a :=
      hazardReport_congr (Eq.refl _) (Eq.refl _) hw
    rw [hhazard]
    rfl

/-- The clarity states after the changes, by the windows of `t`, which have the definitions the changes give. -/
theorem ChangesApplied.clarity_iff {c : Cam} {s a t : State} (A : ChangesApplied c s a)
    (hw : ∀ w, (t.window w).active = (a.window w).active) (k : Cam) : s.losesClarity c k = true ↔
      (∃ w, (s.window w).changeDue c = true ∧ (s.window w).active.any (·.clarityOf k) = true)
        ∧ ∀ w, (t.window w).active.any (·.clarityOf k) = false := by
  have hactive : ∀ w, (t.window w).active = (look (s.changedWindows c) w).active := fun w => by
    rw [hw, State.window, A.windows]
  rw [State.losesClarity_iff]
  simp only [hactive]

/-- A header on a port without an open frame, in the port's mode or in another one. -/
theorem State.judgeHeader_left {s : State} {c : Cam} {h : HeaderRecord} {m : CamMode} (hm : (s.port c).mode = some m) :
    HeaderLeft c s (s.applyChanges c) (s.judgeHeader c h).drivePins
      (if modeOfCode? h.mode = some m then (s.port c).opened h m else { s.port c with phase := .ignoring })
      (if modeOfCode? h.mode = some m then mapTable (fun w => w.openFrame c m) (s.applyChanges c).windows
        else (s.applyChanges c).windows)
      (if ¬modeOfCode? h.mode = some m then (s.applyChanges c).control.countEvents .frameTruncated (some c) 1
        else if (s.port c).previous.any (fun n => h.number ≠ n + 1) then
          (s.applyChanges c).control.countEvents .frameGap (some c) 1
        else (s.applyChanges c).control) := by
  have A := s.changesApplied c
  have hports : (s.applyChanges c).ports = s.ports := applyChanges_ports
  have hport : (s.applyChanges c).port c = s.port c := congrArg (fun ps => look ps c) hports
  rw [State.judgeHeader_of_mode hm]
  generalize s.applyChanges c = a at A hports hport ⊢
  by_cases ho : modeOfCode? h.mode = some m
  · rw [if_pos ho, if_pos ho, if_pos ho, if_neg (not_not_intro ho), State.openFrame_eq, hport]
    refine A.headerTaken hports ?_ ?_ fun w => ?_
    · split <;> rfl
    · split <;> rfl
    · rw [look_mapTable, Window.openFrame_active]
      rfl
  · rw [if_neg ho, if_neg ho, if_neg ho, if_pos ho, State.ignoreFrame_eq, hport]
    exact A.headerTaken hports rfl rfl fun w => rfl

/-- A window at a header of camera `c`: the change pending for it, where it is due (R89, R90). -/
theorem Window.changed_eq (w : Window) (c : Cam) : (if w.changeDue c then w.takeChange else w) =
    if w.changeDue c then
      match w.change with
      | .set d => ⟨some d, .none, false, .zero, none, true, none⟩
      | _ => ⟨none, .none, false, .zero, none, false, none⟩
    else w := by
  split
  · next h =>
    unfold Window.takeChange
    cases hc : w.change with
    | none => rw [Window.changeDue_none hc] at h; cases h
    | set d => rfl
    | drop => rfl
  · rfl

/-- A header with a frame open acts as the trailer of another frame number and then, where the link streams on, as a header
without an open frame (R18, R21). -/
theorem exec_header_opened {s u : State} {c : Cam} {n : Byte} (hh : s.held = false) (hl : (s.port c).link = .streaming)
    (hp : (s.port c).phase = .opened) (hn : n ≠ (s.port c).frameNumber)
    (hu : exec (.frameTrailerArrival c n (linkCheck [n])) s = .next u) (h : HeaderRecord) :
    exec (.frameHeaderArrival c h (linkCheck h.bytes)) s
      = if (u.port c).link = .streaming then exec (.frameHeaderArrival c h (linkCheck h.bytes)) u else .next u := by
  have hclose : u = ((s.count .frameTruncated c).frameClose c).drivePins := by
    rw [exec_trailer_closes hh hl hp, if_neg hn] at hu
    exact (Host.Outcome.next.inj hu).symm
  rw [exec_header_taken hh hl, State.takeHeader_opened hp]
  generalize (s.count .frameTruncated c).frameClose c = x at hclose ⊢
  have hport : u.port c = x.port c := by rw [hclose, State.drivePins_port]
  rw [← hport]
  by_cases hs : (u.port c).link = .streaming
  · obtain ⟨k, a, F, E, hframe⟩ := trailer_stays hh hl hp hu hs
    have hheld : u.held = false := (congrArg State.held hframe.rest).trans hh
    have hphase : (u.port c).phase ≠ .opened := by
      rw [E.port]
      dsimp only
      rw [F.phase]
      decide
    rw [if_neg (not_not_intro hs), if_pos hs, exec_header_judged hheld hs hphase, hclose, x.drivePins_eq_withPins,
      State.judgeHeader_withPins, State.withPins_drivePins]
  · rw [if_pos hs, if_neg hs, hclose]

/-- Settles O22. -/
theorem headerOpensAFrame : Obligations.HeaderOpensAFrame := by
  refine ⟨fun s c h m hh hl hp hm => ?_, fun s u c h n hh hl hp hn hu => ?_, fun s c h check hh => ⟨fun hl hc => ?_, fun hl => ?_⟩⟩
  · rw [exec_header_judged hh hl hp, State.judgeHeader_of_mode hm]
    refine ⟨fun hnone hlaw => ?_, ?_⟩
    · rw [State.applyChanges_none hnone hlaw.2.2.1]
      split
      · rw [State.openFrame_eq]
        rfl
      · rfl
    · have L := State.judgeHeader_left (h := h) hm
      have A := s.changesApplied c
      refine ⟨_, rfl, ?_⟩
      rw [← State.judgeHeader_of_mode hm]
      generalize (s.judgeHeader c h).drivePins = t at L ⊢
      generalize s.applyChanges c = a at L A
      have hwindow : ∀ w, t.window w
          = if modeOfCode? h.mode = some m then (a.window w).openFrame c m else a.window w := fun w => by
        rw [State.window, L.windows]
        split
        · rw [look_mapTable]
          rfl
        · rfl
      have hactive : ∀ w, (t.window w).active = (a.window w).active := fun w => by
        rw [hwindow]
        split
        · rw [Window.openFrame_active]
        · rfl
      refine ⟨fun w => ?_, fun k => ?_, L.port, ?_, L.ports, L.store, ?_, ?_, L.rest, L.beside, ?_⟩
      · intro old due new
        have hdue : old.changeDue c = due := rfl
        have hnew : look (s.changedWindows c) w = new := by
          rw [State.changedWindows, look_mapTable, Window.changed_eq]
          rfl
        have hzone : t.zone w = a.zone w := by rw [State.zone, L.zones]; rfl
        refine ⟨?_, ?_⟩
        · rw [hwindow, State.window, A.windows, hnew]
        · rw [hzone, A.zone, hnew]
          rfl
      · rw [L.clarity, A.clarity]
        by_cases hk : s.losesClarity c k = true
        · rw [if_pos hk, if_pos ((A.clarity_iff hactive k).mp hk)]
          rfl
        · rw [if_neg hk, if_neg (mt (A.clarity_iff hactive k).mpr hk)]
      · rw [L.zones]
        exact A.hazardList
      · rw [L.zones]
        exact A.latches.1
      · rw [L.zones]
        exact A.latches.2
      · rw [L.control, A.control, ← L.reports]
  · exact exec_header_opened hh hl hp hn hu h
  · rw [exec_frameHeaderArrival hh, State.headerArrives, if_neg (not_not_intro hl), if_neg (by simp [checkGood_eq, hc])]
    rfl
  · rw [exec_frameHeaderArrival hh, State.headerArrives, if_pos hl]

end Sys2Proof.Machine
end

section
/-! PROOF. Requests whose effect queues reports, and PORT CONTROL (R9, R17). -/

namespace Sys2Proof.Machine

/-! ## Reports queued while a frame is being sent (R167, R168) -/

/-- The frame being sent and the reply list pass through a report. -/
theorem Control.queueReport_behind {k : Control} (h : k.sending ≠ none) (x : TxFrame) (replies : List Reply) (r : Report) :
    Control.queueReport { k with sending := some x, replies := replies } r
      = { k.queueReport r with sending := some x, replies := replies } := by
  unfold Control.queueReport
  dsimp only
  split
  · rw [Control.startNext_sending (k := { k with reports := k.reports ++ [r] }) h,
      Control.startNext_sending (by simp)]
  · rfl

theorem Control.queueReport_kept {k : Control} (h : k.sending ≠ none) (r : Report) :
    (k.queueReport r).sending = k.sending ∧ (k.queueReport r).replies = k.replies := by
  obtain ⟨x, hx⟩ := Option.ne_none_iff_exists'.mp h
  have hk := Control.queueReport_behind h x k.replies r
  rw [← hx] at hk
  exact ⟨(congrArg Control.sending hk :), (congrArg Control.replies hk :)⟩

theorem Control.queueAll_behind {k : Control} (h : k.sending ≠ none) (x : TxFrame) (replies : List Reply)
    (rs : List Report) : Control.queueAll { k with sending := some x, replies := replies } rs
      = { k.queueAll rs with sending := some x, replies := replies } := by
  induction rs generalizing k with
  | nil => rfl
  | cons r rs ih =>
    rw [Control.queueAll_cons, Control.queueAll_cons, Control.queueReport_behind h,
      ih (by rwa [(Control.queueReport_kept h r).1])]

theorem Control.queueAll_kept {k : Control} (h : k.sending ≠ none) (rs : List Report) :
    (k.queueAll rs).sending = k.sending ∧ (k.queueAll rs).replies = k.replies := by
  obtain ⟨x, hx⟩ := Option.ne_none_iff_exists'.mp h
  have hk := Control.queueAll_behind h x k.replies rs
  rw [← hx] at hk
  exact ⟨(congrArg Control.sending hk :), (congrArg Control.replies hk :)⟩

/-- A request whose effect queues reports: they follow its reply (R165, R167). -/
theorem request_reports {s : State} {r : Instr} (h : Takes s r) {kind tag : Byte} {f : State → Answer} {st : Status}
    {data : ReplyData} {g : Control → State} (hf : ∀ k, f { s with control := k } = ⟨st, data, g k⟩)
    {rs : Control → List Report} (hg : ∀ k, (g k).control = k.queueAll (rs k)) :
    ∃ k, k.rate = s.control.rate ∧ k.rx = s.control.rx ∧ request r kind tag f s
      = .next (State.drivePins { g k with control := (s.control.replied kind tag st data).queueAll (rs k) }) := by
  unfold request unlessHeld commit
  rw [if_neg (by simp [h.live])]
  dsimp only
  rw [State.serve_taken h]
  unfold answerWith Control.replied
  dsimp only
  split
  · refine ⟨{ s.control with
        requests := s.control.requests.tail, sending := some (.reply ⟨replyKind kind, tag, .ok, .none⟩) }, rfl, rfl, ?_⟩
    rw [hf]
    dsimp only
    rw [hg]
    generalize hk : ({ s.control with
        requests := s.control.requests.tail, sending := some (.reply ⟨replyKind kind, tag, .ok, .none⟩) } : Control) = k
    have hsend : k.sending ≠ none := by rw [← hk]; simp
    have hq := Control.queueAll_behind hsend (.reply ⟨replyKind kind, tag, st, data⟩) k.replies (rs k)
    rw [← (Control.queueAll_kept hsend (rs k)).2] at hq
    rw [← hq, (Control.queueAll_kept hsend (rs k)).2, ← hk]
  · next hs =>
    refine ⟨{ s.control with requests := s.control.requests.tail }, rfl, rfl, ?_⟩
    rw [hf]
    dsimp only
    rw [hg]
    generalize hk : ({ s.control with requests := s.control.requests.tail } : Control) = k
    have hsend : k.sending ≠ none := by rw [← hk]; exact hs
    have hkept := Control.queueAll_kept hsend (rs k)
    obtain ⟨x, hx⟩ := Option.ne_none_iff_exists'.mp hsend
    have hq := Control.queueAll_behind hsend x (k.replies ++ [⟨replyKind kind, tag, st, data⟩]) (rs k)
    rw [← hx, ← hkept.1] at hq
    rw [hkept.2, ← hq, hkept.1, ← hk]

/-- The same where the effect moves a link: the port, store and reports of the move, behind the reply. -/
theorem LinkMoved.withControl {c : Cam} {s t : State} {p : Port} {x : CamStore} {k : Control} {new : LinkState}
    {cause : LinkCause} (h : LinkMoved c s t p x k new cause) {k' : Control} (h1 : k'.rate = s.control.rate)
    (h2 : k'.rx = s.control.rx) : LinkMoved c s
      { t with control := k'.queueAll (.link c new cause :: healthReport s t c) } p x k' new cause where
  port := h.port
  store := h.store
  control := rfl
  follows := by
    have hf := h.follows
    split at hf
    · next hs => rw [if_pos hs]; exact hf.keeps ⟨rfl, rfl, rfl⟩
    · next hs => rw [if_neg hs]; exact hf.trans ⟨rfl, rfl, rfl⟩
  clarity := h.clarity
  seams := h.seams
  choices := h.choices
  frame := h.frame.trans (cameraFrame_control t c (by rw [Control.queueAll_rate, h1, h.frame.rate])
    (by rw [Control.queueAll_rx, h2, h.frame.rx]))

@[simp] theorem Control.replied_rate (k : Control) (kind tag : Byte) (st : Status) (data : ReplyData) :
    (k.replied kind tag st data).rate = k.rate := by unfold Control.replied; split <;> rfl

@[simp] theorem Control.replied_rx (k : Control) (kind tag : Byte) (st : Status) (data : ReplyData) :
    (k.replied kind tag st data).rx = k.rx := by unfold Control.replied; split <;> rfl

/-- The control link is no input of the pins. -/
theorem State.drivePins_withControl (s : State) (k : Control) :
    State.drivePins { s with control := k } = { s.drivePins with control := k } := rfl

/-- A request that moves a link. -/
theorem request_moves {s : State} {r : Instr} (h : Takes s r) {kind tag : Byte} {f : State → Answer} {c : Cam} {p : Port}
    {x : CamStore} {new : LinkState} {cause : LinkCause} (hp : p.link = (s.port c).link)
    (hx : x.health = (s.store c).health)
    (hf : ∀ k, f { s with control := k } = ⟨.ok, .none, (s.prepared c p x k).setLink c new cause⟩) :
    ∃ t, request r kind tag f s = .next t ∧ LinkMoved c s t p x (s.control.replied kind tag .ok .none) new cause := by
  have hreports : ∀ k, ((s.prepared c p x k).setLink c new cause).control
      = k.queueAll (.link c new cause :: healthReport s ((s.prepared c p x k).setLink c new cause) c) := fun k => by
    rw [State.setLink_control_from (s := s) (by rw [State.prepared_store, hx]), State.prepared_control]
  obtain ⟨k, h1, h2, ht⟩ := request_reports h hf hreports
  have hm := (State.prepared_setLink hp hx h1 h2 new cause).withControl
    (Control.replied_rate s.control kind tag .ok .none) (Control.replied_rx s.control kind tag .ok .none)
  refine ⟨_, ht, ?_⟩
  rw [State.drivePins_withControl]
  rw [healthReport_drivePins] at hm
  exact hm

end Sys2Proof.Machine
end

section
/-! PROOF. PORT CONTROL requests (R9, R17). -/

namespace Sys2Proof.Machine

/-! ## What the requests do to the state they find -/

/-- A port that has taken a preference list (R9, R10). -/
def Port.preferring (p : Port) (ms : List CamMode) : Port :=
  { p with preference := ms, common := commonList ms p.announceList }

section
variable {s : State} {c : Cam} {ms : List CamMode}

/-- The preference list changes the two lists alone (R9). -/
theorem State.takePreference_lists (h : (s.port c).link ≠ .training ∧ (s.port c).link ≠ .streaming
    ∨ ∃ m ∈ ms, (s.port c).mode = some m) : s.takePreference c ms = s.setPort c ((s.port c).preferring ms) := by
  unfold State.takePreference
  dsimp only
  rw [if_neg]
  · rfl
  · rintro ⟨hl, hm⟩
    rcases h with ⟨h1, h2⟩ | ⟨m, hmem, hmode⟩
    · exact hl.elim h1 h2
    · simp [hmode, hmem] at hm

variable {old : CamMode} (hl : (s.port c).link = .training ∨ (s.port c).link = .streaming)
  (hm : (s.port c).mode = some old) (hold : old ∉ ms)
include hl hm hold

theorem State.takePreference_eq : s.takePreference c ms =
    match commonList ms (s.port c).announceList with
    | [] => (s.setPort c ((s.port c).preferring ms)).enterRefused c .noCommonMode
    | m :: _ =>
      let begun := (s.setPort c ((s.port c).preferring ms)).beginSequence c m
      if (s.port c).link = .streaming then begun.setLink c .training .preference else begun := by
  have hdropped : ((s.port c).link = .training ∨ (s.port c).link = .streaming)
      ∧ (!(s.port c).mode.any (· ∈ ms)) = true := ⟨hl, by simp [hm, hold]⟩
  unfold State.takePreference
  dsimp only
  rw [if_pos hdropped]
  rfl

/-- Without a common mode the port is REFUSED (R9). -/
theorem State.takePreference_refused (hc : commonList ms (s.port c).announceList = []) : s.takePreference c ms
    = (s.prepared c ((s.port c).preferring ms).abandon.stopTimers (s.store c) s.control).setLink c .refused
      .noCommonMode := by
  rw [State.takePreference_eq hl hm hold, hc]
  dsimp only
  rw [State.setPort_eq_prepared, State.prepared_enterRefused]

/-- With one the link trains anew on it, in place from TRAINING (R9, R12, R31). -/
theorem State.takePreference_retrains {m : CamMode} {rest : List CamMode}
    (hc : commonList ms (s.port c).announceList = m :: rest) :
    let begun := s.prepared c (((s.port c).preferring ms).begun m s.params.link.trainWaitMs)
      ((s.store c).emptied (modeSegments m)) s.control
    s.takePreference c ms = if (s.port c).link = .streaming then begun.setLink c .training .preference else begun := by
  have hmem : m ∈ commonList ms (s.port c).announceList := hc ▸ List.mem_cons_self
  have hne : (s.port c).mode ≠ some m := by
    rw [hm]
    rintro ⟨⟩
    exact hold (List.mem_filter.mp hmem).1
  have hstore : s.offeredStore c m = (s.store c).emptied (modeSegments m) := if_neg hne
  have hbegun := State.beginSequence_prepared (s := s) (c := c) (p := (s.port c).preferring ms) rfl m
  rw [hstore] at hbegun
  intro begun
  rw [State.takePreference_eq hl hm hold, hc]
  dsimp only
  rw [hbegun]

end

/-! ## Answers -/

/-- A refused request is answered and changes nothing else. -/
theorem request_refused {s : State} {r : Instr} (h : Takes s r) {kind tag : Byte} {f : State → Answer} {st : Status}
    (hf : ∀ k, f { s with control := k } = refuse st { s with control := k }) :
    request r kind tag f s = .next (s.replied kind tag st .none).drivePins :=
  request_taken h (g := id) hf (fun _ => rfl) fun _ _ => rfl

/-- A request that writes port and store of a camera. -/
theorem request_prepares {s : State} {r : Instr} (h : Takes s r) {kind tag : Byte} {f : State → Answer} {c : Cam} {p : Port}
    {x : CamStore} (hf : ∀ k, f { s with control := k } = ⟨.ok, .none, s.prepared c p x k⟩) :
    request r kind tag f s = .next (s.prepared c p x (s.control.replied kind tag .ok .none)).drivePins := by
  obtain ⟨k, -, -, ht⟩ := request_reports h hf (rs := fun _ => []) fun _ => rfl
  rw [ht]
  rfl

/-! ## Port numbers and preference lists out of range -/

theorem modeOfCode?_eq_none {n : Nat} (h : n = 0 ∨ 7 ≤ n) : modeOfCode? n = none := by
  rcases h with rfl | h
  · rfl
  · obtain ⟨k, rfl⟩ := Nat.exists_eq_add_of_le' h
    rfl

/-- The results of a run that ends are those of its steps. -/
theorem map_eq_of_mapM_eq_some {α β : Type} {f : α → Option β} {l : List α} {r : List β} (h : l.mapM f = some r) :
    l.map f = r.map some := by
  induction l generalizing r with
  | nil =>
    obtain rfl : [] = r := by simpa using h
    rfl
  | cons a l ih =>
    rw [List.mapM_cons] at h
    obtain ⟨b, hb, h⟩ := Option.bind_eq_some_iff.mp h
    obtain ⟨bs, hbs, h⟩ := Option.bind_eq_some_iff.mp h
    obtain rfl : b :: bs = r := by simpa using h
    rw [List.map_cons, List.map_cons, hb, ih hbs]

theorem preferenceOf?_eq_none {codes : List Nat} (h : codes = [] ∨ ¬codes.Nodup ∨ ∃ n ∈ codes, n = 0 ∨ 7 ≤ n) :
    preferenceOf? codes = none := by
  unfold preferenceOf?
  split
  · next ms hms =>
    have hmap := map_eq_of_mapM_eq_some hms
    rw [if_neg]
    rintro ⟨hne, hnodup⟩
    rcases h with rfl | hdup | ⟨n, hn, hcode⟩
    · exact hne (List.map_eq_nil_iff.mp hmap.symm)
    · have hsome : (ms.map some).Nodup := hnodup.map (Option.some_injective _)
      exact hdup (List.Nodup.of_map modeOfCode? (hmap ▸ hsome))
    · have hmem : none ∈ ms.map some := hmap ▸ List.mem_map.mpr ⟨n, hn, modeOfCode?_eq_none hcode⟩
      simp at hmem
  · rfl

/-! ## The four requests, by case -/

section
variable {s : State} {c : Cam}

theorem State.leaveOff_of_not (h : s.mode ≠ .run ∨ (s.port c).link ≠ .off) : s.leaveOff c = s := by
  unfold State.leaveOff
  dsimp only
  rw [if_neg]
  rintro ⟨hmode, -, hlink⟩
  exact h.elim (· hmode) (· hlink)

/-- PORT ENABLE that does not take the port out of OFF (R17). -/
theorem portEnable_kept (h : s.mode ≠ .run ∨ (s.port c).link ≠ .off) : portEnable c.val s
    = ⟨.ok, .none, State.reform (s.setPort c { s.port c with enabled := true })⟩ := by
  unfold portEnable
  rw [index?_val]
  dsimp only
  rw [State.leaveOff_of_not (by rwa [State.port_setPort])]

/-- PORT DISABLE of a port that is OFF (R17). -/
theorem portDisable_kept (h : (s.port c).link = .off) (hz : s.zones.hazardList = activeZones s.zones.zones) :
    portDisable c.val s = ⟨.ok, .none, State.reform (s.setPort c { s.port c with enabled := false })⟩ := by
  unfold portDisable
  rw [index?_val]
  dsimp only
  rw [State.goOffUnlessOff, if_pos (by rw [State.port_setPort]; exact h), State.refreshHazard_of_list (by exact hz)]

theorem linkRestart_refused (h : (s.port c).link ≠ .refused) : linkRestart c.val s = refuse .badState s := by
  unfold linkRestart
  rw [index?_val]
  dsimp only
  rw [if_neg h]

theorem portPreference_taken {codes : List Nat} {ms : List CamMode} (h : preferenceOf? codes = some ms) :
    portPreference ⟨c.val, codes⟩ s = ⟨.ok, .none, s.takePreference c ms⟩ := by
  unfold portPreference
  rw [index?_val, h]

theorem portPreference_refused {codes : List Nat} (h : preferenceOf? codes = none) (port : Nat) :
    portPreference ⟨port, codes⟩ s = refuse .badValue s := by
  unfold portPreference
  rw [h]
  split
  · next heq => cases heq
  · rfl

/-- None of the four requests takes a port number above 3. -/
theorem portRequests_badValue {n : Nat} (h : 4 ≤ n) (codes : List Nat) :
    portEnable n s = refuse .badValue s ∧ portDisable n s = refuse .badValue s ∧ linkRestart n s = refuse .badValue s
      ∧ portPreference ⟨n, codes⟩ s = refuse .badValue s := by
  have hn : index? 4 n = none := index?_eq_none.mpr h
  unfold portEnable portDisable linkRestart portPreference
  rw [hn]
  exact ⟨rfl, rfl, rfl, rfl⟩

end

/-! ## Requests that keep or move the link by their list -/

section
variable {s : State} {c : Cam} {tag : Byte} {codes : List Nat} {ms : List CamMode} {old : CamMode}

/-- A link that has no mode of the list any more: it retrains on the first common mode, or is REFUSED (R9, R11, R12). -/
theorem preference_moves (ht : Takes s (.portPreferenceList tag (.fields ⟨c.val, codes⟩)))
    (hms : preferenceOf? codes = some ms) (hl : (s.port c).link = .training ∨ (s.port c).link = .streaming)
    (hm : (s.port c).mode = some old) (hold : old ∉ ms) :
    (commonList ms (s.port c).announceList = [] →
      ∃ t, exec (.portPreferenceList tag (.fields ⟨c.val, codes⟩)) s = .next t
        ∧ LinkMoved c s t ((s.port c).preferring ms).abandon.stopTimers (s.store c)
          (s.control.replied 0x04 tag .ok .none) .refused .noCommonMode)
    ∧ ∀ m rest, commonList ms (s.port c).announceList = m :: rest →
      ((s.port c).link = .streaming → ∃ t, exec (.portPreferenceList tag (.fields ⟨c.val, codes⟩)) s = .next t
        ∧ LinkMoved c s t (((s.port c).preferring ms).begun m s.params.link.trainWaitMs)
          ((s.store c).emptied (modeSegments m)) (s.control.replied 0x04 tag .ok .none) .training .preference)
      ∧ ((s.port c).link = .training → exec (.portPreferenceList tag (.fields ⟨c.val, codes⟩)) s
        = .next (State.drivePins (s.prepared c (((s.port c).preferring ms).begun m s.params.link.trainWaitMs)
          ((s.store c).emptied (modeSegments m)) (s.control.replied 0x04 tag .ok .none)))) := by
  refine ⟨fun hc => ?_, fun m rest hc => ⟨fun hs => ?_, fun hs => ?_⟩⟩
  · exact request_moves ht rfl rfl fun k => (portPreference_taken hms).trans
      (congrArg _ (State.takePreference_refused (s := { s with control := k }) hl hm hold hc))
  · exact request_moves ht (Port.begun_link_eq ..) rfl fun k => (portPreference_taken hms).trans
      (congrArg _ ((State.takePreference_retrains (s := { s with control := k }) hl hm hold hc).trans (if_pos hs)))
  · exact request_prepares ht fun k => (portPreference_taken hms).trans
      (congrArg _ ((State.takePreference_retrains (s := { s with control := k }) hl hm hold hc).trans
        (if_neg fun h => by cases hs.symm.trans h)))

end

/-- Settles O26, request by request; the preference list by the link state and the first common mode. -/
theorem portRequestsThatKeepTheLink : Obligations.PortRequestsThatKeepTheLink := by
  refine ⟨fun s tag c => ⟨fun ht h => ?_, fun ht hl hlaw => ?_, fun ht hl => ?_⟩, fun s tag n codes i hn hi ht => ?_,
    fun s tag c codes ht => ⟨fun ms hms h => ?_, fun ms old hms hl hm hold => ?_, fun h => ?_⟩⟩
  · exact request_taken ht (g := fun t => State.reform (t.setPort c { s.port c with enabled := true }))
      (fun k => portEnable_kept h) (fun _ => rfl) fun _ _ => rfl
  · exact request_taken ht (g := fun t => State.reform (t.setPort c { s.port c with enabled := false }))
      (fun k => portDisable_kept hl hlaw.2.2.1) (fun _ => rfl) fun _ _ => rfl
  · exact request_refused ht fun k => linkRestart_refused hl
  · have hbad := fun k => portRequests_badValue (s := { s with control := k }) hn codes
    simp only [List.mem_cons, List.not_mem_nil, or_false] at hi
    rcases hi with rfl | rfl | rfl | rfl
    · exact request_refused ht fun k => (hbad k).1
    · exact request_refused ht fun k => (hbad k).2.1
    · exact request_refused ht fun k => (hbad k).2.2.1
    · exact request_refused ht fun k => (hbad k).2.2.2
  · exact request_taken ht (g := fun t => t.setPort c ((s.port c).preferring ms))
      (fun k => (portPreference_taken hms).trans (congrArg _ (State.takePreference_lists h))) (fun _ => rfl) fun _ _ => rfl
  · obtain ⟨hrefused, hretrains⟩ := preference_moves ht hms (by simpa using hl) hm hold
    intro common stored replied
    have hfilter : commonList ms (s.port c).announceList = common := rfl
    rw [hfilter] at hrefused hretrains
    cases hc : common with
    | nil =>
      obtain ⟨t, hexec, M⟩ := hrefused hc
      refine ⟨t, hexec, fun _ _ h => (nomatch h), fun _ => ⟨M.port, ?_, M.control⟩, ?_, M.clarity, M.seams, M.choices,
        M.frame⟩
      · rw [M.absent (by decide) (by decide)]
      · simpa using M.follows
    | cons m rest =>
      obtain ⟨hstreaming, htraining⟩ := hretrains m rest hc
      by_cases hs : (s.port c).link = .streaming
      · obtain ⟨t, hexec, M⟩ := hstreaming hs
        refine ⟨t, hexec, fun m' rest' h => ?_, (nomatch ·), by simpa [hs] using M.follows, M.clarity, M.seams, M.choices,
          M.frame⟩
        obtain ⟨rfl, rfl⟩ := List.cons.inj h
        refine ⟨?_, ?_, by rw [if_neg (by simp [hs]), M.control]⟩
        · rw [M.port, Port.begun_link]
          rfl
        · rw [M.absent (by decide) (by decide)]
          rfl
      · have htrain : (s.port c).link = .training := by simpa [hs] using hl
        refine ⟨_, htraining htrain, fun m' rest' h => ?_, (nomatch ·), ?_, rfl, rfl, rfl, ?_⟩
        · obtain ⟨rfl, rfl⟩ := List.cons.inj h
          refine ⟨?_, ?_, ?_⟩
          · rw [State.drivePins_port, State.prepared_port, ← htrain]
            rfl
          · rw [State.drivePins_store, State.prepared_store]
            rfl
          · rw [if_pos htrain]
            rfl
        · rw [if_neg hs]
          exact (State.keepsStreaming_prepared ..).trans (keepsStreaming_drivePins ..)
        · exact (State.cameraFrame_prepared _ _ _ _ (Control.replied_rate ..) (Control.replied_rx ..)).trans
            (cameraFrame_drivePins ..)
  · exact request_refused ht fun k => portPreference_refused (preferenceOf?_eq_none h) _

end Sys2Proof.Machine
end

section
/-! PROOF. PORT CONTROL requests that move the link (R17). -/

namespace Sys2Proof.Machine

/-! ## Pins and triggers -/

/-- A power switch is on in RUN with the port ENABLED, and for the port's RELEASE, unless RESET is held (R4, R6, R179). -/
theorem State.drivePins_power (s : State) (c : Cam) : look s.drivePins.pins.power c
    = (!s.held && ((s.mode = .run && (s.port c).enabled) || (s.port c).releasing)) := by
  unfold State.drivePins
  cases s.held
  · simp [State.port]
  · simp

theorem State.drivePins_drivePins (s : State) : s.drivePins.drivePins = s.drivePins := rfl

theorem triggerLaw_reform (s : State) : s.reform.TriggerLaw :=
  ⟨by rw [State.reform_blink, Channel.retrigger_trigger, Channel.retrigger_mask]; rfl,
    by rw [State.reform_buzz, Channel.retrigger_trigger, Channel.retrigger_mask]; rfl⟩

/-- The triggers read neither the pins nor the control link. -/
theorem State.TriggerLaw.drivePins {s : State} (h : s.TriggerLaw) : s.drivePins.TriggerLaw := h

/-- A port that moves with `enabled` and the back channel kept has its power switch kept. -/
theorem CameraFrame.power_eq {c : Cam} {s t : State} (h : CameraFrame c s t) (he : (t.port c).enabled = (s.port c).enabled)
    (hr : (t.port c).releasing = (s.port c).releasing) : t.drivePins.pins.power = s.drivePins.pins.power := by
  have hheld : t.held = s.held := (congrArg State.held h.rest :)
  have hmode : t.mode = s.mode := (congrArg State.mode h.rest :)
  refine table_ext fun d => ?_
  rw [State.drivePins_power, State.drivePins_power, hheld, hmode]
  by_cases hd : d = c
  · rw [hd, he, hr]
  · rw [h.ports d hd]

/-! ## Requests that move a link and re-form the triggers -/

section
variable {c : Cam} {s t : State} {p : Port} {x : CamStore} {k : Control} {new : LinkState} {cause : LinkCause}

theorem LinkMoved.reform (h : LinkMoved c s t p x k new cause) : LinkMoved c s t.reform p x k new cause where
  port := h.port
  store := h.store
  control := h.control
  follows := by
    have hf := h.follows
    split at hf
    · next hs => rw [if_pos hs]; exact hf.keeps ⟨rfl, rfl, rfl⟩
    · next hs => rw [if_neg hs]; exact hf.trans ⟨rfl, rfl, rfl⟩
  clarity := h.clarity
  seams := h.seams
  choices := h.choices
  frame := h.frame.trans (cameraFrame_reform ..)

theorem LinkMoved.drivePins (h : LinkMoved c s t p x k new cause) : LinkMoved c s t.drivePins p x k new cause where
  port := h.port
  store := h.store
  control := h.control
  follows := by
    have hf := h.follows
    split at hf
    · next hs => rw [if_pos hs]; exact hf.keeps (keepsStreaming_drivePins ..)
    · next hs => rw [if_neg hs]; exact hf.trans (keepsStreaming_drivePins ..)
  clarity := h.clarity
  seams := h.seams
  choices := h.choices
  frame := h.frame.trans (cameraFrame_drivePins ..)

/-- What a request leaves that moves a link, the triggers re-formed after it. -/
theorem request_moves_reform {r : Instr} (h : Takes s r) {kind tag : Byte} {f : State → Answer}
    (hp : p.link = (s.port c).link) (hx : x.health = (s.store c).health)
    (hf : ∀ k, f { s with control := k } = ⟨.ok, .none, ((s.prepared c p x k).setLink c new cause).reform⟩) :
    ∃ u : State, request r kind tag f s = .next u.reform.drivePins
      ∧ LinkMoved c s u.reform.drivePins p x (s.control.replied kind tag .ok .none) new cause := by
  have hreports : ∀ k, ((s.prepared c p x k).setLink c new cause).reform.control
      = k.queueAll (.link c new cause :: healthReport s ((s.prepared c p x k).setLink c new cause) c) := fun k => by
    rw [State.reform_control, State.setLink_control_from (s := s) (by rw [State.prepared_store, hx]),
      State.prepared_control]
  obtain ⟨k, h1, h2, ht⟩ := request_reports h hf hreports
  have hm := ((State.prepared_setLink hp hx h1 h2 new cause).withControl
    (Control.replied_rate s.control kind tag .ok .none) (Control.replied_rx s.control kind tag .ok .none)).reform.drivePins
  rw [healthReport_drivePins] at hm
  generalize (s.prepared c p x k).setLink c new cause = w at ht hm
  exact ⟨{ w with control := (s.control.replied kind tag .ok .none).queueAll (.link c new cause :: healthReport s w c) },
    ht, hm⟩

end

/-! ## Going OFF (R17, R25, R31, R120, R127) -/

/-- The OFF values with the link state that follows them are those of a port that has gone OFF. -/
theorem Port.offValues_gone (p : Port) : { p.offValues with link := .off } = p.gone := by
  unfold Port.offValues Port.gone
  rw [Port.issue_eq]
  cases hc : p.carrier <;> cases hb : p.backSending <;> simp [Port.backAfter, Port.initial]

/-- The state with all that precedes the change to OFF made for camera `c`, and the control link replaced. -/
def State.emptiedOf (s : State) (c : Cam) (p : Port) (k : Control) : State :=
  ((s.prepared c p.offValues { (s.store c).emptied 0 with freeze := 0 } k).setClarity c (s.clarity c).cleared).mapZonesOf c
    fun _ => .initial

section
variable {s : State} {c : Cam} {p : Port} {k : Control} (cause : LinkCause)

theorem State.emptiedOf_window (w : WindowId) : (s.emptiedOf c p k).window w = s.window w := rfl

theorem State.emptiedOf_zone (w : WindowId) : (s.emptiedOf c p k).zone w
    = if (s.window w).serves c then (s.zone w).map fun _ => .initial else s.zone w :=
  State.mapZonesOf_zone ..

theorem State.emptiedOf_port : (s.emptiedOf c p k).port c = p.offValues :=
  State.prepared_port _ _ _ _ k

theorem State.emptiedOf_store : (s.emptiedOf c p k).store c = { (s.store c).emptied 0 with freeze := 0 } :=
  State.prepared_store _ _ p.offValues _ k

theorem State.emptiedOf_clarity : (s.emptiedOf c p k).clarity c = (s.clarity c).cleared :=
  State.clarity_setClarity ..

/-- What the change of camera `c` to OFF leaves. -/
structure WentOff (c : Cam) (s v : State) (p : Port) : Prop where
  port : v.port c = p.gone
  store : v.store c = { (s.store c).emptied 0 with freeze := 0, health := .off }
  windows : ∀ w, v.window w = if (s.port c).link = .streaming ∧ (s.window w).serves c = true then (s.window w).unmeasured
    else s.window w
  tone : v.tone c = if (s.port c).link = .streaming then { s.tone c with high := 0, low := 0, settle := 0 } else s.tone c
  zones : ∀ w, (s.window w).serves c = true → v.zone w = (s.zone w).map fun _ => ⟨.idle, 0, none, [], none, false⟩
  hazardList : v.zones.hazardList = s.zones.hazardList
  clarity : v.clarity c = (s.clarity c).cleared
  seams : v.seams = s.seams
  frame : CameraFrame c s v

theorem State.wentOff (hp : p.link = (s.port c).link) (h1 : k.rate = s.control.rate) (h2 : k.rx = s.control.rx) :
    WentOff c s ((s.emptiedOf c p k).setLink c .off cause) p := by
  have hframe : CameraFrame c s (s.emptiedOf c p k) :=
    ((State.cameraFrame_prepared _ _ _ _ h1 h2).trans (cameraFrame_setClarity ..)).trans (cameraFrame_mapZonesOf ..)
  have hport := State.emptiedOf_port (s := s) (c := c) (p := p) (k := k)
  have hstore := State.emptiedOf_store (s := s) (c := c) (p := p) (k := k)
  have hclarity := State.emptiedOf_clarity (s := s) (c := c) (p := p) (k := k)
  have hwindow := State.emptiedOf_window (s := s) (c := c) (p := p) (k := k)
  have hzone := State.emptiedOf_zone (s := s) (c := c) (p := p) (k := k)
  have hkept : (s.emptiedOf c p k).tone c = s.tone c ∧ (s.emptiedOf c p k).seams = s.seams
    ∧ (s.emptiedOf c p k).zones.hazardList = s.zones.hazardList := ⟨rfl, rfl, rfl⟩
  obtain ⟨htone, hseams, hlist⟩ := hkept
  have hlink : ((s.emptiedOf c p k).port c).link = (s.port c).link := by
    rw [hport, ← hp, Port.offValues, Port.issue_link]
  generalize s.emptiedOf c p k = e at *
  have hleaves := fun h => State.setLink_leaves (s := e) (c := c) (new := .off) (hlink.trans h) (by decide) cause
  have hkeeps := fun h => State.setLink_keeps (s := e) (c := c) (new := .off) (.inl (hlink ▸ h)) cause
  constructor
  case port => rw [State.setLink_port, hport, Port.offValues_gone]
  case store => rw [State.setLink_store, hstore, deriveHealth_off]
  case clarity => rw [State.setLink_clarity, hclarity]
  case seams => rw [State.setLink_seams, hseams]
  case frame => exact hframe.trans (cameraFrame_setLink ..)
  case windows =>
    intro w
    by_cases hs : (s.port c).link = .streaming
    · rw [(hleaves hs).windows w, hwindow]
      simp only [hs, true_and]
    · rw [if_neg (fun h => hs h.1), ← hwindow w, State.window, State.window, (hkeeps hs).windows]
  case tone =>
    split
    · next hs => rw [(hleaves hs).tone, htone]
    · next hs => rw [(hkeeps hs).tone, htone]
  case zones =>
    intro w hw
    by_cases hs : (s.port c).link = .streaming
    · rw [(hleaves hs).zones w, hwindow, if_pos hw, hzone, if_pos hw, Option.map_map]
      rfl
    · rw [State.zone, (hkeeps hs).zones, ← State.zone, hzone, if_pos hw]
      rfl
  case hazardList =>
    by_cases hs : (s.port c).link = .streaming
    · rw [(hleaves hs).hazard.2, hlist]
    · rw [(hkeeps hs).zones, hlist]

end

/-! ## The state after the reports -/

/-- The state with triggers and hazard list brought up to date, the control link replaced and the pins driven. -/
def State.settled (v : State) (k : Control) : State :=
  State.drivePins { v.reform.refreshHazard.reform with control := k }

section
variable (v : State) (k : Control)

theorem State.settled_port (c : Cam) : (v.settled k).port c = v.port c := v.reform.refreshHazard_port c
theorem State.settled_store (c : Cam) : (v.settled k).store c = v.store c := v.reform.refreshHazard_store c
theorem State.settled_tone (c : Cam) : (v.settled k).tone c = v.tone c := v.reform.refreshHazard_tone c
theorem State.settled_clarity (c : Cam) : (v.settled k).clarity c = v.clarity c := v.reform.refreshHazard_clarity c
theorem State.settled_window (w : WindowId) : (v.settled k).window w = v.window w := v.reform.refreshHazard_window w
theorem State.settled_zone (w : WindowId) : (v.settled k).zone w = v.zone w := v.reform.refreshHazard_zone w
theorem State.settled_seams : (v.settled k).seams = v.seams := v.reform.refreshHazard_seams

theorem State.settled_hazardList : (v.settled k).zones.hazardList = activeZones (v.settled k).zones.zones :=
  v.reform.refreshHazard_hazardList.trans (congrArg activeZones v.reform.refreshHazard_zones_zones.symm)

theorem triggerLaw_settled : (v.settled k).TriggerLaw := triggerLaw_reform v.reform.refreshHazard

theorem hazardReport_settled (s : State) : hazardReport s (v.settled k) = hazardReport s v.reform.refreshHazard := rfl

theorem cameraFrame_settled {s : State} {c : Cam} (h : CameraFrame c s v) (h1 : k.rate = s.control.rate)
    (h2 : k.rx = s.control.rx) : CameraFrame c s (v.settled k) := by
  have hr : CameraFrame c s v.reform.refreshHazard.reform :=
    ((h.trans (cameraFrame_reform ..)).trans (cameraFrame_refreshHazard ..)).trans (cameraFrame_reform ..)
  exact (hr.trans (cameraFrame_control _ _ (h1.trans hr.rate.symm) (h2.trans hr.rx.symm))).trans (cameraFrame_drivePins ..)

end

end Sys2Proof.Machine
end

section
/-! PROOF. PORT ENABLE, PORT DISABLE and LINK RESTART (R17). -/

namespace Sys2Proof.Machine

/-! ## A camera whose port is disabled -/

/-- The state of a disabled port's camera after the change to OFF. -/
def State.disabled (s : State) (c : Cam) (k : Control) : State :=
  (s.emptiedOf c { s.port c with enabled := false } k).setLink c .off .disabled

/-- The control link before it is replaced is no input. -/
theorem State.emptiedOf_withControl (s : State) (c : Cam) (p : Port) (k k' : Control) :
    State.emptiedOf { s with control := k' } c p k = s.emptiedOf c p k := rfl

theorem State.disabled_withControl (s : State) (c : Cam) (k k' : Control) :
    State.disabled { s with control := k' } c k = s.disabled c k :=
  congrArg (State.setLink · c .off .disabled) (s.emptiedOf_withControl c _ k k')

/-! ## The three requests, where they move the link -/

section
variable {s : State} {c : Cam}

/-- A port that is ENABLED, with its wait begun where carrier is present (R13, R17). -/
def Port.enabledNow (p : Port) (ms : Nat) : Port :=
  if p.carrier then { p with enabled := true, announceTimer := some ms, announceCount := 0 } else { p with enabled := true }

/-- The link state in which a port leaves OFF (R17). -/
def Port.afterOff (p : Port) : LinkState := if p.carrier then .announceWait else .dark

theorem portEnable_moves (hm : s.mode = .run) (hl : (s.port c).link = .off) : portEnable c.val s = ⟨.ok, .none,
    ((s.prepared c ((s.port c).enabledNow s.params.link.announceWaitMs) (s.store c) s.control).setLink c
      (s.port c).afterOff .enabled).reform⟩ := by
  unfold portEnable State.leaveOff Port.enabledNow Port.afterOff
  rw [index?_val]
  dsimp only
  rw [State.port_setPort, if_pos ⟨hm, rfl, hl⟩]
  dsimp only
  split
  · rw [State.setPort_setPort, State.setPort_eq_prepared]
    rfl
  · rw [State.setPort_eq_prepared]

theorem portDisable_moves (hl : (s.port c).link ≠ .off) : portDisable c.val s = ⟨.ok, .none,
    (s.disabled c s.control).reform.refreshHazard.reform⟩ := by
  unfold portDisable State.disabled State.goOffUnlessOff State.goOff State.emptiedOf
  rw [index?_val]
  dsimp only
  rw [State.port_setPort, if_neg hl, State.setPort_setPort, State.setPort_eq_prepared, State.prepared_setStore,
    State.prepared_store]
  rfl

theorem linkRestart_moves (hl : (s.port c).link = .refused) : linkRestart c.val s = ⟨.ok, .none,
    (s.prepared c ((s.port c).startWait s.params.link.announceWaitMs) (s.store c) s.control).setLink c .announceWait
      .hostRestart⟩ := by
  unfold linkRestart
  rw [index?_val]
  dsimp only
  rw [if_pos hl, State.setPort_eq_prepared]

end

/-- The control link before it is replaced is no input. -/
theorem State.prepared_withControl (s : State) (c : Cam) (p : Port) (x : CamStore) (k k' : Control) :
    State.prepared { s with control := k' } c p x k = s.prepared c p x k := rfl

/-- A request leaves the pins driven. -/
theorem request_drivesPins {s t : State} {r : Instr} {kind tag : Byte} {f : State → Answer}
    (h : request r kind tag f s = .next t) : t.drivePins = t := by
  unfold request unlessHeld commit at h
  injection h with h
  rw [← h, State.drivePins_drivePins]

section
variable {s : State} {c : Cam} {tag : Byte}

/-- What PORT ENABLE leaves where the port leaves OFF. -/
theorem portEnable_moved (ht : Takes s (.portEnable tag (.fields c.val))) (hm : s.mode = .run)
    (hl : (s.port c).link = .off) :
    ∃ u : State, exec (.portEnable tag (.fields c.val)) s = .next u.reform.drivePins
      ∧ LinkMoved c s u.reform.drivePins ((s.port c).enabledNow s.params.link.announceWaitMs) (s.store c)
        (s.control.replied 0x04 tag .ok .none) (s.port c).afterOff .enabled := by
  have hlink : ((s.port c).enabledNow s.params.link.announceWaitMs).link = (s.port c).link := by
    unfold Port.enabledNow
    split <;> rfl
  refine request_moves_reform ht (f := portEnable c.val) hlink rfl fun k => ?_
  have h := portEnable_moves (s := { s with control := k }) (c := c) hm hl
  rw [State.prepared_withControl] at h
  exact h

/-- What LINK RESTART leaves where the port leaves REFUSED. -/
theorem linkRestart_moved (ht : Takes s (.linkRestart tag (.fields c.val))) (hl : (s.port c).link = .refused) :
    ∃ t, exec (.linkRestart tag (.fields c.val)) s = .next t
      ∧ LinkMoved c s t ((s.port c).startWait s.params.link.announceWaitMs) (s.store c)
        (s.control.replied 0x04 tag .ok .none) .announceWait .hostRestart := by
  refine request_moves ht (f := linkRestart c.val) rfl rfl fun k => ?_
  have h := linkRestart_moves (s := { s with control := k }) (c := c) hl
  rw [State.prepared_withControl] at h
  exact h

theorem State.disabled_control (s : State) (c : Cam) (k : Control) : (s.disabled c k).reform.refreshHazard.reform.control
    = k.queueAll (.link c .off .disabled ::
      (healthReport s (s.disabled c k) c ++ hazardReport (s.disabled c k).reform (s.disabled c k).reform.refreshHazard)) := by
  have hcontrol : (s.disabled c k).control
      = k.queueAll (.link c .off .disabled :: healthReport s (s.disabled c k) c) :=
    State.setLink_control_from (s := s) (by rw [State.emptiedOf_store]; rfl) ..
  rw [State.reform_control, State.refreshHazard_control, State.reform_control, hcontrol, ← Control.queueAll_append]
  rfl

/-- What PORT DISABLE leaves: the change to OFF, brought up to date, with the reports behind the reply. -/
theorem portDisable_wentOff (ht : Takes s (.portDisable tag (.fields c.val))) (hl : (s.port c).link ≠ .off) :
    ∃ v k, exec (.portDisable tag (.fields c.val)) s = .next (v.settled k)
      ∧ WentOff c s v { s.port c with enabled := false }
      ∧ k = (s.control.replied 0x04 tag .ok .none).queueAll
        (.link c .off .disabled :: (healthReport s (v.settled k) c ++ hazardReport s (v.settled k))) := by
  obtain ⟨k, h1, h2, hexec⟩ := request_reports ht (kind := 0x04) (tag := tag) (f := portDisable c.val)
    (g := fun k => (s.disabled c k).reform.refreshHazard.reform)
    (fun k => by rw [portDisable_moves (s := { s with control := k }) hl, State.disabled_withControl])
    fun k => s.disabled_control c k
  have hoff : WentOff c s (s.disabled c k) { s.port c with enabled := false } := State.wentOff _ rfl h1 h2
  generalize s.disabled c k = v at hexec hoff
  refine ⟨v, _, hexec, hoff, ?_⟩
  have hhazard : hazardReport s v.reform.refreshHazard = hazardReport v.reform v.reform.refreshHazard :=
    hazardReport_congr hoff.hazardList.symm rfl fun _ => rfl
  rw [healthReport_congr (s := s) (t := v) rfl (State.settled_store ..), hazardReport_settled, hhazard]

end

/-- Settles O27, request by request, from what each of the three leaves. -/
theorem portRequestsMoveTheLink : Obligations.PortRequestsMoveTheLink := by
  refine fun s tag c => ⟨fun ht hm hl => ?_, fun ht hl => ?_, fun ht hl => ?_⟩
  · obtain ⟨u, hexec, M⟩ := portEnable_moved ht hm hl
    have hheld : u.reform.drivePins.held = false := (congrArg State.held M.frame.rest :).trans ht.live
    have hmode : u.reform.drivePins.mode = .run := (congrArg State.mode M.frame.rest :).trans hm
    have hport : u.reform.drivePins.port c = _ := M.port
    obtain ⟨hblink, hbuzz⟩ := (triggerLaw_reform u).drivePins
    refine ⟨_, hexec, ?_, M.control, M.absent ?_ ?_, ?_, M.clarity, M.seams, hblink, hbuzz, ?_, M.frame⟩
    · rw [M.port, Port.enabledNow, Port.afterOff]
      split <;> rfl
    · unfold Port.afterOff; split <;> decide
    · unfold Port.afterOff; split <;> decide
    · have hf := M.follows
      rwa [if_neg (fun h => by cases hl.symm.trans h.1)] at hf
    · rw [← State.drivePins_drivePins, State.drivePins_power, hheld, hmode, hport]
      unfold Port.enabledNow
      split <;> rfl
  · obtain ⟨v, k, hexec, hoff, hk⟩ := portDisable_wentOff ht hl
    have hframe : CameraFrame c s (v.settled k) := by
      refine cameraFrame_settled v k hoff.frame ?_ ?_
      · rw [hk, Control.queueAll_rate, Control.replied_rate]
      · rw [hk, Control.queueAll_rx, Control.replied_rx]
    obtain ⟨hblink, hbuzz⟩ := triggerLaw_settled v k
    refine ⟨_, hexec, ?_, hk, fun w hw => ?_, v.settled_hazardList k, hblink, hbuzz, ?_, ?_, ?_, fun i => ?_, fun w => ?_,
      ?_, ?_, ?_, ?_, ?_, hframe⟩
    · rw [State.settled_port, hoff.port]
      rfl
    · rw [State.settled_zone, hoff.zones w hw]
    · rw [State.settled_store, hoff.store]
      rfl
    · rw [State.settled_store, hoff.store]
    · rw [State.settled_store, hoff.store]
    · rw [State.settled_store, hoff.store]
      exact look_replicate ..
    · rw [State.settled_window, hoff.windows w]
    · rw [State.settled_tone, hoff.tone]
    · rw [State.settled_clarity, hoff.clarity]
      rfl
    · rw [State.settled_seams, hoff.seams]
    · rw [State.settled_store, hoff.store]
      rfl
    · rw [State.settled_store, hoff.store]
      rfl
  · obtain ⟨t, hexec, M⟩ := linkRestart_moved ht hl
    refine ⟨t, hexec, M.port, M.control, ?_, M.clarity, M.seams, ?_, ?_, M.frame⟩
    · have hf := M.follows
      rwa [if_neg (fun h => by cases hl.symm.trans h.1)] at hf
    · rw [M.absent (by decide) (by decide)]
    · have henabled : (t.port c).enabled = (s.port c).enabled := by rw [M.port]; rfl
      have hreleasing : (t.port c).releasing = (s.port c).releasing := by rw [M.port]; rfl
      rw [← request_drivesPins hexec, M.frame.power_eq henabled hreleasing]

end Sys2Proof.Machine
end

section
/-! PROOF. The laws of health and of the segment store, first layer: what they read of one camera, and the changes of it that
keep them. Each event of the part is later shown to be a run of such changes. -/

namespace Sys2Proof.Machine

/-! ## What the laws read of a camera -/

/-- What the laws of health, ages, tables and banks read of one camera. -/
structure StoreView where
  link : LinkState
  mode : Option CamMode
  table : List SegEntry
  freeze : Nat
  health : Health
  banks : List BankCell
  contents : List BankCell
  clarity : ClarityState
  params : StoreParams

/-- Camera `c`'s view in a state. -/
def State.storeView (s : State) (c : Cam) : StoreView where
  link := (s.port c).link
  mode := (s.port c).mode
  table := (s.store c).table
  freeze := (s.store c).freeze
  health := (s.store c).health
  banks := (s.store c).banks
  contents := (s.store c).latch.contents
  clarity := (s.clarity c).state
  params := s.params.store

namespace StoreView

/-- The health the view's inputs give (R36). -/
def derived (v : StoreView) : Health := deriveHealth v.link v.freeze (staleOrEmpty v.table) v.clarity v.params

/-- The view with its health re-derived (R37). -/
def settled (v : StoreView) : StoreView := { v with health := v.derived }

def HealthOk (v : StoreView) : Prop := v.health = v.derived

def SegmentOk (v : StoreView) : Prop := ∀ e ∈ v.table, e.AgeLaw v.params.holdLimit

def TableOk (v : StoreView) : Prop :=
  (v.link = .off → v.mode = none) ∧ v.table.length = (v.mode.map modeSegments).getD 0

def BankOk (v : StoreView) : Prop := banksWf v.banks = true ∧ banksWf v.contents = true

/-- The view of a camera whose port has gone OFF (R3, R25, R31, R120). -/
def gone (v : StoreView) : StoreView :=
  { v with link := .off, mode := none, table := [], freeze := 0, clarity := .clear }.settled

/-- The view of a camera whose port is offered mode `m` (R12, R31). -/
def offered (v : StoreView) (m : CamMode) : StoreView :=
  { v with mode := some m, table := if v.mode = some m then v.table else List.replicate (modeSegments m) .blank }

/-- The view after the store's event of a frame close (R29, R35). -/
def closed (v : StoreView) (frame : Byte) (map : List Bool) : StoreView :=
  { v with
    table := v.table.mapIdx fun k (e : SegEntry) => e.close v.params.holdLimit frame (map[k]? = some true)
    freeze := 0 }.settled

/-- The view after SET PARAMETERS of the store group (R30). -/
def limited (v : StoreView) (q : StoreParams) : StoreView :=
  { v with params := q, table := v.table.map fun (e : SegEntry) => e.hold q.holdLimit }.settled

end StoreView

theorem State.healthLaw_iff (s : State) : s.HealthLaw ↔ ∀ c, (s.storeView c).HealthOk := Iff.rfl
theorem State.segmentLaw_iff (s : State) : s.SegmentLaw ↔ ∀ c, (s.storeView c).SegmentOk := Iff.rfl
theorem State.tableLaw_iff (s : State) : s.TableLaw ↔ ∀ c, (s.storeView c).TableOk := Iff.rfl
theorem State.bankLaw_iff (s : State) : s.BankLaw ↔ ∀ c, (s.storeView c).BankOk := Iff.rfl

/-! ## Changes that keep the laws -/

/-- Each of the four laws that holds of `v` holds of `w`. -/
structure LawsKept (v w : StoreView) : Prop where
  health : v.HealthOk → w.HealthOk
  segment : v.SegmentOk → w.SegmentOk
  table : v.TableOk → w.TableOk
  bank : v.BankOk → w.BankOk

theorem LawsKept.refl (v : StoreView) : LawsKept v v := ⟨id, id, id, id⟩

theorem LawsKept.of_eq {v w : StoreView} (h : w = v) : LawsKept v w := h ▸ .refl _

theorem LawsKept.trans {u v w : StoreView} (a : LawsKept u v) (b : LawsKept v w) : LawsKept u w :=
  ⟨b.health ∘ a.health, b.segment ∘ a.segment, b.table ∘ a.table, b.bank ∘ a.bank⟩

/-- A change that ends in a re-derivation has the other three laws to keep. -/
theorem LawsKept.settled {v w : StoreView} (segment : v.SegmentOk → w.SegmentOk) (table : v.TableOk → w.TableOk)
    (bank : v.BankOk → w.BankOk) : LawsKept v w.settled :=
  ⟨fun _ => .refl _, segment, table, bank⟩

/-- Out of OFF and STREAMING the health is ABSENT, whatever the other inputs (R36). -/
theorem StoreView.derived_of_training {v : StoreView} (h : v.link = .training) : v.derived = .absent := by
  rw [derived, h, deriveHealth_absent (by decide) (by decide)]

/-! ### Entries -/

theorem SegEntry.ageLaw_blank (n : Nat) : SegEntry.blank.AgeLaw n := ⟨rfl, rfl⟩

/-- A frame close leaves every entry with the age law (R29). -/
theorem SegEntry.close_ageLaw (e : SegEntry) (n : Nat) (frame : Byte) (good : Bool) : (e.close n frame good).AgeLaw n := by
  unfold SegEntry.close
  split
  · exact rfl
  · split
    case h_1 => exact ageLaw_blank n
    case h_2 hs =>
      simp only [AgeLaw, hs]
      exact Nat.min_le_left ..
    all_goals
      dsimp only
      split
      · next hn => exact ⟨Nat.le_min.mpr ⟨by decide, Nat.le_add_left ..⟩, hn, Nat.min_le_left ..⟩
      · exact Nat.min_le_left ..

/-- A change of HOLD_LIMIT keeps the age law of an entry, by the new limit (R30). -/
theorem SegEntry.AgeLaw.hold {e : SegEntry} {n : Nat} (h : e.AgeLaw n) (m : Nat) : (e.hold m).AgeLaw m := by
  unfold SegEntry.hold
  split
  · next hs =>
    simp only [AgeLaw, hs.1] at h
    exact h.2.2
  · next hs =>
    cases he : e.state with
    | held =>
      simp only [AgeLaw, he] at h ⊢
      exact ⟨h.1, Nat.le_of_not_lt fun hm => hs ⟨he, hm⟩, h.2.2⟩
    | empty | fresh | stale => simpa only [AgeLaw, he] using h

/-! ### The changes -/

section
variable (v : StoreView)

/-- The link state changes, not to OFF; and the freeze count or the clarity state may change (R34, R35, R37, R119). -/
theorem lawsKept_moved {l : LinkState} (h : l = .off → v.link = .off) (freeze : Nat) (cl : ClarityState) :
    LawsKept v { v with link := l, freeze := freeze, clarity := cl }.settled :=
  .settled id (fun ht => ⟨fun hl => ht.1 (h hl), ht.2⟩) id

theorem lawsKept_gone : LawsKept v v.gone :=
  .settled (fun _ _ he => absurd he List.not_mem_nil) (fun _ => ⟨fun _ => rfl, rfl⟩) id

theorem StoreView.SegmentOk.offered {v : StoreView} (h : v.SegmentOk) (m : CamMode) : (v.offered m).SegmentOk := by
  unfold StoreView.offered StoreView.SegmentOk
  dsimp only
  split
  · exact h
  · intro e he
    rw [List.eq_of_mem_replicate he]
    exact SegEntry.ageLaw_blank _

theorem StoreView.offered_table_length {v : StoreView} (h : v.TableOk) (m : CamMode) :
    (v.offered m).table.length = modeSegments m := by
  unfold StoreView.offered
  dsimp only
  split
  · next hm => simpa [hm] using h.2
  · exact List.length_replicate

/-- An offer to a port in TRAINING (R15): its camera is ABSENT before and after. -/
theorem lawsKept_offered {v : StoreView} (hl : v.link = .training) (m : CamMode) : LawsKept v (v.offered m) where
  health h := h.trans ((StoreView.derived_of_training hl).trans
    (StoreView.derived_of_training (v := v.offered m) hl).symm)
  segment h := h.offered m
  table h := ⟨fun h' => absurd (hl.symm.trans h') (by decide), StoreView.offered_table_length h m⟩
  bank := id

/-- An offer with which the port enters TRAINING (R9, R11, R23). -/
theorem lawsKept_retrained (m : CamMode) : LawsKept v { v.offered m with link := .training }.settled :=
  .settled (fun h => h.offered m) (fun h => ⟨nofun, StoreView.offered_table_length h m⟩) id

theorem lawsKept_closed (cl : ClarityState) (frame : Byte) (map : List Bool) :
    LawsKept v ({ v with clarity := cl }.closed frame map) :=
  .settled
    (fun _ e he => by
      obtain ⟨k, hk, rfl⟩ := List.mem_mapIdx.mp he
      exact SegEntry.close_ageLaw ..)
    (fun h => ⟨h.1, List.length_mapIdx.trans h.2⟩) id

theorem lawsKept_limited (q : StoreParams) : LawsKept v (v.limited q) :=
  .settled
    (fun h e he => by
      obtain ⟨x, hx, rfl⟩ := List.mem_map.mp he
      exact (h x hx).hold _)
    (fun h => ⟨h.1, (List.length_map _).trans h.2⟩) id

/-- Clarity is no input of the health of a port that is OFF (R36). -/
theorem lawsKept_cleared {v : StoreView} (hl : v.link = .off) (cl : ClarityState) : LawsKept v { v with clarity := cl } where
  health h := by
    unfold StoreView.HealthOk StoreView.derived at h ⊢
    rw [hl, deriveHealth_off] at h
    dsimp only
    rw [hl, h, deriveHealth_off]
  segment := id
  table := id
  bank := id

theorem lawsKept_written (key : Nat) (body : SegmentBody) :
    LawsKept v { v with banks := writeCell v.banks key body } :=
  ⟨id, id, id, fun h => ⟨banksWf_writeCell h.1 .., h.2⟩⟩

/-- The latch of an output frame start (R40). -/
theorem lawsKept_latched (shown : Vector Bank 50) : LawsKept v { v with contents := shownCells shown v.banks } :=
  ⟨id, id, id, fun h => ⟨h.1, banksWf_shownCells shown h.1⟩⟩

end

end Sys2Proof.Machine
end

section
/-! PROOF. The laws of health and of the segment store, second layer: what each event of a camera link does to the view of its
camera. By `CameraFrame` it leaves the others'. -/

namespace Sys2Proof.Machine

/-! ## Views of two states -/

/-- Each law that holds of a camera in `s` holds of it in `t`. -/
structure StoresKept (s t : State) : Prop where
  camera : ∀ c, LawsKept (s.storeView c) (t.storeView c)

theorem StoresKept.refl (s : State) : StoresKept s s := ⟨fun _ => .refl _⟩

theorem StoresKept.trans {s t u : State} (a : StoresKept s t) (b : StoresKept t u) : StoresKept s u :=
  ⟨fun c => (a.camera c).trans (b.camera c)⟩

theorem StoresKept.foldl {α : Type} {f : State → α → State} (h : ∀ t a, StoresKept t (f t a)) (l : List α) (s : State) :
    StoresKept s (l.foldl f s) := by
  induction l generalizing s with
  | nil => exact .refl _
  | cons a l ih => exact (h s a).trans (ih (f s a))

section
variable {s t : State} (h : StoresKept s t)
include h

theorem StoresKept.healthLaw (hs : s.HealthLaw) : t.HealthLaw :=
  t.healthLaw_iff.mpr fun c => (h.camera c).health (s.healthLaw_iff.mp hs c)

theorem StoresKept.segmentLaw (hs : s.SegmentLaw) : t.SegmentLaw :=
  t.segmentLaw_iff.mpr fun c => (h.camera c).segment (s.segmentLaw_iff.mp hs c)

theorem StoresKept.tableLaw (hs : s.TableLaw) : t.TableLaw :=
  t.tableLaw_iff.mpr fun c => (h.camera c).table (s.tableLaw_iff.mp hs c)

theorem StoresKept.bankLaw (hs : s.BankLaw) : t.BankLaw :=
  t.bankLaw_iff.mpr fun c => (h.camera c).bank (s.bankLaw_iff.mp hs c)

end

/-- The blocks that the views read. -/
def State.cameras (s : State) : Vector Port 4 × Vector CamStore 4 × Vector Clarity 4 × StoreParams :=
  (s.ports, s.stores, s.clarities, s.params.store)

theorem State.storeView_congr {s t : State} (h : t.cameras = s.cameras) (c : Cam) : t.storeView c = s.storeView c := by
  simp only [State.cameras, Prod.mk.injEq] at h
  obtain ⟨hports, hstores, hclarities, hparams⟩ := h
  simp only [State.storeView, State.port, State.store, State.clarity, hports, hstores, hclarities, hparams]

theorem StoresKept.of_cameras {s t : State} (h : t.cameras = s.cameras) : StoresKept s t :=
  ⟨fun c => .of_eq (State.storeView_congr h c)⟩

theorem SelectorOnly.cameras {s t : State} (h : SelectorOnly s t) : t.cameras = s.cameras := by
  simp only [State.cameras, h.ports, h.stores, h.clarities, h.params]

theorem State.refreshHazard_cameras (s : State) : s.refreshHazard.cameras = s.cameras :=
  (congrArg State.cameras s.refreshHazard_rest :)

theorem State.reform_cameras (s : State) : s.reform.cameras = s.cameras := rfl

theorem StoresKept.refreshHazard {s t : State} (h : StoresKept s t) : StoresKept s t.refreshHazard :=
  h.trans (.of_cameras t.refreshHazard_cameras)

theorem CameraFrame.params {c : Cam} {s t : State} (h : CameraFrame c s t) : t.params = s.params :=
  (congrArg State.params h.rest :)

/-- An event of camera `c` has that camera's view to look at. -/
theorem CameraFrame.storesKept {c : Cam} {s t : State} (h : CameraFrame c s t)
    (hc : LawsKept (s.storeView c) (t.storeView c)) : StoresKept s t := by
  refine ⟨fun d => ?_⟩
  by_cases hd : d = c
  · exact hd ▸ hc
  · refine .of_eq ?_
    simp only [State.storeView, h.ports d hd, h.stores d hd, h.clarities d hd, h.params]

/-! ## One entry written, and the health re-derived -/

section
variable {s : State} {c : Cam}

theorem State.storeView_setPort {p : Port} (hl : p.link = (s.port c).link) (hm : p.mode = (s.port c).mode) :
    (s.setPort c p).storeView c = s.storeView c := by
  simp only [State.storeView, State.port_setPort, hl, hm]
  rfl

theorem StoresKept.setPort {p : Port} (hl : p.link = (s.port c).link) (hm : p.mode = (s.port c).mode) :
    StoresKept s (s.setPort c p) :=
  (cameraFrame_setPort ..).storesKept (.of_eq (State.storeView_setPort hl hm))

theorem State.storeView_queueReport (r : Report) : (s.queueReport r).storeView c = s.storeView c := rfl

/-- A port written and a statistics event counted. -/
theorem State.storeView_setPort_count {p : Port} (hl : p.link = (s.port c).link) (hm : p.mode = (s.port c).mode)
    {e : StatEvent} {d : Cam} : ((s.setPort c p).count e d).storeView c = s.storeView c :=
  State.storeView_setPort hl hm

theorem State.storeView_setStore (x : CamStore) : (s.setStore c x).storeView c = { s.storeView c with
    table := x.table, freeze := x.freeze, health := x.health, banks := x.banks, contents := x.latch.contents } := by
  simp only [State.storeView, State.store_setStore]
  rfl

theorem State.storeView_write (i : Nat) (body : SegmentBody) : (s.setStore c ((s.store c).write i body)).storeView c
    = { s.storeView c with
        banks := writeCell (s.storeView c).banks (bankKey i (shownBank (s.store c).shown i).other) body } :=
  State.storeView_setStore _

theorem State.storeView_rederive : (s.rederive c).storeView c = (s.storeView c).settled := by
  simp only [State.storeView, State.rederive_store, State.rederive_port, State.rederive_clarity, State.rederive_params]
  rfl

theorem State.storeView_judgeClarity (cl : Clarity) :
    (s.judgeClarity c cl).storeView c = { s.storeView c with clarity := cl.state }.settled := by
  have hv : (s.setClarity c cl).storeView c = { s.storeView c with clarity := cl.state } := by
    simp only [State.storeView, State.clarity_setClarity]
    rfl
  rw [← hv]
  exact State.storeView_rederive

theorem StoresKept.judgeClarity (cl : Clarity) : StoresKept s (s.judgeClarity c cl) :=
  (cameraFrame_judgeClarity ..).storesKept
    (State.storeView_judgeClarity cl ▸ lawsKept_moved (s.storeView c) (l := (s.storeView c).link) id _ _)

/-! ## Changes of link state (R8, R37) -/

theorem State.storeView_setLink (new : LinkState) (cause : LinkCause) :
    (s.setLink c new cause).storeView c = { s.storeView c with link := new }.settled := by
  simp only [State.storeView, State.setLink_port, State.setLink_store, State.setLink_clarity, State.setLink_params]
  rfl

/-- A change of link state after a state with the same view. -/
theorem lawsKept_setLink {u : State} (hu : u.storeView c = s.storeView c) {new : LinkState} (hn : new ≠ .off)
    {cause : LinkCause} : LawsKept (s.storeView c) ((u.setLink c new cause).storeView c) := by
  rw [State.storeView_setLink, hu]
  exact lawsKept_moved _ (fun h => absurd h hn) _ _

theorem lawsKept_enterRefused {u : State} (hu : u.storeView c = s.storeView c) {cause : LinkCause} :
    LawsKept (s.storeView c) ((u.enterRefused c cause).storeView c) := by
  unfold State.enterRefused
  exact lawsKept_setLink (Eq.trans (State.storeView_setPort (by rfl) (by rfl)) hu) (by decide)

/-! ## Offers (R12, R31) -/

theorem State.storeView_offeredStore (m : CamMode) {p : Port} (hl : p.link = (s.port c).link) (hm : p.mode = some m) :
    ((s.setStore c (s.offeredStore c m)).setPort c p).storeView c = (s.storeView c).offered m := by
  unfold State.offeredStore StoreView.offered
  simp only [State.storeView, State.port_setPort, hl, hm]
  split <;> simp [CamStore.emptied, *]

theorem State.storeView_offer (m : CamMode) : (s.offer c m).storeView c = (s.storeView c).offered m := by
  rw [State.offer_eq]
  exact State.storeView_offeredStore m (by simp [Port.offer]) (by simp [Port.offer])

theorem State.storeView_beginSequence (m : CamMode) :
    (s.beginSequence c m).storeView c = (s.storeView c).offered m := by
  rw [State.beginSequence_eq]
  exact State.storeView_offeredStore m (by simp) (by simp [Port.begun])

/-- A new training sequence of a port that is not in TRAINING yet (R9, R11, R23). -/
theorem lawsKept_retrain {u : State} (hu : u.storeView c = s.storeView c) {m : CamMode} {cause : LinkCause} :
    LawsKept (s.storeView c) (((u.beginSequence c m).setLink c .training cause).storeView c) := by
  rw [State.storeView_setLink, State.storeView_beginSequence, hu]
  exact lawsKept_retrained _ _

/-- A new training sequence of a port in TRAINING (R9, R11). -/
theorem lawsKept_begin {u : State} (hu : u.storeView c = s.storeView c) (hl : (s.port c).link = .training)
    {m : CamMode} :
    LawsKept (s.storeView c) ((u.beginSequence c m).storeView c) := by
  rw [State.storeView_beginSequence, hu]
  exact lawsKept_offered hl _

/-! ## OFF (R17, R31, R120) -/

theorem State.storeView_goOff (cause : LinkCause) : (s.goOff c cause).storeView c = (s.storeView c).gone := by
  have hmode : (s.port c).offValues.mode = none := by simp [Port.offValues, Port.initial]
  unfold State.goOff
  dsimp only
  rw [State.storeView_congr (State.reform_cameras _), State.storeView_setLink]
  simp only [State.storeView, State.mapZonesOf_port, State.mapZonesOf_store, State.mapZonesOf_clarity,
    State.setClarity_port, State.setClarity_store, State.clarity_setClarity, State.setStore_port, State.store_setStore,
    State.setStore_clarity, State.port_setPort, State.setPort_store, State.setPort_clarity, hmode]
  rfl

theorem StoresKept.goOffUnlessOff (cause : LinkCause) : StoresKept s (s.goOffUnlessOff c cause) := by
  unfold State.goOffUnlessOff
  split
  · exact .refl _
  · refine (cameraFrame_goOff ..).storesKept ?_
    rw [State.storeView_goOff]
    exact lawsKept_gone _

theorem StoresKept.leaveOff : StoresKept s (s.leaveOff c) := by
  refine (cameraFrame_leaveOff ..).storesKept ?_
  unfold State.leaveOff
  dsimp only
  split
  · split
    · exact lawsKept_setLink (State.storeView_setPort (by rfl) (by rfl)) (by decide)
    · exact lawsKept_setLink rfl (by decide)
  · exact .refl _

/-! ## Carrier and ANNOUNCE (R10 to R13, R16) -/

theorem StoresKept.gainCarrier : StoresKept s (s.gainCarrier c) := by
  refine (cameraFrame_gainCarrier ..).storesKept ?_
  unfold State.gainCarrier
  dsimp only
  split
  · exact lawsKept_setLink (State.storeView_setPort (by rfl) (by rfl)) (by decide)
  · exact .of_eq (State.storeView_setPort (by rfl) (by rfl))

theorem StoresKept.loseCarrier : StoresKept s (s.loseCarrier c) := by
  refine (cameraFrame_loseCarrier ..).storesKept ?_
  unfold State.loseCarrier
  dsimp only
  split
  case h_1 | h_2 => exact lawsKept_setLink (State.storeView_setPort (by rfl) (by rfl)) (by decide)
  case h_3 | h_4 => exact lawsKept_setLink (State.storeView_setPort_count (by rfl) (by rfl)) (by decide)
  all_goals exact .of_eq (State.storeView_setPort (by rfl) (by rfl))

theorem StoresKept.announceArrives (r : AnnounceRecord) (good : Bool) : StoresKept s (s.announceArrives c r good) := by
  refine (cameraFrame_announceArrives ..).storesKept ?_
  unfold State.announceArrives
  dsimp only
  split
  · unfold State.takeAnnounce
    dsimp only
    split
    · exact lawsKept_enterRefused (State.storeView_setPort (by rfl) (by rfl))
    · split
      · next hl => exact lawsKept_begin (State.storeView_setPort (by rfl) (by rfl)) hl
      · exact lawsKept_retrain (State.storeView_setPort (by rfl) (by rfl))
  · exact .refl _

theorem StoresKept.announceExpires : StoresKept s (s.announceExpires c) := by
  refine (cameraFrame_announceExpires ..).storesKept ?_
  unfold State.announceExpires
  dsimp only
  split
  · split
    · exact .of_eq (State.storeView_setPort (by simp) (by simp))
    · exact lawsKept_enterRefused (State.storeView_setPort (by rfl) (by rfl))
  · exact .refl _

theorem StoresKept.takePreference (ms : List CamMode) : StoresKept s (s.takePreference c ms) := by
  refine (cameraFrame_takePreference ..).storesKept ?_
  unfold State.takePreference
  dsimp only
  split
  · next hl =>
    split
    · exact lawsKept_enterRefused (State.storeView_setPort (by rfl) (by rfl))
    · split
      · exact lawsKept_retrain (State.storeView_setPort (by rfl) (by rfl))
      · next hs => exact lawsKept_begin (State.storeView_setPort (by rfl) (by rfl)) (hl.1.resolve_right hs)
  · exact .of_eq (State.storeView_setPort (by rfl) (by rfl))

/-! ## Training (R14, R15) -/

/-- The judgement of an attempt of a port in TRAINING (R15). -/
theorem StoresKept.judgeAttempt (hl : (s.port c).link = .training) : StoresKept s (s.judgeAttempt c) := by
  refine (cameraFrame_judgeAttempt ..).storesKept ?_
  unfold State.judgeAttempt
  dsimp only
  split
  · rw [State.storeView_setLink, State.storeView_setStore, State.storeView_setPort (by simp [Port.abandon])
      (by simp [Port.abandon])]
    exact lawsKept_moved (s.storeView c) (l := .streaming) nofun 0 _
  · have hretry : ((s.setPort c (Port.issue { s.port c with trainTimer := none } .retry)).count .retrain c).storeView c
        = s.storeView c := State.storeView_setPort (by simp) (by simp)
    split
    · split
      · exact .of_eq hretry
      · next m _ =>
        refine .trans (v := State.storeView (State.offer _ c _) c) ?_ (.of_eq (State.storeView_setPort (by rfl) (by rfl)))
        rw [State.storeView_offer, hretry]
        exact lawsKept_offered hl _
    · exact lawsKept_enterRefused hretry

theorem StoresKept.trainSegment (i : Nat) (good : Bool) : StoresKept s (s.trainSegment c i good) := by
  unfold State.trainSegment
  dsimp only
  split
  · exact .refl _
  · next hl =>
    split
    · exact .setPort (by rfl) (by rfl)
    · split
      · refine .trans ?_ (.judgeAttempt ?_)
        · exact .setPort (by rfl) (by rfl)
        · rw [State.port_setPort]
          exact not_not.mp hl
      · exact .setPort (by rfl) (by rfl)

theorem StoresKept.trainExpires : StoresKept s (s.trainExpires c) := by
  unfold State.trainExpires
  dsimp only
  split
  · next hl =>
    refine .trans ?_ (.judgeAttempt ?_)
    · exact .setPort (by rfl) (by rfl)
    · rw [State.port_setPort]
      exact hl.1
  · exact .refl _

theorem StoresKept.backRecordSent : StoresKept s (s.backRecordSent c) := by
  unfold State.backRecordSent
  dsimp only
  split
  · exact .refl _
  · exact .setPort (by rfl) (by rfl)

/-! ## Frames (R18 to R23) -/

/-- The view after a frame close, but for the downgrade judgement (R29, R35, R37). -/
theorem State.storeView_closed : (s.closed c).storeView c = { s.storeView c with
    clarity := ((s.measured c).clarityClose c).state }.closed (s.port c).frameNumber (s.port c).resultMap := by
  have F := s.closed_frameClosed c
  simp only [State.storeView, F.link, F.mode, F.clarity, F.store, F.params]
  rfl

theorem StoresKept.judgeFrame : StoresKept s (s.judgeFrame c) := by
  refine (cameraFrame_judgeFrame ..).storesKept ?_
  unfold State.judgeFrame
  dsimp only
  split
  · exact .of_eq (State.storeView_setPort (by rfl) (by rfl))
  · split
    · exact .of_eq (State.storeView_setPort (by rfl) (by rfl))
    · split
      · exact lawsKept_retrain (State.storeView_setPort_count (by rfl) (by rfl))
      · exact .of_eq (Eq.trans (State.storeView_queueReport _) (State.storeView_setPort (by rfl) (by rfl)))

theorem StoresKept.frameClose : StoresKept s (s.frameClose c) := by
  rw [State.frameClose_eq]
  refine .trans ((cameraFrame_closed ..).storesKept ?_) .judgeFrame
  rw [State.storeView_closed]
  exact lawsKept_closed (s.storeView c) _ _ _

theorem StoresKept.count (e : StatEvent) (d : Cam) : StoresKept s (s.count e d) := .of_cameras rfl

theorem StoresKept.trailerArrives (n : Byte) (good : Bool) : StoresKept s (s.trailerArrives c n good) := by
  unfold State.trailerArrives
  dsimp only
  split
  · exact .refl _
  · split
    · exact .count ..
    · split
      · exact .refl _
      · split
        · exact .frameClose
        · exact .trans (.count ..) .frameClose

theorem State.storeView_takeSegment (i : Nat) (body : SegmentBody) (good : Bool) :
    (s.takeSegment c i body good).storeView c = { s.storeView c with
      banks := writeCell (s.storeView c).banks (bankKey i (shownBank (s.store c).shown i).other) body } := by
  rw [← State.storeView_write]
  exact Eq.trans (State.storeView_setPort (by rfl) (by rfl)) (State.storeView_congr (by rfl) c)

theorem StoresKept.segmentArrives (i : Nat) (body : SegmentBody) (good : Bool) :
    StoresKept s (s.segmentArrives c i body good) := by
  refine (cameraFrame_segmentArrives ..).storesKept ?_
  unfold State.segmentArrives
  dsimp only
  split
  · exact .refl _
  · split
    · exact .refl _
    · exact .refl _
    · split
      · exact .refl _
      · rw [State.storeView_takeSegment]
        exact lawsKept_written ..

/-! ## Headers (R18, R89) -/

/-- Pending changes reach the views through the clarity states they clear (R120). -/
theorem StoresKept.applyChanges : StoresKept s (s.applyChanges c) := by
  rw [State.applyChanges_eq]
  refine StoresKept.refreshHazard (.trans (.of_cameras (t := s.changed c) ?_) (.foldl (fun t k => ?_) allCams _))
  · simp only [State.cameras, State.changed_stores, State.changed_clarities]
    rfl
  · split
    · exact .judgeClarity _
    · exact .refl _

theorem StoresKept.headerTaken {p : Port} (hl : p.link = (s.port c).link) (hm : p.mode = (s.port c).mode)
    {ws : Vector Window 16} {k : Control} : StoresKept s (s.headerTaken c p ws k) :=
  .trans (.setPort hl hm) (.of_cameras rfl)

theorem StoresKept.openFrame (h : HeaderRecord) (m : CamMode) : StoresKept s (s.openFrame c h m) := by
  rw [State.openFrame_eq]
  exact .headerTaken (by rfl) (by rfl)

theorem StoresKept.takeHeader (h : HeaderRecord) : StoresKept s (s.takeHeader c h) := by
  unfold State.takeHeader
  dsimp only
  have hclose : StoresKept s (if (s.port c).phase = .opened then (s.count .frameTruncated c).frameClose c else s) := by
    split
    · exact .trans (.count ..) .frameClose
    · exact .refl _
  generalize (if (s.port c).phase = .opened then (s.count .frameTruncated c).frameClose c else s) = t at hclose
  have hignore : ∀ u : State, StoresKept u (u.ignoreFrame c) := fun u => u.ignoreFrame_eq c ▸ .headerTaken (by rfl) (by rfl)
  split
  · exact hclose
  · refine hclose.trans (.trans (StoresKept.applyChanges (c := c)) ?_)
    split
    · split
      · exact .openFrame ..
      · exact hignore _
    · exact hignore _

theorem StoresKept.headerArrives (h : HeaderRecord) (good : Bool) : StoresKept s (s.headerArrives c h good) := by
  unfold State.headerArrives
  split
  · exact .refl _
  · split
    · exact .takeHeader h
    · exact .count ..

end

end Sys2Proof.Machine
end

section
/-! PROOF. Stores changed camera by camera, each with its health re-derived: what SET PARAMETERS of the store group and the
output frame start have in common (R30, R34, R37). -/

namespace Sys2Proof.Machine

/-- The store of camera `c` changed by `f`, which may read the link state, and the health re-derived (R37). -/
def State.settleStore (f : CamStore → LinkState → CamStore) (s : State) (c : Cam) : State :=
  (s.setStore c (f (s.store c) (s.port c).link)).rederive c

/-- `t` is `s` with the store of every camera of `l` changed by `f`, its health re-derived and reported in the order of `l`. -/
structure StoresSettled (f : CamStore → LinkState → CamStore) (l : List Cam) (s t : State) : Prop where
  store : ∀ c ∈ l, t.store c =
    let x := f (s.store c) (s.port c).link
    { x with health := s.healthWith c x (s.clarity c).state }
  still : ∀ c ∉ l, t.store c = s.store c
  control : t.control = s.control.queueAll (l.flatMap (healthReport s t))
  rest : { t with stores := s.stores, cadence := s.cadence, control := s.control } = s
  beside : Beside s t

namespace StoresSettled

section
variable {f : CamStore → LinkState → CamStore} {l r : List Cam} {s t u : State}

theorem nil : StoresSettled f [] s s where
  store _ h := absurd h List.not_mem_nil
  still _ _ := rfl
  control := rfl
  rest := rfl
  beside := .rfl

theorem ports (h : StoresSettled f l s t) : t.ports = s.ports := (congrArg State.ports h.rest :)
theorem clarities (h : StoresSettled f l s t) : t.clarities = s.clarities := (congrArg State.clarities h.rest :)
theorem params (h : StoresSettled f l s t) : t.params = s.params := (congrArg State.params h.rest :)
theorem port (h : StoresSettled f l s t) (c : Cam) : t.port c = s.port c := by simp only [State.port, h.ports]
theorem clarity (h : StoresSettled f l s t) (c : Cam) : t.clarity c = s.clarity c := by simp only [State.clarity, h.clarities]

theorem healthWith (h : StoresSettled f l s t) : t.healthWith = s.healthWith := by
  funext c x cl
  simp only [State.healthWith, h.port, h.params]

/-- One camera. -/
theorem one (hf : ∀ x k, (f x k).health = x.health) (s : State) (c : Cam) : StoresSettled f [c] s (s.settleStore f c) where
  store d hd := by
    obtain rfl := List.mem_singleton.mp hd
    rw [State.settleStore, State.rederive_store, State.store_setStore, State.healthOf, State.store_setStore]
    rfl
  still d hd := ((cameraFrame_setStore ..).trans (cameraFrame_rederive ..)).stores d fun h => hd (List.mem_singleton.mpr h)
  control := by
    rw [State.settleStore, State.rederive_control, State.healthChange_eq_healthReport, List.flatMap_singleton,
      healthReport_congr (s := s) (by rw [State.store_setStore, hf]) rfl]
    rfl
  rest := by
    unfold State.settleStore
    exact (congrArg (fun v : State => { v with stores := s.stores, cadence := s.cadence, control := s.control })
      (State.rederive_rest (s.setStore c _) c) :)
  beside := by
    unfold State.settleStore
    exact Beside.trans (.of_eq (by rfl) (by rfl)) (beside_rederive ..)

/-- Different cameras, one after another. -/
theorem append (a : StoresSettled f l s t) (b : StoresSettled f r t u) (h : ∀ c ∈ l, c ∉ r) :
    StoresSettled f (l ++ r) s u where
  store c hc := by
    rcases List.mem_append.mp hc with hl | hr
    · rw [b.still c (h c hl), a.store c hl]
    · rw [b.store c hr, a.still c fun hl => h c hl hr, a.port, a.clarity, a.healthWith]
  still c hc := by
    rw [List.mem_append, not_or] at hc
    rw [b.still c hc.2, a.still c hc.1]
  control := by
    have hl : l.flatMap (healthReport s t) = l.flatMap (healthReport s u) :=
      List.flatMap_congr fun c hc => by simp only [healthReport, b.still c (h c hc)]
    have hr : r.flatMap (healthReport t u) = r.flatMap (healthReport s u) :=
      List.flatMap_congr fun c hc => by simp only [healthReport, a.still c fun hl => h c hl hc]
    rw [b.control, a.control, ← Control.queueAll_append, hl, hr, List.flatMap_append]
  rest := by rw [← a.rest, ← b.rest]
  beside := a.beside.trans b.beside

theorem foldl (hf : ∀ x k, (f x k).health = x.health) {l : List Cam} (hl : l.Nodup) (s : State) :
    StoresSettled f l s (l.foldl (State.settleStore f) s) := by
  induction l generalizing s with
  | nil => exact nil
  | cons c l ih =>
    obtain ⟨hc, hl⟩ := List.nodup_cons.mp hl
    exact (one hf s c).append (ih hl _) fun d hd hmem => hc (List.mem_singleton.mp hd ▸ hmem)

/-- Once every camera is settled, the law of health holds, whatever held before (R36). -/
theorem healthLaw (h : StoresSettled f l s t) (hl : ∀ c, c ∈ l) : t.HealthLaw := by
  intro c
  rw [State.healthOf, h.port, h.clarity, h.params, h.store c (hl c)]
  rfl

end

end StoresSettled

theorem mem_allCams (c : Cam) : c ∈ allCams := by
  revert c
  decide

end Sys2Proof.Machine
end

section
/-! PROOF. SET PARAMETERS of the store group (R30, R37, R170). -/

namespace Sys2Proof.Machine

/-- The state with the store group's parameters and the HELD entries above the limit STALE, before health follows (R30). -/
def State.limited (s : State) (q : StoreParams) : State :=
  { s with
    params := { s.params with store := q }
    stores := mapTable (fun st => { st with table := st.table.map fun e => e.hold q.holdLimit }) s.stores }

/-- Where nothing but the health follows, settling a store is a re-derivation. -/
theorem settleStore_keep (s : State) (c : Cam) : s.settleStore (fun x _ => x) c = s.rederive c := by
  rw [State.settleStore, State.setStore_store]

theorem setParametersStore_eq (p : StoreParams) (s : State) : setParametersStore p s =
    ⟨statusOf (clampStore p ≠ p), .store (clampStore p),
      allCams.foldl (State.settleStore fun x _ => x) (s.limited (clampStore p))⟩ := by
  have hstep : State.settleStore (fun x _ => x) = fun t c => t.rederive c := by
    funext t c
    exact settleStore_keep t c
  rw [hstep]
  rfl

/-- What the request's effect leaves of a state. -/
theorem limited_settled (s : State) (q : StoreParams) : StoresSettled (fun x _ => x) allCams (s.limited q)
    (allCams.foldl (State.settleStore fun x _ => x) (s.limited q)) :=
  .foldl (fun _ _ => rfl) (by decide) _

@[simp] theorem State.limited_store (s : State) (q : StoreParams) (c : Cam) : (s.limited q).store c =
    { s.store c with table := (s.store c).table.map fun e => e.hold q.holdLimit } := look_mapTable ..

/-- The stores after the request: the tables by the new limit, and the health that follows. -/
theorem limited_settled_store {s t : State} {q : StoreParams} (h : StoresSettled (fun x _ => x) allCams (s.limited q) t)
    (c : Cam) : ∃ x, t.store c = { s.store c with table := (s.store c).table.map fun e => e.hold q.holdLimit, health := x } :=
  ⟨_, (h.store c (mem_allCams c)).trans (by rw [State.limited_store])⟩

theorem StoresKept.setParametersStore (p : StoreParams) (s : State) : StoresKept s (setParametersStore p s).state := by
  rw [setParametersStore_eq]
  have h := limited_settled s (clampStore p)
  generalize allCams.foldl (State.settleStore fun x _ => x) (s.limited (clampStore p)) = t at h
  refine ⟨fun c => ?_⟩
  have hv : t.storeView c = (s.storeView c).limited (clampStore p) := by
    simp only [State.storeView, h.port, h.clarity, h.params, h.store c (mem_allCams c), State.limited_store]
    rfl
  rw [hv]
  exact lawsKept_limited ..

theorem clampStore_eq (p : StoreParams) : clampStore p =
    ⟨min 8 (max 1 p.holdLimit), min 50 (max 1 p.degradeLimit), min 15 (max 2 p.freezeLimit)⟩ := rfl

theorem statusOf_ne {α : Type} [DecidableEq α] (q p : α) :
    statusOf (decide (q ≠ p)) = if q = p then .ok else .okClamped := by
  by_cases h : q = p <;> simp [statusOf, h]

/-- Settles O29: the tables and the reports of the request's effect, behind its reply. -/
theorem storeParametersAgeTheTables : Obligations.StoreParametersAgeTheTables := by
  intro s tag p q ht hq
  rw [← clampStore_eq] at hq
  subst hq
  have hreports : ∀ k, (allCams.foldl (State.settleStore fun x _ => x)
        (State.limited { s with control := k } (clampStore p))).control = k.queueAll
      (allCams.flatMap (healthReport s (allCams.foldl (State.settleStore fun x _ => x)
        (State.limited { s with control := k } (clampStore p))))) := fun k => by
    have h := (limited_settled { s with control := k } (clampStore p)).control
    rw [h]
    refine congrArg _ (List.flatMap_congr fun c _ => healthReport_congr ?_ rfl)
    rw [State.limited_store]
    rfl
  obtain ⟨k, hrate, hrx, hexec⟩ := request_reports ht (kind := 0x03) (tag := tag)
    (fun k => setParametersStore_eq p { s with control := k }) hreports
  have h := limited_settled { s with control := k } (clampStore p)
  generalize allCams.foldl (State.settleStore fun x _ => x) (State.limited { s with control := k } (clampStore p)) = u
    at h hexec
  have hstore := limited_settled_store h
  refine ⟨_, hexec, h.params, fun c => ?_, h.healthLaw mem_allCams, fun c => ?_, ?_, ?_, ?_, ?_, ?_, ?_, ?_⟩
  · obtain ⟨x, hx⟩ := hstore c
    rw [State.drivePins_store]
    exact (congrArg CamStore.table hx :)
  · obtain ⟨x, hx⟩ := hstore c
    rw [State.drivePins_store]
    exact (congrArg (fun st : CamStore => { st with table := (s.store c).table, health := (s.store c).health }) hx :)
  · exact (congrArg (fun v : State => { v with
      params := s.params, stores := s.stores, cadence := s.cadence, control := s.control, pins := s.pins }) h.rest :)
  · rw [← statusOf_ne]
    rfl
  · exact (Control.queueAll_rate ..).trans (Control.replied_rate ..)
  · exact (Control.queueAll_rx ..).trans (Control.replied_rx ..)
  · exact h.beside.blink
  · exact h.beside.buzz
  · exact h.beside.phase

end Sys2Proof.Machine
end

section
/-! PROOF. The output frame start, stage by stage (R34, R40, R69 to R72, R112, R129, R143 to R145, R159, R168). -/

namespace Sys2Proof.Machine

/-! ## Freeze counts, health and the store's latch (R34, R37, R40) -/

/-- The freeze counts raised and the health that follows, before the latch. -/
def State.raised (s : State) : State := allCams.foldl (State.settleStore CamStore.raiseFreeze) s

@[simp] theorem CamStore.raiseFreeze_health (st : CamStore) (l : LinkState) : (st.raiseFreeze l).health = st.health := by
  unfold CamStore.raiseFreeze; split <;> rfl

theorem CamStore.raiseFreeze_eq (st : CamStore) (l : LinkState) : st.raiseFreeze l =
    { st with freeze := if l = .streaming then min 15 (st.freeze + 1) else st.freeze } := by
  unfold CamStore.raiseFreeze; split <;> rfl

theorem State.raised_settled (s : State) : StoresSettled CamStore.raiseFreeze allCams s s.raised :=
  .foldl CamStore.raiseFreeze_health (by decide) s

theorem State.storeFrameStart_eq (s : State) : s.storeFrameStart =
    { s.raised with stores := Vector.ofFn fun c => (s.raised.store c).takeLatch (s.raised.port c).mode } := rfl

theorem State.storeFrameStart_store (s : State) (c : Cam) : ∃ h, s.storeFrameStart.store c = CamStore.takeLatch
    { s.store c with
      freeze := if (s.port c).link = .streaming then min 15 ((s.store c).freeze + 1) else (s.store c).freeze
      health := h } (s.port c).mode := by
  have h := s.raised_settled
  refine ⟨s.healthWith c ((s.store c).raiseFreeze (s.port c).link) (s.clarity c).state, ?_⟩
  rw [State.storeFrameStart_eq]
  refine (look_ofFn ..).trans ?_
  rw [h.store c (mem_allCams c), h.port, CamStore.raiseFreeze_eq]

theorem State.storeFrameStart_rest (s : State) :
    { s.storeFrameStart with stores := s.stores, cadence := s.cadence, control := s.control } = s := by
  have hrest := s.raised_settled.rest
  rw [State.storeFrameStart_eq]
  generalize s.raised = r at hrest ⊢
  exact hrest

theorem State.storeFrameStart_control (s : State) : s.storeFrameStart.control
    = s.control.queueAll (allCams.flatMap (healthReport s s.storeFrameStart)) := by
  have hcontrol := s.raised_settled.control
  rw [State.storeFrameStart_eq]
  generalize s.raised = r at hcontrol ⊢
  refine hcontrol.trans (congrArg _ (List.flatMap_congr fun c _ => ?_))
  have hlatch : ({ r with stores := Vector.ofFn fun c => (r.store c).takeLatch (r.port c).mode }).store c
      = (r.store c).takeLatch (r.port c).mode := look_ofFn ..
  unfold healthReport
  rw [hlatch]
  rfl

theorem State.storeFrameStart_beside (s : State) : Beside s s.storeFrameStart := by
  have hbeside := s.raised_settled.beside
  rw [State.storeFrameStart_eq]
  generalize s.raised = r at hbeside ⊢
  exact hbeside.trans (.of_eq rfl rfl)

/-- A bank is latched where it is the shown one (R40). -/
theorem readCell_shownCells (shown : Vector Bank 50) (banks : List BankCell) (segment : Nat) (bank : Bank) :
    readCell (shownCells shown banks) (bankKey segment bank)
      = if bank = shownBank shown segment then readCell banks (bankKey segment bank) else none := by
  have hkey : bankKey segment bank / 2 = segment := by cases bank <;> simp only [bankKey] <;> omega
  have hiff : bankKey segment bank = bankKey segment (shownBank shown segment) ↔ bank = shownBank shown segment :=
    ⟨fun h => (bankKey_inj h).2, fun h => congrArg _ h⟩
  induction banks with
  | nil => simp [shownCells, readCell]
  | cons x banks ih =>
    unfold shownCells at ih ⊢
    by_cases hx : x.key = bankKey segment bank
    · by_cases hb : bank = shownBank shown segment
      · rw [List.filter_cons_of_pos (by simpa [hx, hkey] using hiff.mpr hb), if_pos hb, readCell, readCell, if_pos hx,
          if_pos hx]
      · rw [List.filter_cons_of_neg (by simpa [hx, hkey] using mt hiff.mp hb), ih, if_neg hb, if_neg hb]
    · rw [List.filter_cons]
      split
      · rw [readCell, if_neg hx, ih, readCell, if_neg hx]
      · rw [ih, readCell, if_neg hx]

/-! ## The apply (R69) -/

theorem State.applyAtStart_eq (s : State) : s.applyAtStart =
    { s with
      views := { s.views with
        live := if s.views.applyPending then s.views.edit else s.views.live, applyPending := false }
      control := s.control.queueAll (if s.views.applyPending then [.tablesLive] else []) } := by
  unfold State.applyAtStart
  split
  · rfl
  · next h =>
    have hviews : { s.views with applyPending := false } = s.views := by
      rw [← Bool.eq_false_iff.mpr h]
    rw [hviews]
    rfl

/-! ## The shown view (R143 to R145) -/

theorem Selector.mayChange_iff (sel : Selector) : sel.mayChange = true ↔
    sel.dwell = none ∨ sel.situation ∈ [Situation.noData, .reverse, .lift] ∨ sel.forceChange = true := by
  simp [Selector.mayChange, or_assoc]

/-- The shown view from an output frame start on, with the live tables of that start (R143). -/
def Selector.shownNext (sel : Selector) (live : Tables) : ViewId :=
  if sel.mayChange then requestedView sel live else sel.shown

/-- The view dwell timer from an output frame start on (R144). -/
def Selector.dwellNext (sel : Selector) (live : Tables) (ms : Nat) : Option Nat :=
  if sel.mayChange ∧ requestedView sel live ≠ sel.shown then startDwell ms else sel.dwell

/-- The selector from an output frame start on (R143 to R145). -/
def Selector.following (sel : Selector) (live : Tables) (ms : Nat) : Selector :=
  { sel with
    shown := sel.shownNext live
    dwell := sel.dwellNext live ms
    forceChange := false
    latch := ⟨sel.situation, sel.shownNext live, sel.vehicle.gear, sel.vehicle.kerb, isMoving sel.vehicle⟩ }

/-- The VIEW report of a change of the shown view (R143, R168). -/
def viewReport (sel : Selector) (shown : ViewId) : List Report :=
  if shown = sel.shown then [] else [.view shown sel.situation sel.force.isSome]

section
variable {sel : Selector} {live : Tables}

theorem Selector.shownNext_changed (h : requestedView sel live ≠ sel.shown ∧ sel.mayChange = true) (ms : Nat) :
    sel.shownNext live = requestedView sel live ∧ sel.dwellNext live ms = startDwell ms :=
  ⟨if_pos h.2, if_pos ⟨h.2, h.1⟩⟩

theorem Selector.shownNext_kept (h : ¬(requestedView sel live ≠ sel.shown ∧ sel.mayChange = true)) (ms : Nat) :
    sel.shownNext live = sel.shown ∧ sel.dwellNext live ms = sel.dwell := by
  refine ⟨?_, if_neg fun hm => h ⟨hm.2, hm.1⟩⟩
  unfold Selector.shownNext
  split
  · next hm => exact not_not.mp fun hw => h ⟨hw, hm⟩
  · rfl

end

theorem State.showView_eq (s : State) : s.showView =
    { s with
      selector := s.selector.following s.views.live s.params.situation.viewMinDwell
      control := s.control.queueAll (viewReport s.selector (s.selector.shownNext s.views.live)) } := by
  unfold State.showView Selector.following viewReport
  dsimp only
  split
  · next h =>
    obtain ⟨hshown, hdwell⟩ := Selector.shownNext_changed h s.params.situation.viewMinDwell
    rw [hshown, hdwell, if_neg h.1]
    rfl
  · next h =>
    obtain ⟨hshown, hdwell⟩ := Selector.shownNext_kept h s.params.situation.viewMinDwell
    rw [hshown, hdwell, if_pos rfl]
    rfl

/-! ## The source choice (R71) -/

/-- PANE_ALT counted for a slot whose alternate is chosen (R71). -/
def Control.countChosen (k : Control) : Option ChosenSource → Control
  | some ⟨source, true⟩ => k.countEvents .paneAlt (some source.camera) 1
  | _ => k

theorem State.countAlternate_eq (s : State) (x : Option ChosenSource) :
    s.countAlternate x = { s with control := s.control.countChosen x } := by
  unfold State.countAlternate
  split
  · rfl
  · next h =>
    have hk : s.control.countChosen x = s.control := by
      unfold Control.countChosen
      split
      · next source => exact absurd rfl (h source)
      · rfl
    rw [hk]

theorem State.foldl_countAlternate (l : List (Option ChosenSource)) (s : State) :
    l.foldl State.countAlternate s = { s with control := l.foldl Control.countChosen s.control } := by
  induction l generalizing s with
  | nil => rfl
  | cons x l ih => rw [List.foldl_cons, ih, State.countAlternate_eq, List.foldl_cons]

/-- The source choice writes the choice and counts PANE_ALT, and nothing else. -/
theorem State.chooseSources_eq (s : State) (v : ViewId) : ∃ choice, s.chooseSources v =
    { s with
      views := { s.views with choice := choice }
      control := choice.toList.foldl Control.countChosen s.control } :=
  ⟨_, State.foldl_countAlternate ..⟩

/-! ## The whole start (R72) -/

/-- The output frame start after the segment store's event. -/
def State.drawn (r : State) : State :=
  let s1 := r.applyAtStart.showView
  let s2 := { s1 with display := s1.outputLatch }
  (s2.chooseSources s2.display.latch.shown).drawLatches

theorem State.frameStart_eq (s : State) : s.frameStart = s.storeFrameStart.drawn := rfl

/-- The tables that are live from an output frame start on (R69). -/
def State.liveNext (s : State) : Tables := if s.views.applyPending then s.views.edit else s.views.live

/-- The apply, the shown view, the choice and the latches, all at once. -/
theorem State.drawn_eq (r : State) : ∃ choice, r.drawn =
    { r with
      views := { r.views with live := r.liveNext, applyPending := false, choice := choice }
      tones := mapTable Tone.takeLatch r.tones
      zones := r.zoneLatch
      selector := r.selector.following r.liveNext r.params.situation.viewMinDwell
      shapes := { r.shapes with latched := r.shapes.shapes }
      cadence := r.cadence.takeLatch
      control := choice.toList.foldl Control.countChosen (r.control.queueAll
        ((if r.views.applyPending then [.tablesLive] else []) ++ viewReport r.selector (r.selector.shownNext r.liveNext)))
      display := { r.display with
        counter := r.display.counter + 1
        latch := ⟨r.mode, r.selector.shownNext r.liveNext, r.selector.situation, r.zones.hazard,
          r.zoneLatch.latchedZones⟩ } } := by
  unfold State.drawn
  dsimp only
  rw [State.applyAtStart_eq, State.showView_eq]
  dsimp only
  rw [Control.queueAll_append]
  obtain ⟨choice, hchoice⟩ := State.chooseSources_eq _ _
  refine ⟨choice, (congrArg State.drawLatches hchoice).trans ?_⟩
  rfl

/-- A state that differs in stores, cadence channels and control link alone. -/
theorem State.eq_of_rest {s r : State} (h : { r with stores := s.stores, cadence := s.cadence, control := s.control } = s) :
    r = { s with stores := r.stores, cadence := r.cadence, control := r.control } :=
  (congrArg (fun v : State => { v with stores := r.stores, cadence := r.cadence, control := r.control }) h :)

/-- Settles O43. The segment store's event touches the stores, the cadence channels and the reports; on its outcome the other
stages are one written-out record (`State.drawn_eq`). -/
theorem outputFrameStart : Obligations.OutputFrameStart := by
  intro s hs
  refine ⟨s.frameStart.drivePins, unlessHeld_live hs _, ?_⟩
  have hstore := s.storeFrameStart_store
  have hrest := s.storeFrameStart_rest
  have hcontrol := s.storeFrameStart_control
  obtain ⟨-, -, hblink, hbuzz, -⟩ := s.storeFrameStart_beside
  rw [s.frameStart_eq]
  generalize s.storeFrameStart = r at hstore hrest hcontrol hblink hbuzz ⊢
  obtain ⟨choice, hdrawn⟩ := r.drawn_eq
  rw [hdrawn]
  clear hdrawn
  obtain ⟨x, y, k, rfl⟩ : ∃ x y k, r = { s with stores := x, cadence := y, control := k } := ⟨_, _, _, State.eq_of_rest hrest⟩
  dsimp only at hstore hcontrol hblink hbuzz ⊢
  refine ⟨rfl, rfl, rfl, rfl, ⟨?_, ?_⟩, rfl, rfl, rfl, rfl, rfl, fun c => ?_, fun c => ?_, rfl, rfl, rfl, hblink, hbuzz, ?_, rfl⟩
  · exact if_congr s.selector.mayChange_iff rfl rfl
  · exact if_congr (and_congr_left fun _ => s.selector.mayChange_iff) rfl rfl
  · obtain ⟨h, hc⟩ := hstore c
    refine hc ▸ ⟨rfl, rfl, rfl, rfl, rfl, readCell_shownCells _ _, rfl⟩
  · exact look_mapTable ..
  · rw [List.append_assoc]
    exact congrArg (fun q => List.foldl Control.countChosen q choice.toList)
      ((congrArg (Control.queueAll · _) hcontrol).trans (Control.queueAll_append ..).symm)

end Sys2Proof.Machine
end

section
/-! PROOF. What the requests that touch one block leave: the block put back, the state is the one before. -/

namespace Sys2Proof.Machine

section
variable (s : State)

/-! ## Windows, zones and READ METER (R86, R88, R98) -/

theorem windowSet_rest (f : WindowFields) : { (windowSet f s).state with windows := s.windows } = s := by
  unfold windowSet
  dsimp only
  split
  · rfl
  · repeat' split
    all_goals rfl

theorem windowDrop_rest (id : Nat) : { (windowDrop id s).state with windows := s.windows } = s := by
  unfold windowDrop
  dsimp only
  split
  · rfl
  · split <;> rfl

@[simp] theorem readMeter_state (id : Nat) : (readMeter id s).state = s := by
  unfold readMeter
  split <;> rfl

/-! ## Cadence channels (R154, R157) -/

theorem setChannel_rest (id : ChannelId) (ch : Channel) : { s.setChannel id ch with cadence := s.cadence } = s := by
  cases id <;> rfl

theorem setParametersCadence_rest (f : CadenceFields) :
    { (setParametersCadence f s).state with cadence := s.cadence } = s := by
  unfold setParametersCadence
  split
  · rfl
  · exact setChannel_rest ..

/-! ## Tone, seams, clarity and cameras (R101, R109, R116, R173) -/

theorem setParametersTone_rest (f : ToneFields) : { (setParametersTone f s).state with tones := s.tones } = s := by
  unfold setParametersTone
  split <;> rfl

theorem seamSet_rest (f : SeamFields) : { (seamSet f s).state with seams := s.seams } = s := by
  unfold seamSet
  split
  · split <;> rfl
  · rfl

/-- The clarity group changes a camera's clarity entry, its state apart (R116). -/
theorem setParametersClarity_eq (f : ClarityFields) : (setParametersClarity f s).state = s ∨
    ∃ c cl, cl.state = (s.clarity c).state ∧ (setParametersClarity f s).state = s.setClarity c cl := by
  unfold setParametersClarity
  split
  · exact .inl rfl
  · split
    · exact .inl rfl
    · refine .inr ⟨_, _, ?_, rfl⟩
      dsimp only
      split <;> rfl

@[simp] theorem readCamera_state (camera : Nat) : (readCamera camera s).state = s := by
  unfold readCamera
  split <;> rfl

/-! ## Grids and shapes (R45 to R48, R147, R148) -/

theorem gridBegin_rest (f : GridBeginFields) : { (gridBegin f s).state with grids := s.grids } = s := by
  unfold gridBegin
  split
  · rfl
  · split
    · rfl
    · split
      · rfl
      · split <;> rfl

theorem gridNodes_rest (f : GridNodesFields) : { (gridNodes f s).state with grids := s.grids } = s := by
  unfold gridNodes
  split
  · rfl
  · split
    · rfl
    · split
      · split <;> rfl
      · rfl
      · rfl

theorem gridEnd_rest (id : Nat) : { (gridEnd id s).state with grids := s.grids } = s := by
  unfold gridEnd
  split
  · rfl
  · split
    · split <;> rfl
    · rfl
    · rfl

theorem gridDrop_rest (id : Nat) : { (gridDrop id s).state with grids := s.grids } = s := by
  unfold gridDrop
  split
  · rfl
  · split
    · rfl
    · rfl
    · split <;> rfl

theorem shapeSet_rest (f : ShapeFields) : { (shapeSet f s).state with shapes := s.shapes } = s := by
  unfold shapeSet
  split
  · rfl
  · split
    · rfl
    · split
      · rfl
      · split <;> rfl

theorem shapeDrop_rest (id : Nat) : { (shapeDrop id s).state with shapes := s.shapes } = s := by
  unfold shapeDrop
  split
  · rfl
  · split
    · rfl
    · split <;> rfl

/-! ## View tables (R62 to R68) -/

theorem paneSet_rest (f : PaneSetFields) : { (paneSet f s).state with views := s.views } = s := by
  unfold paneSet
  dsimp only
  split
  · split
    · rfl
    · split
      · rfl
      · split
        · rfl
        · split
          · rfl
          · split <;> rfl
  · rfl

theorem paneDrop_rest (f : PaneDropFields) : { (paneDrop f s).state with views := s.views } = s := by
  unfold paneDrop
  dsimp only
  split
  · split <;> rfl
  · rfl

theorem viewSet_rest (f : ViewSetFields) : { (viewSet f s).state with views := s.views } = s := by
  unfold viewSet
  split <;> rfl

theorem viewMapSet_rest (pairs : List (Nat × Nat)) : { (viewMapSet pairs s).state with views := s.views } = s := by
  unfold viewMapSet
  split
  · rfl
  · split
    · rfl
    · split <;> rfl

theorem setOverlayList_rest (f : OverlayListFields) : { (setOverlayList f s).state with views := s.views } = s := by
  unfold setOverlayList
  split
  · rfl
  · split
    · split
      · rfl
      · split <;> rfl
    · rfl

theorem applyTables_rest (x : Unit) : { (applyTables x s).state with views := s.views } = s := by
  unfold applyTables
  split <;> rfl

@[simp] theorem readTable_state (f : ReadTableFields) : (readTable f s).state = s := by
  unfold readTable
  split <;> rfl

/-! ## The control link (R165, R175) -/

theorem counterSelect_rest (f : CounterFields) : { (counterSelect f s).state with control := s.control } = s := by
  unfold counterSelect
  split <;> rfl

@[simp] theorem unknownRequest_state (kind : Byte) : (unknownRequest kind s).state = s := by
  unfold unknownRequest
  split
  · rfl
  · split <;> rfl

/-! ## The selector (R132, R139, R141, R142) -/

theorem selectorOnly_vehicleState (record : List Byte) : SelectorOnly s (vehicleState record s).state := by
  unfold vehicleState
  split
  · exact .rfl
  · exact .rfl
  · exact selectorOnly_vehicleArrives ..

theorem selectorOnly_forceView (f : ForceFields) : SelectorOnly s (forceView f s).state := by
  unfold forceView
  split
  · split
    · exact .rfl
    · exact (selectorOnly_endForce s .replaced).trans (selectorOnly_selector ..)
  · exact .rfl

theorem selectorOnly_releaseView (x : Unit) : SelectorOnly s (releaseView x s).state := by
  unfold releaseView
  split
  · exact selectorOnly_endForce ..
  · exact .rfl

/-! ## Timers (R84, R126) -/

theorem senseExpires_rest : { s.senseExpires with display := s.display, control := s.control } = s := by
  unfold State.senseExpires
  split <;> rfl

theorem holdExpires_rest (w : WindowId) : { s.holdExpires w with
    zones := s.zones, cadence := s.cadence, control := s.control } = s := by
  unfold State.holdExpires
  split
  · split
    · exact (congrArg (fun v : State => { v with zones := s.zones }) (State.refreshHazard_rest _) :)
    · rfl
  · rfl

end

end Sys2Proof.Machine
end

section
/-! PROOF. Every command keeps the laws of health and of the segment store: requests first, then the output frame start,
power-on and RESTART, and the step put together from them. -/

namespace Sys2Proof.Machine

/-! ## Commands and requests -/

/-- A change that is undone by putting back blocks no view reads. -/
theorem StoresKept.of_rest {s t u : State} (h : u = s) (hu : u.cameras = t.cameras := by simp only [State.cameras]) :
    StoresKept s t :=
  .of_cameras (hu.symm.trans (congrArg State.cameras h))

theorem SelectorOnly.storesKept {s t : State} (h : SelectorOnly s t) : StoresKept s t := .of_cameras h.cameras

theorem StoresKept.reform {s t : State} (h : StoresKept s t) : StoresKept s t.reform :=
  h.trans (.of_cameras t.reform_cameras)

theorem StoresKept.setChannel (s : State) (id : ChannelId) (ch : Channel) : StoresKept s (s.setChannel id ch) :=
  .of_cameras (congrArg State.cameras (setChannel_rest s id ch) :)

/-- A request's effect keeps the laws. -/
def KeepsStores (f : State → Answer) : Prop := ∀ s, StoresKept s (f s).state

theorem KeepsStores.run {α : Type} {f : α → State → Answer} (h : ∀ x, KeepsStores (f x)) (b : Body α) :
    KeepsStores (Body.run b f) := by
  cases b with
  | badLength => exact fun s => .refl s
  | fields x => exact h x

theorem unlessHeld_keepsStores {f : State → State} {s t : State} (h : unlessHeld s f = .next t)
    (hf : StoresKept s (f s)) : StoresKept s t :=
  unlessHeld_keeps (P := StoresKept s) (fun _ hu => hu.trans (.of_cameras rfl)) (fun _ => hf) h (.refl s)

theorem request_keepsStores {f : State → Answer} {r : Instr} {kind tag : Byte} {s t : State}
    (h : request r kind tag f s = .next t) (hf : KeepsStores f) : StoresKept s t :=
  request_keeps (P := StoresKept s) (fun _ _ hu => hu.trans (.of_cameras rfl)) (fun _ _ hu => hu.trans (.of_cameras rfl))
    (fun u hu => hu.trans (hf u)) h (.refl s)

/-- A command with a body, taken as a request. -/
theorem requestBody_keepsStores {α : Type} {f : α → State → Answer} {b : Body α} {r : Instr} {kind tag : Byte} {s t : State}
    (h : request r kind tag (Body.run b f) s = .next t) (hf : ∀ x, KeepsStores (f x)) : StoresKept s t :=
  request_keepsStores h (.run hf b)

/-! ## Requests that reach a camera (R9, R17, R116, R176 to R178) -/

/-- The clarity group leaves the clarity state, and so the view (R116). -/
theorem keepsStores_clarity (f : ClarityFields) : KeepsStores (setParametersClarity f) := by
  intro s
  obtain h | ⟨c, cl, hstate, h⟩ := setParametersClarity_eq s f
  · exact .of_rest h
  · rw [h]
    refine (cameraFrame_setClarity ..).storesKept (.of_eq ?_)
    simp only [State.storeView, State.clarity_setClarity, hstate]
    rfl

theorem keepsStores_situation (p : SituationParams) : KeepsStores (setParametersSituation p) :=
  fun _ => .of_cameras ((selectorOnly_rerank _).cameras :)

theorem keepsStores_cadence (f : CadenceFields) : KeepsStores (setParametersCadence f) :=
  fun s => .of_rest (setParametersCadence_rest s f)

theorem keepsStores_portEnable (port : Nat) : KeepsStores (portEnable port) := by
  intro s
  unfold portEnable
  split
  · exact .refl s
  · next c _ =>
    have henabled : StoresKept s (s.setPort c { s.port c with enabled := true }) := .setPort (by rfl) (by rfl)
    exact (henabled.trans .leaveOff).reform

theorem keepsStores_portDisable (port : Nat) : KeepsStores (portDisable port) := by
  intro s
  unfold portDisable
  split
  · exact .refl s
  · next c _ =>
    have hdisabled : StoresKept s (s.setPort c { s.port c with enabled := false }) := .setPort (by rfl) (by rfl)
    exact (hdisabled.trans (.goOffUnlessOff .disabled)).refreshHazard.reform

theorem keepsStores_linkRestart (port : Nat) : KeepsStores (linkRestart port) := by
  intro s
  unfold linkRestart
  split
  · exact .refl s
  · split
    · dsimp only
      exact ((cameraFrame_setPort ..).trans (cameraFrame_setLink ..)).storesKept
        (lawsKept_setLink (State.storeView_setPort (by rfl) (by rfl)) (by decide))
    · exact .refl s

theorem keepsStores_portPreference (f : PreferenceFields) : KeepsStores (portPreference f) := by
  intro s
  unfold portPreference
  split
  · exact .takePreference _
  · exact .refl s

/-- The ports sent OFF in order, from a state that has the cameras of `s` (R178, R180). -/
theorem StoresKept.allOff {s u : State} (h : u.cameras = s.cameras) (cause : LinkCause) :
    StoresKept s (allCams.foldl (fun t c => t.goOffUnlessOff c cause) u) :=
  .trans (.of_cameras h) (.foldl (fun _ _ => .goOffUnlessOff cause) allCams u)

theorem StoresKept.leaveRun (s : State) (m : OpMode) (cause : LinkCause) : StoresKept s (s.leaveRun m cause) := by
  unfold State.leaveRun
  exact .refreshHazard (.allOff (by rfl) cause)

theorem StoresKept.enterRun (s : State) : StoresKept s s.enterRun := by
  have hmode : StoresKept s { s with mode := .run } := .of_cameras rfl
  unfold State.enterRun
  exact (hmode.trans (.foldl (f := State.leaveOff) (fun _ _ => .leaveOff) allCams _)).reform

theorem keepsStores_modeConfig (x : Unit) : KeepsStores (modeConfig x) := by
  intro s
  unfold modeConfig
  split <;> rw [modeAnswer_state]
  · exact .refl s
  · exact .leaveRun ..
  · exact .of_cameras rfl

theorem keepsStores_modeRun (x : Unit) : KeepsStores (modeRun x) := by
  intro s
  unfold modeRun
  split
  · exact .refl s
  all_goals
    split <;> rw [modeAnswer_state]
    · exact .refl s
    · exact .enterRun s

theorem keepsStores_modeStandby (x : Unit) : KeepsStores (modeStandby x) := by
  intro s
  unfold modeStandby
  split <;> rw [modeAnswer_state]
  · exact .refl s
  · exact .leaveRun ..
  · exact .refl s

/-! ## RESTART (R180) -/

theorem State.storeView_link (s : State) (c : Cam) : (s.storeView c).link = (s.port c).link := rfl

theorem State.goOff_link (s : State) (c : Cam) (cause : LinkCause) : ((s.goOff c cause).port c).link = .off := by
  rw [← State.storeView_link, State.storeView_goOff]
  rfl

theorem State.goOffUnlessOff_link (s : State) (c : Cam) (cause : LinkCause) :
    ((s.goOffUnlessOff c cause).port c).link = .off := by
  unfold State.goOffUnlessOff
  split
  · next hoff => exact hoff
  · exact s.goOff_link c cause

theorem State.goOffUnlessOff_link_of_ne (s : State) {c d : Cam} (h : c ≠ d) (cause : LinkCause) :
    ((s.goOffUnlessOff d cause).port c).link = (s.port c).link := by
  unfold State.goOffUnlessOff
  split
  · rfl
  · rw [(cameraFrame_goOff s d cause).ports c h]

/-- A port sent OFF, and one that was OFF already, is OFF after a run of `goOffUnlessOff`. -/
theorem foldl_goOffUnlessOff_link (cause : LinkCause) (c : Cam) (l : List Cam) (s : State)
    (h : c ∈ l ∨ (s.port c).link = .off) : ((l.foldl (fun t d => t.goOffUnlessOff d cause) s).port c).link = .off := by
  induction l generalizing s with
  | nil => exact h.resolve_left List.not_mem_nil
  | cons d l ih =>
    refine ih _ ?_
    by_cases hd : c = d
    · exact .inr (hd ▸ s.goOffUnlessOff_link d cause)
    · exact (h.imp_left fun hmem => (List.mem_cons.mp hmem).resolve_left hd).imp_right
        ((s.goOffUnlessOff_link_of_ne hd cause).trans ·)

/-- Clarity states cleared while every port is OFF (R120, R180). -/
theorem StoresKept.of_cleared {s t : State} (hl : ∀ c, (s.port c).link = .off)
    (ht : t.cameras = { s with clarities := mapTable Clarity.cleared s.clarities }.cameras) : StoresKept s t := by
  refine ⟨fun c => ?_⟩
  have hview : ({ s with clarities := mapTable Clarity.cleared s.clarities } : State).storeView c
      = { s.storeView c with clarity := .clear } := by
    simp only [State.storeView, State.clarity, look_mapTable]
    rfl
  rw [State.storeView_congr ht, hview]
  exact lawsKept_cleared (hl c) _

theorem keepsStores_restart (x : Unit) : KeepsStores (restart x) := by
  intro s
  unfold restart
  dsimp only
  generalize hu : ({ s with control := s.control.restarted, mode := .config, cadence := s.cadence.leaveRun } : State) = u
  have hkept : StoresKept s _ := .allOff (u := u) (hu ▸ rfl) .restarted
  have hoff := fun c => foldl_goOffUnlessOff_link .restarted c allCams u (.inl (mem_allCams c))
  generalize allCams.foldl _ u = v at hkept hoff ⊢
  refine StoresKept.refreshHazard (hkept.trans (.of_cleared hoff ?_))
  rfl

/-! ## Power-on, output frame start and the millisecond (R34, R40, R179) -/

/-- After power-on the laws hold, whatever held before (R179). -/
theorem StoresKept.atPowerOn (s : State) (levels : PowerInputs) (epoch choices : Nat) (q : List Instr) :
    StoresKept s (State.atPowerOn levels epoch choices q) := by
  refine ⟨fun c => ?_⟩
  have hview : (State.atPowerOn levels epoch choices q).storeView c
      = ⟨.off, none, [], 0, .off, [], [], .clear, Params.initial.store⟩ := by
    simp only [State.storeView, State.atPowerOn, State.port, State.store, State.clarity, look_mapTable, look_replicate]
    rfl
  rw [hview]
  exact ⟨fun _ => .refl _, fun _ _ he => absurd he List.not_mem_nil, fun _ => ⟨fun _ => rfl, rfl⟩, fun _ => ⟨rfl, rfl⟩⟩

theorem StoresKept.raiseFreeze (s : State) (c : Cam) : StoresKept s (s.settleStore CamStore.raiseFreeze c) := by
  unfold State.settleStore
  refine ((cameraFrame_setStore ..).trans (cameraFrame_rederive ..)).storesKept ?_
  rw [State.storeView_rederive, State.storeView_setStore, CamStore.raiseFreeze_eq]
  exact lawsKept_moved (s.storeView c) (l := (s.storeView c).link) id _ _

theorem StoresKept.storeFrameStart (s : State) : StoresKept s s.storeFrameStart := by
  have hraised : StoresKept s s.raised := .foldl (fun t c => .raiseFreeze t c) allCams s
  rw [State.storeFrameStart_eq]
  generalize s.raised = r at hraised ⊢
  refine hraised.trans ⟨fun c => ?_⟩
  have hview : ({ r with stores := Vector.ofFn fun c => (r.store c).takeLatch (r.port c).mode } : State).storeView c
      = { r.storeView c with contents := shownCells (r.store c).shown (r.storeView c).banks } := by
    simp only [State.storeView, State.store, look_ofFn]
    rfl
  rw [hview]
  exact lawsKept_latched ..

theorem StoresKept.drawn (r : State) : StoresKept r r.drawn := by
  obtain ⟨choice, hdrawn⟩ := r.drawn_eq
  exact .of_cameras (congrArg State.cameras hdrawn :)

theorem StoresKept.frameStart (s : State) : StoresKept s s.frameStart :=
  (StoresKept.storeFrameStart s).trans (.drawn _)

theorem StoresKept.tick (s : State) : StoresKept s s.tick :=
  ⟨fun c => .of_eq (by simp [State.tick, State.storeView, State.port, State.store, State.clarity])⟩

/-! ## Every command -/

theorem exec_keepsStores (i : Instr) {s t : State} (h : exec i s = .next t) : StoresKept s t := by
  cases i with
  | powerOn levels => cases h; exact .atPowerOn ..
  | resetAssert => cases h; exact .of_cameras rfl
  | unknownRecordArrival c => cases h; exact .of_cameras rfl
  | carrierGain c => exact unlessHeld_keepsStores (f := fun t => t.gainCarrier c) h .gainCarrier
  | carrierLoss c => exact unlessHeld_keepsStores (f := fun t => t.loseCarrier c) h .loseCarrier
  | announceArrival c r k => exact unlessHeld_keepsStores (f := fun t => t.announceArrives c r _) h (.announceArrives ..)
  | trainingSegmentArrival c r k =>
    exact unlessHeld_keepsStores (f := fun t => t.trainSegment c r.index _) h (.trainSegment ..)
  | frameHeaderArrival c r k => exact unlessHeld_keepsStores (f := fun t => t.headerArrives c r _) h (.headerArrives ..)
  | segmentArrival c i body k =>
    exact unlessHeld_keepsStores (f := fun t => t.segmentArrives c i body _) h (.segmentArrives ..)
  | frameTrailerArrival c n k => exact unlessHeld_keepsStores (f := fun t => t.trailerArrives c n _) h (.trailerArrives ..)
  | announceTimerExpiry c => exact unlessHeld_keepsStores (f := fun t => t.announceExpires c) h .announceExpires
  | trainTimerExpiry c => exact unlessHeld_keepsStores (f := fun t => t.trainExpires c) h .trainExpires
  | backChannelRecordSent c => exact unlessHeld_keepsStores (f := fun t => t.backRecordSent c) h .backRecordSent
  | outputFrameStart => exact unlessHeld_keepsStores h (.frameStart s)
  | displaySenseChange level =>
    exact unlessHeld_keepsStores (f := fun t => { t with display := t.display.sense level }) h (.of_cameras rfl)
  | displaySenseTimerExpiry => exact unlessHeld_keepsStores h (.of_rest (senseExpires_rest s))
  | holdTimerExpiry w => exact unlessHeld_keepsStores (f := fun t => t.holdExpires w) h (.of_rest (holdExpires_rest s w))
  | vehicleTimeoutExpiry => exact unlessHeld_keepsStores h (selectorOnly_vehicleTimeout s).storesKept
  | turnDwellExpiry => exact unlessHeld_keepsStores h (selectorOnly_turnDwellExpires s).storesKept
  | forceTimerExpiry => exact unlessHeld_keepsStores h (selectorOnly_forceTimerExpires s).storesKept
  | viewDwellTimerExpiry => exact unlessHeld_keepsStores h (selectorOnly_viewDwellExpires s).storesKept
  | onTimeExpiry ch =>
    exact unlessHeld_keepsStores (f := fun t => t.setChannel ch (t.channel ch).onExpires) h (.setChannel ..)
  | offTimeExpiry ch =>
    exact unlessHeld_keepsStores (f := fun t => t.setChannel ch (t.channel ch).offExpires) h (.setChannel ..)
  | byteGapTimerExpiry =>
    exact unlessHeld_keepsStores (f := fun t => { t with control := t.control.gapExpires }) h (.of_cameras rfl)
  | controlFrameComplete b =>
    exact unlessHeld_keepsStores (f := fun t => { t with control := t.control.completeWith b }) h (.of_cameras rfl)
  | frameSendEnd => exact unlessHeld_keepsStores (f := fun t => { t with control := t.control.sendEnd }) h (.of_cameras rfl)
  | byteReceived b =>
    exact unlessHeld_keepsStores (f := fun t => { t with control := t.control.receive b }) h (.of_cameras rfl)
  | unknownRequest kind tag => exact request_keepsStores h fun s => .of_rest (unknownRequest_state s kind)
  | identify tag b => exact requestBody_keepsStores h fun _ s => .refl s
  | status tag b => exact requestBody_keepsStores h fun _ _ => .of_cameras rfl
  | setParametersLink tag b => exact requestBody_keepsStores h fun _ _ => .of_cameras rfl
  | setParametersStore tag b => exact requestBody_keepsStores h .setParametersStore
  | setParametersTone tag b => exact requestBody_keepsStores h fun f s => .of_rest (setParametersTone_rest s f)
  | setParametersToneLimits tag b => exact requestBody_keepsStores h fun _ _ => .of_cameras rfl
  | setParametersClarity tag b => exact requestBody_keepsStores h keepsStores_clarity
  | setParametersClarityLimits tag b => exact requestBody_keepsStores h fun _ _ => .of_cameras rfl
  | setParametersZone tag b => exact requestBody_keepsStores h fun _ _ => .of_cameras rfl
  | setParametersSituation tag b => exact requestBody_keepsStores h keepsStores_situation
  | setParametersCadence tag b => exact requestBody_keepsStores h keepsStores_cadence
  | portEnable tag b => exact requestBody_keepsStores h keepsStores_portEnable
  | portDisable tag b => exact requestBody_keepsStores h keepsStores_portDisable
  | linkRestart tag b => exact requestBody_keepsStores h keepsStores_linkRestart
  | portPreferenceList tag b => exact requestBody_keepsStores h keepsStores_portPreference
  | windowSet tag b => exact requestBody_keepsStores h fun f s => .of_rest (windowSet_rest s f)
  | windowDrop tag b => exact requestBody_keepsStores h fun id s => .of_rest (windowDrop_rest s id)
  | seamSet tag b => exact requestBody_keepsStores h fun f s => .of_rest (seamSet_rest s f)
  | gridBegin tag b => exact requestBody_keepsStores h fun f s => .of_rest (gridBegin_rest s f)
  | gridNodes tag b => exact requestBody_keepsStores h fun f s => .of_rest (gridNodes_rest s f)
  | gridEnd tag b => exact requestBody_keepsStores h fun id s => .of_rest (gridEnd_rest s id)
  | gridDrop tag b => exact requestBody_keepsStores h fun id s => .of_rest (gridDrop_rest s id)
  | shapeSet tag b => exact requestBody_keepsStores h fun f s => .of_rest (shapeSet_rest s f)
  | shapeDrop tag b => exact requestBody_keepsStores h fun id s => .of_rest (shapeDrop_rest s id)
  | setOverlayList tag b => exact requestBody_keepsStores h fun f s => .of_rest (setOverlayList_rest s f)
  | viewSet tag b => exact requestBody_keepsStores h fun f s => .of_rest (viewSet_rest s f)
  | paneSet tag b => exact requestBody_keepsStores h fun f s => .of_rest (paneSet_rest s f)
  | paneDrop tag b => exact requestBody_keepsStores h fun f s => .of_rest (paneDrop_rest s f)
  | viewMapSet tag b => exact requestBody_keepsStores h fun f s => .of_rest (viewMapSet_rest s f)
  | applyTables tag b => exact requestBody_keepsStores h fun x s => .of_rest (applyTables_rest s x)
  | vehicleState tag record => exact request_keepsStores h fun s => (selectorOnly_vehicleState s record).storesKept
  | forceView tag b => exact requestBody_keepsStores h fun f s => (selectorOnly_forceView s f).storesKept
  | releaseView tag b => exact requestBody_keepsStores h fun x s => (selectorOnly_releaseView s x).storesKept
  | silence tag b => exact requestBody_keepsStores h fun _ s => .setChannel s .buzz _
  | readCamera tag b => exact requestBody_keepsStores h fun camera s => .of_rest (readCamera_state s camera)
  | readMeter tag b => exact requestBody_keepsStores h fun id s => .of_rest (readMeter_state s id)
  | readTable tag b => exact requestBody_keepsStores h fun f s => .of_rest (readTable_state s f)
  | counterSelect tag b => exact requestBody_keepsStores h fun f s => .of_rest (counterSelect_rest s f)
  | counterRead tag b => exact requestBody_keepsStores h fun _ s => .refl s
  | modeConfig tag b => exact requestBody_keepsStores h keepsStores_modeConfig
  | modeRun tag b => exact requestBody_keepsStores h keepsStores_modeRun
  | modeStandby tag b => exact requestBody_keepsStores h keepsStores_modeStandby
  | restart tag b => exact requestBody_keepsStores h keepsStores_restart

/-- Every step, a command of the queue or one millisecond, keeps the laws. -/
theorem step_keepsStores {s t : State} (h : step s = .next t) : StoresKept s t := by
  unfold step at h
  split at h
  · cases h
    exact .tick s
  · next c rest _ =>
    have hqueue : StoresKept s (s.withPending rest) := .of_cameras rfl
    exact hqueue.trans (exec_keepsStores c h)

/-! ## The six conditions (R36) -/

/-- The condition of R36 under which a camera has a health. -/
def Health.Condition (link : LinkState) (freeze bad : Nat) (cl : ClarityState) (p : StoreParams) : Health → Prop
  | .off => link = .off
  | .absent => link ≠ .off ∧ link ≠ .streaming
  | .frozen => link = .streaming ∧ p.freezeLimit ≤ freeze
  | .degraded => link = .streaming ∧ freeze < p.freezeLimit ∧ p.degradeLimit < bad
  | .obscured => link = .streaming ∧ freeze < p.freezeLimit ∧ bad ≤ p.degradeLimit ∧ cl = .obscured
  | .good => link = .streaming ∧ freeze < p.freezeLimit ∧ bad ≤ p.degradeLimit ∧ cl = .clear

section
variable (link : LinkState) (freeze bad : Nat) (cl : ClarityState) (p : StoreParams)

theorem deriveHealth_condition : (deriveHealth link freeze bad cl p).Condition link freeze bad cl p := by
  unfold deriveHealth
  split
  · next hoff => exact hoff
  · next hoff =>
    split
    · next habsent => exact ⟨hoff, habsent⟩
    · next hstream =>
      rw [not_not] at hstream
      split
      · next hfrozen => exact ⟨hstream, hfrozen⟩
      · next hfreeze =>
        rw [Nat.not_le] at hfreeze
        split
        · next hbad => exact ⟨hstream, hfreeze, hbad⟩
        · next hbad =>
          rw [Nat.not_lt] at hbad
          split
          · next hcl => exact ⟨hstream, hfreeze, hbad, hcl⟩
          · next hcl =>
            cases cl with
            | clear => exact ⟨hstream, hfreeze, hbad, rfl⟩
            | obscured => exact absurd rfl hcl

/-- No two of the six conditions hold together, and one holds: the health is the one whose condition holds. -/
theorem deriveHealth_eq_iff (h : Health) : deriveHealth link freeze bad cl p = h ↔ h.Condition link freeze bad cl p := by
  refine ⟨fun e => e ▸ deriveHealth_condition link freeze bad cl p, fun hc => ?_⟩
  unfold deriveHealth
  cases h with
  | off => exact if_pos hc
  | absent =>
    obtain ⟨hoff, habsent⟩ := hc
    rw [if_neg hoff, if_pos habsent]
  | frozen =>
    obtain ⟨rfl, hfreeze⟩ := hc
    simp [hfreeze]
  | degraded =>
    obtain ⟨rfl, hfreeze, hbad⟩ := hc
    simp [hfreeze.not_ge, hbad]
  | obscured =>
    obtain ⟨rfl, hfreeze, hbad, rfl⟩ := hc
    simp [hfreeze.not_ge, hbad.not_gt]
  | good =>
    obtain ⟨rfl, hfreeze, hbad, rfl⟩ := hc
    simp [hfreeze.not_ge, hbad.not_gt]

/-- At FREEZE_LIMIT and above a camera is FROZEN, or its link is not STREAMING (R34, R36). -/
theorem deriveHealth_of_freezeLimit_le (h : p.freezeLimit ≤ freeze) : deriveHealth link freeze bad cl p = .off
    ∨ deriveHealth link freeze bad cl p = .absent ∨ deriveHealth link freeze bad cl p = .frozen := by
  simp only [deriveHealth_eq_iff, Health.Condition]
  by_cases hoff : link = .off
  · exact .inl hoff
  · by_cases hstream : link = .streaming
    · exact .inr (.inr ⟨hstream, h⟩)
    · exact .inr (.inl ⟨hoff, hstream⟩)

end

/-- Settles O12: the step by the law's share of `StoresKept`, the meaning of the health by the six conditions. -/
theorem stepKeepsHealthLaw : Obligations.StepKeepsHealthLaw := by
  refine ⟨fun s t hs h => (step_keepsStores h).healthLaw hs, fun s c hs hfreeze => ?_,
    fun link freeze bad cl p => ?_⟩
  · rw [hs c]
    exact deriveHealth_of_freezeLimit_le _ _ _ _ _ hfreeze
  · have hiff := deriveHealth_eq_iff link freeze bad cl p
    exact ⟨hiff .off, hiff .absent, hiff .frozen, hiff .degraded, hiff .obscured, hiff .good⟩

/-- Settles O15: each law by its share of `StoresKept`, over every step. -/
theorem stepKeepsStoreLaws : Obligations.StepKeepsStoreLaws :=
  ⟨fun _ _ hs h => (step_keepsStores h).segmentLaw hs, fun _ _ hs h => (step_keepsStores h).tableLaw hs,
    fun _ _ hs h => (step_keepsStores h).bankLaw hs⟩

end Sys2Proof.Machine
end

section
/-! PROOF. What the laws of the pools and of the references read (R43, R44, R50, R146, R148), and the rules of the tables they
are summed and looked up in. -/

namespace Sys2Proof

/-! ## A measure summed over a fixed table -/

/-- A measure summed over a table, entry by entry. -/
theorem sum_map_toList {α : Type} {n : Nat} (f : α → Nat) (t : Vector α n) :
    (t.toList.map f).sum = ∑ i, f (look t i) := by
  have ht : t.toList = List.ofFn (look t) := List.ext_getElem (by simp) fun i _ _ => by simp [look]
  rw [ht, List.map_ofFn, List.sum_ofFn]
  rfl

/-- With one entry replaced the sum moves by that entry's measure. -/
theorem sum_map_put {α : Type} {n : Nat} (f : α → Nat) (t : Vector α n) (i : Fin n) (a : α) :
    ((put t i a).toList.map f).sum + f (look t i) = (t.toList.map f).sum + f a := by
  have hi : i ∈ Finset.univ := Finset.mem_univ i
  have hrest : ∑ j ∈ Finset.univ.erase i, f (look (put t i a) j) = ∑ j ∈ Finset.univ.erase i, f (look t j) :=
    Finset.sum_congr rfl fun j hj => by rw [look_put, if_neg (Finset.ne_of_mem_erase hj).symm]
  rw [sum_map_toList, sum_map_toList, ← Finset.sum_erase_add _ _ hi, ← Finset.sum_erase_add _ (fun j => f (look t j)) hi,
    hrest, look_put_same]
  omega

/-- An entry measures at most what its table does. -/
theorem le_sum_map {α : Type} {n : Nat} (f : α → Nat) (t : Vector α n) (i : Fin n) :
    f (look t i) ≤ (t.toList.map f).sum := by
  rw [sum_map_toList]
  exact Finset.single_le_sum (f := fun j => f (look t j)) (fun _ _ => Nat.zero_le _) (Finset.mem_univ i)

end Sys2Proof

namespace Sys2Proof.Machine

/-! ## What the four laws read -/

/-- Each of the four laws that holds in `s` holds in `t`. -/
structure MapsKept (s t : State) : Prop where
  grid : s.GridLaw → t.GridLaw
  shape : s.ShapeLaw → t.ShapeLaw
  pane : s.PaneLaw → t.PaneLaw
  list : s.ListLaw → t.ListLaw

theorem MapsKept.refl (s : State) : MapsKept s s := ⟨id, id, id, id⟩

theorem MapsKept.trans {s t u : State} (a : MapsKept s t) (b : MapsKept t u) : MapsKept s u :=
  ⟨b.grid ∘ a.grid, b.shape ∘ a.shape, b.pane ∘ a.pane, b.list ∘ a.list⟩

/-- What the laws read: the grid store, the shapes with their free points, and the two copies of the tables. -/
def State.maps (s : State) : GridStore × Vector (Option Shape) 64 × Nat × Tables × Tables :=
  (s.grids, s.shapes.shapes, s.shapes.free, s.views.live, s.views.edit)

theorem MapsKept.of_maps {s t : State} (h : t.maps = s.maps) : MapsKept s t := by
  simp only [State.maps, Prod.mk.injEq] at h
  obtain ⟨hgrids, hshapes, hfree, hlive, hedit⟩ := h
  refine ⟨fun hs => ?_, fun hs => ?_, fun hs => ?_, fun hs => ?_⟩
  · simpa only [State.GridLaw, hgrids] using hs
  · simpa only [State.ShapeLaw, ShapeStore.used, hshapes, hfree] using hs
  · simpa only [State.PaneLaw, State.HasPane, hgrids, hlive, hedit] using hs
  · simpa only [State.ListLaw, shapeReferenced, State.shape, hshapes, hlive, hedit] using hs

theorem LinkOnly.maps {s t : State} (h : LinkOnly s t) : t.maps = s.maps := by
  simp only [State.maps, h.grids, h.shapes, h.views]

theorem SelectorOnly.maps {s t : State} (h : SelectorOnly s t) : t.maps = s.maps := by
  simp only [State.maps, h.grids, h.shapes, h.views]

/-! ## Panes and references -/

/-- A grid is referenced exactly where a present pane of a copy names it (R44). -/
theorem gridReferenced_iff {s : State} {g : Fin 16} :
    gridReferenced s.views g = true ↔ ∃ p, s.HasPane p ∧ p.namesGrid g = true := by
  simp only [gridReferenced, Tables.namesGrid, Bool.or_eq_true, anyEntry_iff, Option.any_eq_true, State.HasPane]
  constructor
  · rintro (⟨v, k, p, hp, hn⟩ | ⟨v, k, p, hp, hn⟩)
    · exact ⟨p, ⟨v, k, .inl hp⟩, hn⟩
    · exact ⟨p, ⟨v, k, .inr hp⟩, hn⟩
  · rintro ⟨p, ⟨v, k, hp | hp⟩, hn⟩
    · exact .inl ⟨v, k, p, hp, hn⟩
    · exact .inr ⟨v, k, p, hp, hn⟩

/-- A pane fits where each grid it names fits its geometry (R50). -/
theorem paneFits_iff {gs : GridStore} {p : Pane} :
    paneFits gs p = true ↔ ∀ g, p.namesGrid g = true → (look gs.grids g).fits p.geometry = true := by
  unfold paneFits Pane.namesGrid
  cases p.alternate with
  | none => simp
  | some a => simp [or_imp, forall_and]

/-- Every grid that a pane names is READY (R44). -/
theorem State.PaneLaw.isReady {s : State} (h : s.PaneLaw) {g : Fin 16} (hg : gridReferenced s.views g = true) :
    (s.grid g).isReady = true := by
  obtain ⟨p, hp, hn⟩ := gridReferenced_iff.mp hg
  have hfits := paneFits_iff.mp (h p hp) g hn
  unfold Grid.fits at hfits
  unfold State.grid Grid.isReady
  split at hfits
  · rfl
  · exact absurd hfits Bool.false_ne_true

/-- A grid that no pane names may be replaced. -/
theorem State.PaneLaw.setGrid {s : State} (h : s.PaneLaw) {g : Fin 16} (hg : gridReferenced s.views g = false) (x : Grid) :
    (s.setGrid g x).PaneLaw := by
  intro p hp
  refine paneFits_iff.mpr fun k hk => ?_
  have hne : g ≠ k := by
    rintro rfl
    exact absurd (gridReferenced_iff.mpr ⟨p, hp, hk⟩) (by simp [hg])
  have hlook : look (s.setGrid g x).grids.grids k = look s.grids.grids k := (look_put ..).trans (if_neg hne)
  rw [hlook]
  exact paneFits_iff.mp (h p hp) k hk

/-- Panes that are those of a lawful state keep the law. -/
theorem State.PaneLaw.of_panes {s t : State} (h : s.PaneLaw) (hg : t.grids = s.grids)
    (hp : ∀ p, t.HasPane p → s.HasPane p) : t.PaneLaw :=
  fun p htp => hg ▸ h p (hp p htp)

/-! ## One grid replaced (R43) -/

/-- The pool's law is kept where the nodes the new grid takes are there (R43). -/
theorem State.GridLaw.setGrid {s : State} (h : s.GridLaw) {g : Fin 16} {x : Grid}
    (hx : x.size ≤ s.grids.free + (s.grid g).size) : (s.setGrid g x).GridLaw := by
  have hsum := sum_map_put Grid.size s.grids.grids g x
  have hle := le_sum_map Grid.size s.grids.grids g
  unfold State.GridLaw GridStore.used State.setGrid GridStore.replace State.grid at *
  dsimp only
  omega

/-- A grid replaced by one that the pool has room for, and that no pane names where panes fit. -/
theorem MapsKept.setGrid {s : State} {g : Fin 16} {x : Grid} (hx : x.size ≤ s.grids.free + (s.grid g).size)
    (hg : s.PaneLaw → gridReferenced s.views g = false) : MapsKept s (s.setGrid g x) :=
  ⟨fun h => h.setGrid hx, id, fun h => h.setGrid (hg h) x, id⟩

/-! ## One shape replaced (R146, R148) -/

/-- The budget's law is kept where the points the new shape takes are there (R146). -/
theorem State.ShapeLaw.setShape {s : State} (h : s.ShapeLaw) {k : Fin 64} {x : Option Shape}
    (hx : shapePoints x ≤ s.shapes.free + shapePoints (s.shape k)) : (s.setShape k x).ShapeLaw := by
  have hsum := sum_map_put shapePoints s.shapes.shapes k x
  have hle := le_sum_map shapePoints s.shapes.shapes k
  unfold State.ShapeLaw ShapeStore.used State.setShape ShapeStore.replace State.shape at *
  dsimp only
  omega

/-- A shape may be replaced by another, and one that no list names may be dropped (R148). -/
theorem State.ListLaw.setShape {s : State} (h : s.ListLaw) {k : Fin 64} {x : Option Shape}
    (hx : x.isSome ∨ shapeReferenced s.views k = false) : (s.setShape k x).ListLaw := by
  intro j hj
  have hlook : (s.setShape k x).shape j = if k = j then x else s.shape j := look_put ..
  rw [hlook]
  split
  · next hkj =>
    subst hkj
    exact hx.resolve_right fun hk => Bool.false_ne_true (hk.symm.trans hj)
  · exact h j hj

theorem MapsKept.setShape {s : State} {k : Fin 64} {x : Option Shape}
    (hx : shapePoints x ≤ s.shapes.free + shapePoints (s.shape k)) (hk : x.isSome ∨ shapeReferenced s.views k = false) :
    MapsKept s (s.setShape k x) :=
  ⟨id, fun h => h.setShape hx, id, fun h => h.setShape hk⟩

/-! ## One view of the edit copy replaced (R62 to R64) -/

/-- A pane of the tables with one view of the edit copy replaced is a pane of that view or was there before. -/
theorem State.HasPane.setEditView {s : State} {v : ViewId} {x : View} {p : Pane} (h : (s.setEditView v x).HasPane p) :
    (∃ k, look x.panes k = some p) ∨ s.HasPane p := by
  obtain ⟨w, k, hlive | hedit⟩ := h
  · exact .inr ⟨w, k, .inl hlive⟩
  · have hlook : look (s.setEditView v x).views.edit.views w = if v = w then x else look s.views.edit.views w := look_put ..
    rw [hlook] at hedit
    split at hedit
    · exact .inl ⟨k, hedit⟩
    · exact .inr ⟨w, k, .inr hedit⟩

/-- A view whose panes fit, or were there before, may be put into the edit copy. -/
theorem MapsKept.setEditView {s : State} {v : ViewId} {x : View}
    (hx : ∀ k p, look x.panes k = some p → paneFits s.grids p = true ∨ s.HasPane p) : MapsKept s (s.setEditView v x) := by
  refine ⟨id, id, fun h p hp => ?_, id⟩
  obtain ⟨k, hk⟩ | hs := hp.setEditView
  · exact (hx k p hk).elim id (h p)
  · exact h p hs

/-- One slot of a view of the edit copy takes a pane that fits, or becomes absent. -/
theorem MapsKept.putPane {s : State} {v : ViewId} {slot : Fin 6} {x : Option Pane}
    (hx : ∀ p, x = some p → paneFits s.grids p = true) :
    MapsKept s (s.setEditView v { s.editView v with panes := put (s.editView v).panes slot x }) := by
  refine .setEditView fun k p hk => ?_
  dsimp only at hk
  rw [look_put] at hk
  split at hk
  · exact .inl (hx p hk)
  · exact .inr ⟨v, k, .inr hk⟩

/-- Shapes named by lists are defined where each is named by a list of a lawful state, or defined (R148). -/
theorem State.ListLaw.of_lists {s t : State} (h : s.ListLaw) (hs : t.shapes.shapes = s.shapes.shapes)
    (hr : ∀ k, shapeReferenced t.views k = true → shapeReferenced s.views k = true ∨ (s.shape k).isSome) : t.ListLaw := by
  intro k hk
  have hshape : t.shape k = s.shape k := congrArg (look · k) hs
  rw [hshape]
  exact (hr k hk).elim (h k) id

/-- A copy that becomes the other one names no pane and no shape anew (R60, R69). -/
theorem MapsKept.of_copies {s t : State} (hg : t.grids = s.grids) (hs : t.shapes.shapes = s.shapes.shapes)
    (hf : t.shapes.free = s.shapes.free) (hlive : t.views.live = s.views.live ∨ t.views.live = s.views.edit)
    (hedit : t.views.edit = s.views.edit ∨ t.views.edit = s.views.live) : MapsKept s t := by
  refine ⟨fun h => ?_, fun h => ?_, fun h => h.of_panes hg ?_, fun h => h.of_lists hs ?_⟩
  · simpa only [State.GridLaw, hg] using h
  · simpa only [State.ShapeLaw, ShapeStore.used, hs, hf] using h
  · rintro p ⟨v, k, hp | hp⟩
    · obtain e | e := hlive <;> rw [e] at hp
      · exact ⟨v, k, .inl hp⟩
      · exact ⟨v, k, .inr hp⟩
    · obtain e | e := hedit <;> rw [e] at hp
      · exact ⟨v, k, .inr hp⟩
      · exact ⟨v, k, .inl hp⟩
  · intro k hk
    refine .inl ?_
    simp only [shapeReferenced, Bool.or_eq_true] at hk ⊢
    obtain hk | hk := hk
    · obtain e | e := hlive <;> rw [e] at hk
      · exact .inl hk
      · exact .inr hk
    · obtain e | e := hedit <;> rw [e] at hk
      · exact .inr hk
      · exact .inl hk

end Sys2Proof.Machine
end

section
/-! PROOF. Every command keeps the laws of the pools and of the references (R43, R44, R50, R146, R148): the requests of the grid
store, the shape store and the tables, RESTART, the output frame start, and the step put together from them. -/

namespace Sys2Proof.Machine

/-! ## Requests of the grid store (R45 to R48) -/

/-- What a request of the grid store can do: nothing, or replace one grid by another that the pool has room for, and a READY one
only where no pane names it. -/
def ReplacesGrid (s t : State) : Prop :=
  t = s ∨ ∃ g x, t = s.setGrid g x ∧ x.size ≤ s.grids.free + (s.grid g).size
    ∧ ((s.grid g).isReady = true → gridReferenced s.views g = false)

theorem ReplacesGrid.mapsKept {s t : State} (h : ReplacesGrid s t) : MapsKept s t := by
  obtain rfl | ⟨g, x, rfl, hx, hg⟩ := h
  · exact .refl _
  · exact .setGrid hx fun hpane => Bool.eq_false_iff.mpr fun hr => absurd (hg (hpane.isReady hr)) (by simp [hr])

theorem replacesGrid_gridBegin (f : GridBeginFields) (s : State) : ReplacesGrid s (gridBegin f s).state := by
  unfold gridBegin
  split
  · exact .inl rfl
  · next g _ =>
    split
    · exact .inl rfl
    · split
      · exact .inl rfl
      · next hready =>
        split
        · exact .inl rfl
        · next hroom =>
          exact .inr ⟨g, _, rfl, Nat.le_of_not_lt hroom, fun hr => Bool.eq_false_iff.mpr fun hn => hready ⟨hr, hn⟩⟩

theorem replacesGrid_gridNodes (f : GridNodesFields) (s : State) : ReplacesGrid s (gridNodes f s).state := by
  unfold gridNodes
  split
  · exact .inl rfl
  · split
    · exact .inl rfl
    · next g _ =>
      split
      · next he =>
        split
        · exact .inl rfl
        · exact .inr ⟨g, _, rfl, by rw [he]; exact Nat.le_add_left .., fun hr => by simp [he, Grid.isReady] at hr⟩
      · exact .inl rfl
      · exact .inl rfl

theorem replacesGrid_gridEnd (id : Nat) (s : State) : ReplacesGrid s (gridEnd id s).state := by
  unfold gridEnd
  split
  · exact .inl rfl
  · next g _ =>
    split
    · next he =>
      split
      · exact .inr ⟨g, _, rfl, by rw [he]; exact Nat.le_add_left .., fun hr => by simp [he, Grid.isReady] at hr⟩
      · exact .inl rfl
    · exact .inl rfl
    · exact .inl rfl

theorem replacesGrid_gridDrop (id : Nat) (s : State) : ReplacesGrid s (gridDrop id s).state := by
  unfold gridDrop
  split
  · exact .inl rfl
  · next g _ =>
    split
    · exact .inl rfl
    · next he => exact .inr ⟨g, _, rfl, Nat.zero_le _, fun hr => by simp [he, Grid.isReady] at hr⟩
    · split
      · exact .inl rfl
      · next hn => exact .inr ⟨g, _, rfl, Nat.zero_le _, fun _ => Bool.eq_false_iff.mpr hn⟩

/-! ## Requests of the shape store (R147, R148) -/

theorem mapsKept_shapeSet (f : ShapeFields) (s : State) : MapsKept s (shapeSet f s).state := by
  unfold shapeSet
  split
  · exact .refl s
  · split
    · exact .refl s
    · split
      · exact .refl s
      · split
        · exact .refl s
        · next hroom => exact .setShape (Nat.le_of_not_lt hroom) (.inl rfl)

theorem mapsKept_shapeDrop (id : Nat) (s : State) : MapsKept s (shapeDrop id s).state := by
  unfold shapeDrop
  split
  · exact .refl s
  · split
    · exact .refl s
    · split
      · exact .refl s
      · next hn => exact .setShape (Nat.zero_le _) (.inr (Bool.eq_false_iff.mpr hn))

/-! ## Requests of the tables (R62 to R68) -/

theorem mapsKept_paneSet (f : PaneSetFields) (s : State) : MapsKept s (paneSet f s).state := by
  unfold paneSet
  dsimp only
  split
  · split
    · exact .refl s
    · split
      · exact .refl s
      · next p _ =>
        split
        · exact .refl s
        · split
          · exact .refl s
          · next hfits =>
            split
            · exact .refl s
            · refine .putPane fun q hq => ?_
              cases hq
              simpa using hfits
  · exact .refl s

theorem mapsKept_paneDrop (f : PaneDropFields) (s : State) : MapsKept s (paneDrop f s).state := by
  unfold paneDrop
  dsimp only
  split
  · split
    · exact .refl s
    · exact .putPane nofun
  · exact .refl s

theorem mapsKept_viewSet (f : ViewSetFields) (s : State) : MapsKept s (viewSet f s).state := by
  unfold viewSet
  split
  · next v _ _ _ => exact .setEditView fun k _ hk => .inr ⟨v, k, .inr hk⟩
  · exact .refl s

/-- The view map names no grid and no shape (R65). -/
theorem mapsKept_viewMapSet (pairs : List (Nat × Nat)) (s : State) : MapsKept s (viewMapSet pairs s).state := by
  unfold viewMapSet
  split
  · exact .refl s
  · split
    · exact .refl s
    · split
      · exact ⟨id, id, id, id⟩
      · exact .refl s

/-- A list of the edit copy takes shapes that are defined (R66). -/
theorem mapsKept_setOverlayList (f : OverlayListFields) (s : State) : MapsKept s (setOverlayList f s).state := by
  unfold setOverlayList
  split
  · exact .refl s
  · split
    · next l shapes _ _ =>
      split
      · exact .refl s
      · split
        · exact .refl s
        · next hdefined =>
          refine ⟨id, id, id, fun h => h.of_lists rfl fun k hk => ?_⟩
          simp only [shapeReferenced, Tables.namesShape, Bool.or_eq_true, anyEntry_iff] at hk ⊢
          obtain hk | ⟨i, hk⟩ := hk
          · exact .inl (.inl hk)
          · rw [look_put] at hk
            split at hk
            · rw [Bool.not_eq_true', Bool.not_eq_false] at hdefined
              exact .inr (List.all_eq_true.mp hdefined k (List.contains_iff_mem.mp hk))
            · exact .inl (.inr ⟨i, hk⟩)
    · exact .refl s

theorem mapsKept_applyTables (x : Unit) (s : State) : MapsKept s (applyTables x s).state := by
  unfold applyTables
  split
  · exact .refl s
  · exact .of_maps rfl

/-! ## RESTART (R42, R60, R180) -/

/-- A READY grid is kept (R42). -/
theorem Grid.restarted_fits {g : Grid} {geo : Geometry} (h : g.fits geo = true) : g.restarted.fits geo = true := by
  cases g with
  | empty => exact h
  | loading cols rows nodes => exact absurd h Bool.false_ne_true
  | ready cols rows nodes => exact h

theorem Grid.restarted_size (g : Grid) : g.restarted.size ≤ g.size := by
  cases g with
  | empty => exact Nat.le_refl _
  | loading cols rows nodes => exact Nat.zero_le _
  | ready cols rows nodes => exact Nat.le_refl _

theorem GridStore.restarted_used (gs : GridStore) : gs.restarted.used ≤ gs.used := by
  unfold GridStore.used GridStore.restarted
  dsimp only
  rw [sum_map_toList, sum_map_toList]
  exact Finset.sum_le_sum fun g _ => by rw [look_mapTable]; exact Grid.restarted_size _

theorem MapsKept.restartedGrids (s : State) : MapsKept s { s with grids := s.grids.restarted } where
  grid h := by
    have hused := s.grids.restarted_used
    have hfree : s.grids.restarted.free = 2048 - s.grids.restarted.used := rfl
    unfold State.GridLaw at h ⊢
    dsimp only
    omega
  shape := id
  pane h p hp := paneFits_iff.mpr fun g hg => by
    have hlook : look s.grids.restarted.grids g = (look s.grids.grids g).restarted := look_mapTable ..
    rw [hlook]
    exact Grid.restarted_fits (paneFits_iff.mp (h p hp) g hg)
  list := id

theorem mapsKept_restart (x : Unit) (s : State) : MapsKept s (restart x s).state := by
  unfold restart
  dsimp only
  generalize hu : ({ s with control := s.control.restarted, mode := .config, cadence := s.cadence.leaveRun } : State) = u
  have hmaps : u.maps = s.maps := hu ▸ rfl
  have hoff : LinkOnly u _ := .foldl (fun t c => linkOnly_goOffUnlessOff t c .restarted) allCams u
  generalize allCams.foldl _ u = v at hoff ⊢
  refine (MapsKept.of_maps (hoff.maps.trans hmaps)).trans (.trans (.restartedGrids v) (.trans ?_
    (.of_maps (linkOnly_refreshHazard _).maps)))
  exact .of_copies rfl rfl rfl (.inl rfl) (.inr rfl)

/-! ## Power-on and output frame start (R69, R179) -/

/-- After power-on the laws hold, whatever held before: the pools are free, and no pane and no list names anything (R179). -/
theorem MapsKept.atPowerOn (s : State) (levels : PowerInputs) (epoch choices : Nat) (q : List Instr) :
    MapsKept s (State.atPowerOn levels epoch choices q) := by
  refine ⟨fun _ => ?_, fun _ => ?_, fun _ p hp => ?_, fun _ k hk => ?_⟩
  · simp [State.GridLaw, GridStore.used, State.atPowerOn, GridStore.initial, Grid.size]
  · simp [State.ShapeLaw, ShapeStore.used, State.atPowerOn, ShapeStore.initial, shapePoints]
  · simp [State.HasPane, State.atPowerOn, ViewTable.initial, Tables.initial] at hp
  · simp [shapeReferenced, Tables.namesShape, anyEntry, State.atPowerOn, ViewTable.initial, Tables.initial] at hk

theorem MapsKept.drawn (r : State) : MapsKept r r.drawn := by
  obtain ⟨choice, hdrawn⟩ := r.drawn_eq
  rw [hdrawn]
  refine .of_copies rfl rfl rfl ?_ (.inl rfl)
  show r.liveNext = _ ∨ r.liveNext = _
  unfold State.liveNext
  split
  · exact .inr rfl
  · exact .inl rfl

theorem MapsKept.frameStart (s : State) : MapsKept s s.frameStart :=
  (MapsKept.of_maps (linkOnly_storeFrameStart s).maps).trans (.drawn _)

/-! ## Commands and requests -/

/-- A request's effect keeps the laws. -/
def KeepsMaps (f : State → Answer) : Prop := ∀ s, MapsKept s (f s).state

theorem KeepsMaps.run {α : Type} {f : α → State → Answer} (h : ∀ x, KeepsMaps (f x)) (b : Body α) :
    KeepsMaps (Body.run b f) := by
  cases b with
  | badLength => exact fun s => .refl s
  | fields x => exact h x

/-- A change that is undone by putting back blocks the laws do not read. -/
theorem MapsKept.of_rest {s t u : State} (h : u = s) (hu : u.maps = t.maps := by rfl) : MapsKept s t :=
  .of_maps (hu.symm.trans (congrArg State.maps h))

theorem LinkOnly.mapsKept {s t : State} (h : LinkOnly s t) : MapsKept s t := .of_maps h.maps

theorem SelectorOnly.mapsKept {s t : State} (h : SelectorOnly s t) : MapsKept s t := .of_maps h.maps

theorem unlessHeld_keepsMaps {f : State → State} (hf : ∀ s, MapsKept s (f s)) {s t : State}
    (h : unlessHeld s f = .next t) : MapsKept s t :=
  unlessHeld_keeps (P := MapsKept s) (fun _ hu => hu.trans (.of_maps rfl)) (fun _ => hf s) h (.refl s)

theorem request_keepsMaps {f : State → Answer} {r : Instr} {kind tag : Byte} {s t : State}
    (h : request r kind tag f s = .next t) (hf : KeepsMaps f) : MapsKept s t :=
  request_keeps (P := MapsKept s) (fun _ _ hu => hu.trans (.of_maps rfl)) (fun _ _ hu => hu.trans (.of_maps rfl))
    (fun u hu => hu.trans (hf u)) h (.refl s)

/-- A command with a body, taken as a request. -/
theorem requestBody_keepsMaps {α : Type} {f : α → State → Answer} {b : Body α} {r : Instr} {kind tag : Byte} {s t : State}
    (h : request r kind tag (Body.run b f) s = .next t) (hf : ∀ x, KeepsMaps (f x)) : MapsKept s t :=
  request_keepsMaps h (.run hf b)

/-! ## Requests that leave the grids, the shapes and the tables -/

theorem keepsMaps_cadence (f : CadenceFields) : KeepsMaps (setParametersCadence f) :=
  fun s => .of_rest (setParametersCadence_rest s f)

/-- The store group changes its parameters and the stores, and health follows (R30, R37). -/
theorem keepsMaps_store (p : StoreParams) : KeepsMaps (setParametersStore p) := by
  intro s
  have hlimited : MapsKept s (s.limited (clampStore p)) := .of_maps rfl
  rw [setParametersStore_eq]
  dsimp only
  have hstep : ∀ t c, LinkOnly t (State.settleStore (fun x _ => x) t c) :=
    fun t c => (linkOnly_setStore t c _).trans (linkOnly_rederive ..)
  exact hlimited.trans (LinkOnly.foldl hstep allCams _).mapsKept

theorem keepsMaps_clarity (f : ClarityFields) : KeepsMaps (setParametersClarity f) := by
  intro s
  obtain h | ⟨c, cl, -, h⟩ := setParametersClarity_eq s f
  · exact .of_rest h
  · rw [h]
    exact (linkOnly_setClarity ..).mapsKept

theorem keepsMaps_situation (p : SituationParams) : KeepsMaps (setParametersSituation p) :=
  fun _ => .of_maps ((selectorOnly_rerank _).maps.trans rfl)

theorem linkOnly_portEnable (port : Nat) (s : State) : LinkOnly s (portEnable port s).state := by
  unfold portEnable
  split
  · exact .rfl
  · exact ((linkOnly_setPort ..).trans (linkOnly_leaveOff ..)).trans (linkOnly_reform _)

theorem linkOnly_portDisable (port : Nat) (s : State) : LinkOnly s (portDisable port s).state := by
  unfold portDisable
  split
  · exact .rfl
  · exact (((linkOnly_setPort ..).trans (linkOnly_goOffUnlessOff ..)).trans (linkOnly_refreshHazard _)).trans
      (linkOnly_reform _)

theorem linkOnly_linkRestart (port : Nat) (s : State) : LinkOnly s (linkRestart port s).state := by
  unfold linkRestart
  split
  · exact .rfl
  · split
    · exact (linkOnly_setPort ..).trans (linkOnly_setLink ..)
    · exact .rfl

theorem linkOnly_portPreference (f : PreferenceFields) (s : State) : LinkOnly s (portPreference f s).state := by
  unfold portPreference
  split
  · exact linkOnly_takePreference ..
  · exact .rfl

/-! ## MODE (R176 to R178) -/

theorem MapsKept.leaveRun (s : State) (m : OpMode) (cause : LinkCause) : MapsKept s (s.leaveRun m cause) := by
  have hmode : MapsKept s { s with mode := m, cadence := s.cadence.leaveRun } := .of_maps rfl
  unfold State.leaveRun
  exact hmode.trans ((LinkOnly.foldl (fun t c => linkOnly_goOffUnlessOff t c cause) allCams _).trans
    (linkOnly_refreshHazard _)).mapsKept

theorem MapsKept.enterRun (s : State) : MapsKept s s.enterRun := by
  have hmode : MapsKept s { s with mode := .run } := .of_maps rfl
  unfold State.enterRun
  exact hmode.trans ((LinkOnly.foldl linkOnly_leaveOff allCams _).trans (linkOnly_reform _)).mapsKept

theorem keepsMaps_modeConfig (x : Unit) : KeepsMaps (modeConfig x) := by
  intro s
  unfold modeConfig
  split <;> rw [modeAnswer_state]
  · exact .refl s
  · exact .leaveRun ..
  · exact .of_maps rfl

theorem keepsMaps_modeRun (x : Unit) : KeepsMaps (modeRun x) := by
  intro s
  unfold modeRun
  split
  · exact .refl s
  all_goals
    split <;> rw [modeAnswer_state]
    · exact .refl s
    · exact .enterRun s

theorem keepsMaps_modeStandby (x : Unit) : KeepsMaps (modeStandby x) := by
  intro s
  unfold modeStandby
  split <;> rw [modeAnswer_state]
  · exact .refl s
  · exact .leaveRun ..
  · exact .refl s

/-! ## Every command -/

theorem exec_keepsMaps (i : Instr) {s t : State} (h : exec i s = .next t) : MapsKept s t := by
  cases i with
  | powerOn levels => cases h; exact .atPowerOn ..
  | resetAssert => cases h; exact .of_maps rfl
  | unknownRecordArrival c => cases h; exact .of_maps rfl
  | carrierGain c => exact unlessHeld_keepsMaps (fun s => (linkOnly_gainCarrier s c).mapsKept) h
  | carrierLoss c => exact unlessHeld_keepsMaps (fun s => (linkOnly_loseCarrier s c).mapsKept) h
  | announceArrival c r k => exact unlessHeld_keepsMaps (fun s => (linkOnly_announceArrives s c r _).mapsKept) h
  | trainingSegmentArrival c r k => exact unlessHeld_keepsMaps (fun s => (linkOnly_trainSegment s c r.index _).mapsKept) h
  | frameHeaderArrival c r k => exact unlessHeld_keepsMaps (fun s => (linkOnly_headerArrives s c r _).mapsKept) h
  | segmentArrival c i body k => exact unlessHeld_keepsMaps (fun s => (linkOnly_segmentArrives s c i body _).mapsKept) h
  | frameTrailerArrival c n k => exact unlessHeld_keepsMaps (fun s => (linkOnly_trailerArrives s c n _).mapsKept) h
  | announceTimerExpiry c => exact unlessHeld_keepsMaps (fun s => (linkOnly_announceExpires s c).mapsKept) h
  | trainTimerExpiry c => exact unlessHeld_keepsMaps (fun s => (linkOnly_trainExpires s c).mapsKept) h
  | backChannelRecordSent c => exact unlessHeld_keepsMaps (fun s => (linkOnly_backRecordSent s c).mapsKept) h
  | outputFrameStart => exact unlessHeld_keepsMaps MapsKept.frameStart h
  | displaySenseChange level =>
    exact unlessHeld_keepsMaps (f := fun t => { t with display := t.display.sense level }) (fun _ => .of_maps rfl) h
  | displaySenseTimerExpiry => exact unlessHeld_keepsMaps (fun s => .of_rest (senseExpires_rest s)) h
  | holdTimerExpiry w => exact unlessHeld_keepsMaps (fun s => (linkOnly_holdExpires s w).mapsKept) h
  | vehicleTimeoutExpiry => exact unlessHeld_keepsMaps (fun s => (selectorOnly_vehicleTimeout s).mapsKept) h
  | turnDwellExpiry => exact unlessHeld_keepsMaps (fun s => (selectorOnly_turnDwellExpires s).mapsKept) h
  | forceTimerExpiry => exact unlessHeld_keepsMaps (fun s => (selectorOnly_forceTimerExpires s).mapsKept) h
  | viewDwellTimerExpiry => exact unlessHeld_keepsMaps (fun s => (selectorOnly_viewDwellExpires s).mapsKept) h
  | onTimeExpiry ch =>
    exact unlessHeld_keepsMaps (f := fun t => t.setChannel ch (t.channel ch).onExpires)
      (fun s => .of_rest (setChannel_rest s ch _)) h
  | offTimeExpiry ch =>
    exact unlessHeld_keepsMaps (f := fun t => t.setChannel ch (t.channel ch).offExpires)
      (fun s => .of_rest (setChannel_rest s ch _)) h
  | byteGapTimerExpiry =>
    exact unlessHeld_keepsMaps (f := fun t => { t with control := t.control.gapExpires }) (fun _ => .of_maps rfl) h
  | controlFrameComplete b =>
    exact unlessHeld_keepsMaps (f := fun t => { t with control := t.control.completeWith b }) (fun _ => .of_maps rfl) h
  | frameSendEnd =>
    exact unlessHeld_keepsMaps (f := fun t => { t with control := t.control.sendEnd }) (fun _ => .of_maps rfl) h
  | byteReceived b =>
    exact unlessHeld_keepsMaps (f := fun t => { t with control := t.control.receive b }) (fun _ => .of_maps rfl) h
  | unknownRequest kind tag => exact request_keepsMaps h fun s => .of_rest (unknownRequest_state s kind)
  | identify tag b => exact requestBody_keepsMaps h fun _ s => .refl s
  | status tag b => exact requestBody_keepsMaps h fun _ _ => .of_maps rfl
  | setParametersLink tag b => exact requestBody_keepsMaps h fun _ _ => .of_maps rfl
  | setParametersStore tag b => exact requestBody_keepsMaps h keepsMaps_store
  | setParametersTone tag b => exact requestBody_keepsMaps h fun f s => .of_rest (setParametersTone_rest s f)
  | setParametersToneLimits tag b => exact requestBody_keepsMaps h fun _ _ => .of_maps rfl
  | setParametersClarity tag b => exact requestBody_keepsMaps h keepsMaps_clarity
  | setParametersClarityLimits tag b => exact requestBody_keepsMaps h fun _ _ => .of_maps rfl
  | setParametersZone tag b => exact requestBody_keepsMaps h fun _ _ => .of_maps rfl
  | setParametersSituation tag b => exact requestBody_keepsMaps h keepsMaps_situation
  | setParametersCadence tag b => exact requestBody_keepsMaps h keepsMaps_cadence
  | portEnable tag b => exact requestBody_keepsMaps h fun port s => (linkOnly_portEnable port s).mapsKept
  | portDisable tag b => exact requestBody_keepsMaps h fun port s => (linkOnly_portDisable port s).mapsKept
  | linkRestart tag b => exact requestBody_keepsMaps h fun port s => (linkOnly_linkRestart port s).mapsKept
  | portPreferenceList tag b => exact requestBody_keepsMaps h fun f s => (linkOnly_portPreference f s).mapsKept
  | windowSet tag b => exact requestBody_keepsMaps h fun f s => .of_rest (windowSet_rest s f)
  | windowDrop tag b => exact requestBody_keepsMaps h fun id s => .of_rest (windowDrop_rest s id)
  | seamSet tag b => exact requestBody_keepsMaps h fun f s => .of_rest (seamSet_rest s f)
  | gridBegin tag b => exact requestBody_keepsMaps h fun f s => (replacesGrid_gridBegin f s).mapsKept
  | gridNodes tag b => exact requestBody_keepsMaps h fun f s => (replacesGrid_gridNodes f s).mapsKept
  | gridEnd tag b => exact requestBody_keepsMaps h fun id s => (replacesGrid_gridEnd id s).mapsKept
  | gridDrop tag b => exact requestBody_keepsMaps h fun id s => (replacesGrid_gridDrop id s).mapsKept
  | shapeSet tag b => exact requestBody_keepsMaps h mapsKept_shapeSet
  | shapeDrop tag b => exact requestBody_keepsMaps h mapsKept_shapeDrop
  | setOverlayList tag b => exact requestBody_keepsMaps h mapsKept_setOverlayList
  | viewSet tag b => exact requestBody_keepsMaps h mapsKept_viewSet
  | paneSet tag b => exact requestBody_keepsMaps h mapsKept_paneSet
  | paneDrop tag b => exact requestBody_keepsMaps h mapsKept_paneDrop
  | viewMapSet tag b => exact requestBody_keepsMaps h mapsKept_viewMapSet
  | applyTables tag b => exact requestBody_keepsMaps h mapsKept_applyTables
  | vehicleState tag record => exact request_keepsMaps h fun s => (selectorOnly_vehicleState s record).mapsKept
  | forceView tag b => exact requestBody_keepsMaps h fun f s => (selectorOnly_forceView s f).mapsKept
  | releaseView tag b => exact requestBody_keepsMaps h fun x s => (selectorOnly_releaseView s x).mapsKept
  | silence tag b => exact requestBody_keepsMaps h fun _ _ => .of_maps rfl
  | readCamera tag b => exact requestBody_keepsMaps h fun camera s => .of_rest (readCamera_state s camera)
  | readMeter tag b => exact requestBody_keepsMaps h fun id s => .of_rest (readMeter_state s id)
  | readTable tag b => exact requestBody_keepsMaps h fun f s => .of_rest (readTable_state s f)
  | counterSelect tag b => exact requestBody_keepsMaps h fun f s => .of_rest (counterSelect_rest s f)
  | counterRead tag b => exact requestBody_keepsMaps h fun _ s => .refl s
  | modeConfig tag b => exact requestBody_keepsMaps h keepsMaps_modeConfig
  | modeRun tag b => exact requestBody_keepsMaps h keepsMaps_modeRun
  | modeStandby tag b => exact requestBody_keepsMaps h keepsMaps_modeStandby
  | restart tag b => exact requestBody_keepsMaps h mapsKept_restart

/-- Every step, a command of the queue or one millisecond, keeps the laws. -/
theorem step_keepsMaps {s t : State} (h : step s = .next t) : MapsKept s t := by
  unfold step at h
  split at h
  · cases h
    exact .of_maps rfl
  · next c rest _ =>
    have hqueue : MapsKept s (s.withPending rest) := .of_maps rfl
    exact hqueue.trans (exec_keepsMaps c h)

/-- Settles O5: the shares of the grid pool and of the point budget in `MapsKept`, over every step. -/
theorem stepKeepsPoolLaws : Obligations.StepKeepsPoolLaws :=
  ⟨fun _ _ hs h => (step_keepsMaps h).grid hs, fun _ _ hs h => (step_keepsMaps h).shape hs⟩

/-- Settles O9: the shares of the panes and of the overlay lists in `MapsKept`, over every step. -/
theorem stepKeepsReferenceLaws : Obligations.StepKeepsReferenceLaws :=
  ⟨fun _ _ hs h => (step_keepsMaps h).pane hs, fun _ _ hs h => (step_keepsMaps h).list hs⟩

end Sys2Proof.Machine
end

section
/-! PROOF. The requests of the grid store by their checks (R45 to R49): GRID BEGIN, GRID NODES, GRID END and GRID DROP. -/

namespace Sys2Proof.Machine

/-! ## Answers about a grid (R49) -/

/-- The answer about a grid just replaced names the new grid. -/
theorem gridAnswer_setGrid (st : Status) (g : Fin 16) (x : Grid) (s : State) : gridAnswer st g (s.setGrid g x)
    = ⟨st, .grid x.state x.written (s.grids.replace g x).free, s.setGrid g x⟩ := by
  have hg : (s.setGrid g x).grid g = x := look_put_same ..
  unfold gridAnswer
  rw [hg]
  rfl

section
variable {s : State} {r : Instr} (h : Takes s r) {kind tag : Byte} {f : State → Answer} {g : Fin 16}
include h

/-- A request that is answered about a grid and changes none. -/
theorem request_gridAnswer {st : Status} (hf : ∀ k, f { s with control := k } = gridAnswer st g { s with control := k }) :
    request r kind tag f s
      = .next (s.replied kind tag st (.grid (s.grid g).state (s.grid g).written s.grids.free)).drivePins :=
  request_taken h (g := id) hf (fun _ => rfl) fun _ _ => rfl

/-- A request that replaces a grid. -/
theorem request_setGrid {x : Grid}
    (hf : ∀ k, f { s with control := k } = gridAnswer .ok g (State.setGrid { s with control := k } g x)) :
    request r kind tag f s = .next (State.drivePins
      { s.replied kind tag .ok (.grid x.state x.written (s.grids.replace g x).free) with grids := s.grids.replace g x }) :=
  request_taken h (g := fun t => t.setGrid g x) (fun k => (hf k).trans (gridAnswer_setGrid ..)) (fun _ => rfl)
    fun _ _ => rfl

end

/-! ## GRID BEGIN (R45) -/

theorem gridSizeOk_iff {cols rows : Nat} : gridSizeOk cols rows = true ↔ 2 ≤ cols ∧ cols ≤ 17 ∧ 2 ≤ rows ∧ rows ≤ 17 := by
  simp [gridSizeOk, and_assoc]

theorem gridBegin_of_le {f : GridBeginFields} (h : 16 ≤ f.id) (s : State) : gridBegin f s = refuse .badValue s := by
  unfold gridBegin
  rw [index?_eq_none.mpr h]

/-- GRID BEGIN of a grid by its checks (R45). -/
theorem gridBegin_val (g : Fin 16) (cols rows : Nat) (s : State) : gridBegin ⟨g.val, cols, rows⟩ s =
    if ¬(2 ≤ cols ∧ cols ≤ 17 ∧ 2 ≤ rows ∧ rows ≤ 17) then gridAnswer .badValue g s
    else if (s.grid g).isReady = true ∧ gridReferenced s.views g = true then gridAnswer .badState g s
    else if s.grids.free + (s.grid g).size < cols * rows then gridAnswer .noRoom g s
    else gridAnswer .ok g (s.setGrid g (.loading cols rows (List.replicate (cols * rows) none))) := by
  unfold gridBegin
  rw [index?_val]
  dsimp only
  refine if_congr ?_ rfl rfl
  rw [Bool.not_eq_true', Bool.eq_false_iff, ne_eq, gridSizeOk_iff]

/-- No node of a grid just begun is written. -/
theorem Grid.written_begun (cols rows n : Nat) : (Grid.loading cols rows (List.replicate n none)).written = 0 := by
  simp [Grid.written, List.countP_eq_zero]

/-- Settles O36, check by check: each failing one is answered about the grid as it is. -/
theorem gridBeginByItsChecks : Obligations.GridBeginByItsChecks := by
  refine ⟨fun s tag f ht hid => request_refused ht fun k => gridBegin_of_le hid _, fun s tag g cols rows ht => ?_⟩
  have hbegin := fun k : Control => gridBegin_val g cols rows { s with control := k }
  dsimp only
  split
  · next hsize => exact request_gridAnswer ht fun k => (hbegin k).trans (if_pos hsize)
  · next hsize =>
    replace hbegin := fun k => (hbegin k).trans (if_neg hsize)
    split
    · next hstate => exact request_gridAnswer ht fun k => (hbegin k).trans (if_pos hstate)
    · next hstate =>
      replace hbegin := fun k => (hbegin k).trans (if_neg hstate)
      split
      · next hroom => exact request_gridAnswer ht fun k => (hbegin k).trans (if_pos hroom)
      · next hroom =>
        have ht := request_setGrid ht (kind := 0x08) (tag := tag) fun k => (hbegin k).trans (if_neg hroom)
        rw [Grid.written_begun] at ht
        exact ht

/-! ## GRID NODES (R46) -/

theorem writeNodes_length (nodes : List (Option Node)) (first : Nat) (new : List Node) :
    (writeNodes nodes first new).length = nodes.length := List.length_mapIdx

theorem writeNodes_getElem? (nodes : List (Option Node)) (first : Nat) (new : List Node) (i : Nat) :
    (writeNodes nodes first new)[i]?
      = nodes[i]?.map fun old => if first ≤ i then new[i - first]?.or old else old := List.getElem?_mapIdx

/-- Each node carried is written at its index, with its written mark (R46). -/
theorem writeNodes_carried {nodes : List (Option Node)} {first : Nat} {new : List Node}
    (h : first + new.length ≤ nodes.length) {i : Nat} (hi : i < new.length) :
    (writeNodes nodes first new)[first + i]? = some new[i]? := by
  have hold : first + i < nodes.length := by omega
  rw [writeNodes_getElem?, List.getElem?_eq_getElem hold, Option.map_some, if_pos (Nat.le_add_right ..),
    Nat.add_sub_cancel_left, List.getElem?_eq_getElem hi, Option.some_or]

/-- A node that is not carried is left as it was (R46). -/
theorem writeNodes_other {nodes : List (Option Node)} {first : Nat} {new : List Node} {i : Nat}
    (h : i < first ∨ first + new.length ≤ i) : (writeNodes nodes first new)[i]? = nodes[i]? := by
  have hkeep : (fun old => if first ≤ i then new[i - first]?.or old else old) = (id : Option Node → Option Node) := by
    funext old
    obtain h | h := h
    · exact if_neg (Nat.not_le_of_lt h)
    · rw [if_pos (by omega), List.getElem?_eq_none (by omega), Option.none_or, id]
  rw [writeNodes_getElem?, hkeep, Option.map_id, id]

theorem gridNodes_badLength {f : GridNodesFields} (h : f.nodes = [] ∨ 40 < f.nodes.length) (s : State) :
    gridNodes f s = refuse .badLength s := if_pos h

section
variable {new : List Node} (h1 : 1 ≤ new.length) (h2 : new.length ≤ 40) (s : State)
include h1 h2

/-- A count of nodes that the length check passes (R46). -/
theorem nodeCount_passes : ¬(new = [] ∨ 40 < new.length) := by
  rintro (rfl | h)
  · exact absurd h1 (by decide)
  · exact absurd h2 (Nat.not_le_of_lt h)

theorem gridNodes_of_le {id first : Nat} (h : 16 ≤ id) : gridNodes ⟨id, first, new⟩ s = refuse .badValue s := by
  unfold gridNodes
  rw [if_neg (nodeCount_passes h1 h2), index?_eq_none.mpr h]

variable {g : Fin 16} {first : Nat}

theorem gridNodes_loading {cols rows : Nat} {nodes : List (Option Node)} (h : s.grid g = .loading cols rows nodes) :
    gridNodes ⟨g.val, first, new⟩ s = if cols * rows < first + new.length then gridAnswer .badValue g s
      else gridAnswer .ok g (s.setGrid g (.loading cols rows (writeNodes nodes first new))) := by
  unfold gridNodes
  rw [if_neg (nodeCount_passes h1 h2), index?_val]
  dsimp only
  rw [h]

theorem gridNodes_badState (h : (s.grid g).state ≠ .loading) :
    gridNodes ⟨g.val, first, new⟩ s = gridAnswer .badState g s := by
  unfold gridNodes
  rw [if_neg (nodeCount_passes h1 h2), index?_val]
  dsimp only
  split
  · next he => exact absurd (congrArg Grid.state he) h
  · rfl
  · rfl

end

/-- A LOADING grid has columns, rows and nodes. -/
theorem Grid.exists_of_loading {x : Grid} (h : x.state = .loading) : ∃ cols rows nodes, x = .loading cols rows nodes := by
  cases x with
  | empty => cases h
  | loading cols rows nodes => exact ⟨cols, rows, nodes, rfl⟩
  | ready cols rows nodes => cases h

theorem Grid.state_eq_empty {x : Grid} : x.state = .empty ↔ x = .empty := by
  cases x <;> simp [Grid.state]

/-- Only a LOADING grid has written marks (R49). -/
theorem Grid.written_of_state_ne {x : Grid} (h : x.state ≠ .loading) : x.written = 0 := by
  cases x with
  | empty => rfl
  | loading cols rows nodes => exact absurd rfl h
  | ready cols rows nodes => rfl

/-- Writing nodes takes none from the pool (R43, R46). -/
theorem GridStore.replace_loading_free {gs : GridStore} {g : Fin 16} {cols rows : Nat} {nodes : List (Option Node)}
    (h : look gs.grids g = .loading cols rows nodes) (written : List (Option Node)) :
    (gs.replace g (.loading cols rows written)).free = gs.free := by
  have hfree : (gs.replace g (.loading cols rows written)).free = gs.free + (look gs.grids g).size - cols * rows := rfl
  rw [hfree, h]
  exact Nat.add_sub_cancel ..

/-- Settles O37: the nodes written are those of `writeNodes`; a refusal is answered with nothing written. -/
theorem gridNodesByTheirChecks : Obligations.GridNodesByTheirChecks := by
  refine ⟨fun s tag g first cols rows new nodes ht h1 h2 hgrid hlen hroom => ?_,
    fun s tag f ht => ⟨fun hlen => request_refused ht fun k => gridNodes_badLength hlen _,
      fun hid h1 h2 => request_refused ht fun k => gridNodes_of_le h1 h2 _ hid⟩,
    fun s tag g first new ht => ⟨fun h1 h2 hstate => request_gridAnswer ht fun k => gridNodes_badState h1 h2 _ hstate,
      fun h1 h2 hstate hpast => request_gridAnswer ht fun k => ?_⟩⟩
  · have hexec := request_setGrid ht (kind := 0x09) (tag := tag) (f := gridNodes ⟨g.val, first, new⟩) fun k =>
      (gridNodes_loading h1 h2 { s with control := k } hgrid).trans (if_neg (Nat.not_lt.mpr hroom))
    have hfree := GridStore.replace_loading_free hgrid (writeNodes nodes first new)
    rw [hfree] at hexec
    refine ⟨_, writeNodes nodes first new, hexec, look_put_same .., writeNodes_length .., fun i hi => ?_,
      fun i hi => writeNodes_other hi, hfree, fun k hk => (look_put ..).trans (if_neg hk.symm), rfl, rfl⟩
    exact writeNodes_carried (by omega) hi
  · obtain ⟨cols, rows, nodes, hgrid⟩ := Grid.exists_of_loading hstate
    rw [hgrid] at hpast
    exact (gridNodes_loading h1 h2 { s with control := k } hgrid).trans (if_pos hpast)

/-! ## GRID END and GRID DROP (R47, R48) -/

theorem gridEnd_of_le {id : Nat} (h : 16 ≤ id) (s : State) : gridEnd id s = refuse .badValue s := by
  unfold gridEnd
  rw [index?_eq_none.mpr h]

/-- Nodes that are all written are the nodes of a READY grid (R47). -/
theorem map_some_filterMap {nodes : List (Option Node)} (h : nodes.all Option.isSome = true) :
    (nodes.filterMap fun n => n).map some = nodes := by
  induction nodes with
  | nil => rfl
  | cons n nodes ih =>
    rw [List.all_cons, Bool.and_eq_true] at h
    obtain ⟨hn, hnodes⟩ := h
    obtain ⟨x, rfl⟩ := Option.isSome_iff_exists.mp hn
    exact congrArg (some x :: ·) (ih hnodes)

theorem gridEnd_complete {g : Fin 16} {s : State} {cols rows : Nat} {nodes : List Node}
    (h : s.grid g = .loading cols rows (nodes.map some)) :
    gridEnd g.val s = gridAnswer .ok g (s.setGrid g (.ready cols rows nodes)) := by
  unfold gridEnd
  rw [index?_val]
  dsimp only
  rw [h]
  dsimp only
  rw [if_pos (by simp), List.filterMap_map]
  exact congrArg (fun l => gridAnswer .ok g (s.setGrid g (.ready cols rows l))) List.filterMap_some

theorem gridEnd_badState {g : Fin 16} {s : State}
    (h : ∀ (cols rows : Nat) (nodes : List Node), s.grid g ≠ .loading cols rows (nodes.map some)) :
    gridEnd g.val s = gridAnswer .badState g s := by
  unfold gridEnd
  rw [index?_val]
  dsimp only
  split
  · next cols rows nodes he =>
    refine if_neg fun hall => h cols rows (nodes.filterMap fun n => n) ?_
    rw [he, map_some_filterMap hall]
  · rfl
  · rfl

theorem gridDrop_of_le {id : Nat} (h : 16 ≤ id) (s : State) : gridDrop id s = refuse .badValue s := by
  unfold gridDrop
  rw [index?_eq_none.mpr h]

/-- GRID DROP of a grid by its checks (R48). -/
theorem gridDrop_val (g : Fin 16) (s : State) : gridDrop g.val s =
    if (s.grid g).state = .empty then gridAnswer .notFound g s
    else if (s.grid g).state = .ready ∧ gridReferenced s.views g = true then gridAnswer .badState g s
    else gridAnswer .ok g (s.setGrid g .empty) := by
  unfold gridDrop
  rw [index?_val]
  dsimp only
  cases s.grid g with
  | empty => rfl
  | loading cols rows nodes => exact ((if_neg (by simp [Grid.state])).trans (if_neg (by simp [Grid.state]))).symm
  | ready cols rows nodes =>
    refine Eq.symm ((if_neg (by simp [Grid.state])).trans (if_congr ?_ rfl rfl))
    exact and_iff_right rfl

/-- Settles O38: GRID END by whether the nodes are all written, GRID DROP by the state and the references. -/
theorem gridEndAndDrop : Obligations.GridEndAndDrop := by
  refine ⟨fun s tag id hid => ⟨fun ht => request_refused ht fun k => gridEnd_of_le hid _,
    fun ht => request_refused ht fun k => gridDrop_of_le hid _⟩, fun s tag g ht => ⟨fun cols rows nodes hgrid => ?_,
    fun hgrid => request_gridAnswer ht fun k => gridEnd_badState hgrid⟩, fun s tag g ht => ?_⟩
  · have hexec := request_setGrid ht (kind := 0x0A) (tag := tag) (f := gridEnd g.val) fun k =>
      gridEnd_complete (s := { s with control := k }) hgrid
    have hfree : s.grids.replace g (.ready cols rows nodes) = ⟨put s.grids.grids g (.ready cols rows nodes), s.grids.free⟩ := by
      have hsize : (s.grid g).size = cols * rows := by rw [hgrid]; rfl
      exact congrArg (GridStore.mk _) ((congrArg (s.grids.free + · - cols * rows) hsize).trans (Nat.add_sub_cancel ..))
    rw [hfree] at hexec
    exact hexec
  · have hdrop := fun k : Control => gridDrop_val g { s with control := k }
    split
    · next hstate =>
      have hexec := request_gridAnswer ht (kind := 0x0B) (tag := tag) fun k => (hdrop k).trans (if_pos hstate)
      rw [Grid.state_eq_empty.mp hstate] at hexec
      exact hexec
    · next hstate =>
      replace hdrop := fun k => (hdrop k).trans (if_neg hstate)
      split
      · next hready =>
        have hexec := request_gridAnswer ht (kind := 0x0B) (tag := tag) fun k => (hdrop k).trans (if_pos hready)
        have hwritten : (s.grid g).written = 0 := Grid.written_of_state_ne (by rw [hready.1]; decide)
        rw [hready.1, hwritten] at hexec
        exact hexec
      · next hready => exact request_setGrid ht fun k => (hdrop k).trans (if_neg hready)

end Sys2Proof.Machine
end

section
/-! PROOF. The layers of an output frame (R55, R72 to R82, R152): marks, the patterns of a pane, icons, border, slots, and the
frame outside RUN and in RUN. -/

namespace Sys2Proof.Machine

/-! ## Marks (R79) -/

/-- A pattern covers its set pixels (R79, R151). -/
theorem coversPattern_iff {pattern : Nat → Nat → Bool} {size ox oy x y : Nat} (h : 0 < size) :
    coversPattern pattern size ox oy x y = true ↔ InMark pattern size ox oy x y := by
  have hx : (x - ox) / size < 16 ↔ x - ox < 16 * size := Nat.div_lt_iff_lt_mul h
  have hy : (y - oy) / size < 16 ↔ y - oy < 16 * size := Nat.div_lt_iff_lt_mul h
  simp only [coversPattern, Bool.and_eq_true, decide_eq_true_eq, hx, hy]
  constructor
  · rintro ⟨⟨⟨⟨hox, hoy⟩, hx⟩, hy⟩, hp⟩
    exact ⟨hox, by omega, hoy, by omega, hp⟩
  · rintro ⟨hox, hx, hoy, hy, hp⟩
    exact ⟨⟨⟨⟨hox, hoy⟩, by omega⟩, by omega⟩, hp⟩

/-- A glyph covers its set pixels; glyph 31 has none (R151). -/
theorem coversGlyph_iff {g : Fin 32} {size ox oy x y : Nat} (h : 0 < size) :
    coversPattern (glyphSet g) size ox oy x y = true ↔ g ≠ 31 ∧ InMark (Config.glyphPattern g.val) size ox oy x y := by
  rw [coversPattern_iff h]
  simp only [InMark, glyphSet, Bool.and_eq_true, decide_eq_true_eq]
  tauto

theorem drawMark_pattern {pattern : Nat → Nat → Bool} {size : Nat} (h : 0 < size) (ox oy : Nat) (colour : Pixel)
    (x y : Nat) (value : Pixel) : drawMark pattern size ox oy colour x y value
      = if InMark pattern size ox oy x y then colour else value :=
  if_congr (coversPattern_iff h) rfl rfl

theorem drawMark_glyph {g : Fin 32} {size : Nat} (h : 0 < size) (ox oy : Nat) (colour : Pixel) (x y : Nat) (value : Pixel) :
    drawMark (glyphSet g) size ox oy colour x y value
      = if g ≠ 31 ∧ InMark (Config.glyphPattern g.val) size ox oy x y then colour else value :=
  if_congr (coversGlyph_iff h) rfl rfl

/-- A mark drawn under a condition. -/
theorem drawMark_when {pattern : Nat → Nat → Bool} {size : Nat} (h : 0 < size) (cond : Prop) [Decidable cond] (ox oy : Nat)
    (colour : Pixel) (x y : Nat) (value : Pixel) :
    (if cond then drawMark pattern size ox oy colour x y value else value)
      = if cond ∧ InMark pattern size ox oy x y then colour else value := by
  rw [drawMark_pattern h]
  exact (ite_and ..).symm

/-! ## A pane's layers (R55, R76 to R81) -/

theorem SegState.usable_iff (x : SegState) : x.usable = true ↔ x = .fresh ∨ x = .held := by
  cases x <;> simp [SegState.usable]

/-- Where the deciding segment is EMPTY or STALE the pixel is the stale hatch (R55, R76). -/
theorem State.sourcePixel_unusable {s : State} {c : Cam} {m : CamMode} {v : Nat} {e : SegEntry}
    (he : (s.store c).latch.table[decidingRow (sourcePos v (modeHeight m)) / 16]? = some e)
    (h : e.state = .empty ∨ e.state = .stale) (u x y : Nat) : s.sourcePixel c m u v x y = staleHatch x y := by
  refine if_neg ?_
  unfold CamLatch.rowUsable
  rw [he, Option.any_some, SegState.usable_iff]
  obtain h | h := h <;> simp [h]

theorem onBorder_iff {g : Geometry} {px py : Nat} :
    onBorder g px py = true ↔ px < 2 ∨ g.w ≤ px + 2 ∨ py < 2 ∨ g.h ≤ py + 2 := by
  simp [onBorder, or_assoc]

/-- The zone watch's latch holds an ACTIVE and armed zone of the camera (R81). -/
theorem State.latchedAlarm_iff {s : State} {c : Cam} : s.latchedAlarm c = true
    ↔ ∃ z ∈ s.display.latch.zones, z.camera = c ∧ z.state = .active ∧ z.armed = true := by
  simp [State.latchedAlarm, List.any_eq_true, and_assoc]

section
variable (s : State) (p : Pane) (choice : Option ChosenSource) (px py : Nat) (value : Pixel)

theorem State.drawBorder_inside (h : ¬(px < 2 ∨ p.geometry.w ≤ px + 2 ∨ py < 2 ∨ p.geometry.h ≤ py + 2)) :
    s.drawBorder p choice px py value = value := if_neg (mt onBorder_iff.mp h)

theorem State.drawBorder_edge (h : px < 2 ∨ p.geometry.w ≤ px + 2 ∨ py < 2 ∨ p.geometry.h ≤ py + 2) :
    s.drawBorder p choice px py value
      = if (∃ z ∈ s.display.latch.zones, z.camera = borderCamera p choice ∧ z.state = .active ∧ z.armed = true)
          ∧ s.cadence.latchedPhase = true then hazardColour else p.border := by
  refine (if_pos (onBorder_iff.mpr h)).trans (if_congr ?_ rfl rfl)
  rw [Bool.and_eq_true, State.latchedAlarm_iff]

/-- The icons of a chosen source: ALT over LENS (R80). -/
theorem State.statusIcons_some (ch : ChosenSource) : s.statusIcons p (some ch) px py value
    = if ch.alternate = true ∧ InMark (Config.markPattern .alt) 1 4 4 px py then markWhite
      else if (s.store ch.source.camera).latch.health = .obscured
        ∧ InMark (Config.markPattern .lens) 1 (p.geometry.w - 20) 4 px py then amber
      else value := by
  unfold State.statusIcons
  dsimp only
  rw [drawMark_when Nat.one_pos, drawMark_when Nat.one_pos]

end

/-! ## The slots and the frame (R74, R75, R82) -/

theorem inRectangle_iff {g : Geometry} {x y : Nat} :
    inRectangle g x y = true ↔ g.x ≤ x ∧ x < g.x + g.w ∧ g.y ≤ y ∧ y < g.y + g.h := by
  simp [inRectangle, and_assoc]

section
variable {s : State} {view : View} {k : Fin 6} (x y : Nat) (value : Pixel)

theorem State.drawSlot_none (h : look view.panes k = none) : s.drawSlot view x y value k = value := by
  unfold State.drawSlot
  rw [h]

/-- A present pane is drawn inside its rectangle alone (R75). -/
theorem State.drawSlot_some {p : Pane} (h : look view.panes k = some p) : s.drawSlot view x y value k
    = if p.geometry.x ≤ x ∧ x < p.geometry.x + p.geometry.w ∧ p.geometry.y ≤ y ∧ y < p.geometry.y + p.geometry.h then
        s.paneContent p (look s.views.choice k) view.background (x - p.geometry.x) (y - p.geometry.y)
      else value := by
  unfold State.drawSlot
  rw [h]
  exact if_congr inRectangle_iff rfl rfl

end

section
variable {s : State} (x y : Nat)

theorem State.pixelAt_standby (h : s.display.latch.mode = .standby) : s.pixelAt x y = standbyBlack := by
  unfold State.pixelAt
  rw [h]

theorem State.pixelAt_config (h : s.display.latch.mode = .config) : s.pixelAt x y
    = if InMark (Config.markPattern .setup) 2 496 284 x y then markWhite else flatGrey := by
  unfold State.pixelAt
  rw [h]
  exact drawMark_pattern Nat.two_pos ..

/-- The layers of a frame in RUN (R75, R82). -/
theorem State.pixelAt_run (h : s.display.latch.mode = .run) :
    let view := look s.views.live.views s.display.latch.shown
    let back := drawMark (glyphSet view.label) 1 1004 580 markWhite x y view.background
    let screen := overlayList s ⟨false, false⟩ 0 x y
      (([0, 1, 2, 3, 4, 5] : List (Fin 6)).foldl (s.drawSlot view x y) back)
    s.pixelAt x y = if s.display.latch.situation = .noData ∧ InMark (Config.markPattern .noData) 2 988 4 x y then amber
      else screen := by
  have hslots : List.finRange 6 = [0, 1, 2, 3, 4, 5] := by decide
  unfold State.pixelAt
  rw [h]
  dsimp only
  unfold State.runPixel
  dsimp only
  rw [hslots, drawMark_when Nat.two_pos]

end

/-- Settles O45, layer by layer. -/
theorem patternsOfTheOutputFrame : Obligations.PatternsOfTheOutputFrame := by
  refine ⟨fun s c m u v x y e he h => State.sourcePixel_unusable he h u x y,
    fun s x y => ⟨State.pixelAt_standby x y, fun h hout => ?configOutside, fun h hx1 hx2 hy1 hy2 => ?configMark⟩,
    fun s p choice px py value => ⟨State.drawBorder_inside s p choice px py value, fun h => ?border⟩,
    fun s p background px py => ⟨fun _ => rfl, fun h => ?frozen, fun h => ?noPicture⟩,
    fun s p ch px py value => ⟨rfl, State.statusIcons_some ..⟩,
    fun s view x y value k => ⟨State.drawSlot_none x y value, fun p h => ?slot⟩,
    fun s x y h => ?run⟩
  case configOutside =>
    exact (State.pixelAt_config x y h).trans (if_neg (by rintro ⟨h1, h2, h3, h4, -⟩; omega))
  case configMark =>
    refine (State.pixelAt_config x y h).trans ?_
    exact if_congr ⟨fun ⟨_, _, _, _, hset⟩ => hset, fun hset => ⟨hx1, hx2, hy1, hy2, hset⟩⟩ rfl rfl
  case border =>
    refine (State.drawBorder_edge s p choice px py value h).trans ?_
    cases choice <;> rfl
  case frozen => exact (if_pos h).trans (drawMark_pattern Nat.two_pos ..)
  case noPicture => exact (if_neg h).trans (drawMark_glyph Nat.two_pos ..)
  case slot =>
    refine (State.drawSlot_some x y value h).trans ?_
    unfold State.paneContent
    cases look s.views.choice k <;> rfl
  case run =>
    have hrun := State.pixelAt_run x y h
    dsimp only at hrun
    rw [drawMark_glyph Nat.one_pos] at hrun
    exact hrun

end Sys2Proof.Machine
end

section
/-! PROOF. The arithmetic of a pane pixel, stages 1 to 8 (R52 to R58): averages with their rounding, the place in a cell and in the
picture, the sample of the shown banks, tone and blend. -/

namespace Sys2Proof.Machine

/-! ## Rounded averages -/

/-- A sum of `n` shares between `lo` and `hi`, with less than one share added for the rounding, averages between them. -/
theorem average_bounds {n h sum lo hi : Nat} (hn : h < n) (hlo : lo * n ≤ sum) (hhi : sum ≤ hi * n) :
    lo ≤ (sum + h) / n ∧ (sum + h) / n ≤ hi := by
  have hpos : 0 < n := Nat.zero_lt_of_lt hn
  refine ⟨(Nat.le_div_iff_mul_le hpos).mpr (by omega), Nat.le_of_lt_succ ((Nat.div_lt_iff_lt_mul hpos).mpr ?_)⟩
  rw [Nat.succ_mul]
  omega

/-- Four corner values weighted by their shares of a rectangle, whose sides are cut into `p` and `q`, and `r` and `t`. -/
theorem corners_bounds {a b c d lo hi : Nat} (p q r t : Nat) (ha : lo ≤ a ∧ a ≤ hi) (hb : lo ≤ b ∧ b ≤ hi)
    (hc : lo ≤ c ∧ c ≤ hi) (hd : lo ≤ d ∧ d ≤ hi) :
    lo * ((p + q) * (r + t)) ≤ a * p * r + b * q * r + c * p * t + d * q * t
      ∧ a * p * r + b * q * r + c * p * t + d * q * t ≤ hi * ((p + q) * (r + t)) := by
  have hshares : ∀ x, x * ((p + q) * (r + t)) = x * (p * r) + x * (q * r) + x * (p * t) + x * (q * t) := fun x => by ring
  rw [hshares, hshares, mul_assoc a, mul_assoc b, mul_assoc c, mul_assoc d]
  exact ⟨by gcongr <;> tauto, by gcongr <;> tauto⟩

/-! ## Stages 1 to 3 (R52, R53) -/

section
variable {p : CellPlace} (hx : p.fx < p.cw) (hy : p.fy < p.ch) {a b c d : Nat}
include hx hy

/-- A source position lies between its corner values (R53). -/
theorem interpolate_bounds {lo hi : Nat} (ha : lo ≤ a ∧ a ≤ hi) (hb : lo ≤ b ∧ b ≤ hi) (hc : lo ≤ c ∧ c ≤ hi)
    (hd : lo ≤ d ∧ d ≤ hi) : lo ≤ interpolate p a b c d ∧ interpolate p a b c d ≤ hi := by
  have hcell : (p.cw - p.fx + p.fx) * (p.ch - p.fy + p.fy) = p.cw * p.ch := by
    rw [Nat.sub_add_cancel hx.le, Nat.sub_add_cancel hy.le]
  have hsum := corners_bounds (p.cw - p.fx) p.fx (p.ch - p.fy) p.fy ha hb hc hd
  rw [hcell] at hsum
  have hpos : 0 < p.cw * p.ch := Nat.mul_pos (Nat.zero_lt_of_lt hx) (Nat.zero_lt_of_lt hy)
  exact average_bounds (Nat.div_lt_self hpos (by decide)) hsum.1 hsum.2

/-- At a node the source position is the node's own (R53). -/
theorem interpolate_node (hfx : p.fx = 0) (hfy : p.fy = 0) : interpolate p a b c d = a := by
  have hpos : 0 < p.cw * p.ch := Nat.mul_pos (Nat.zero_lt_of_lt hx) (Nat.zero_lt_of_lt hy)
  have hnode : interpolate p a b c d = (a * (p.cw * p.ch) + p.cw * p.ch / 2) / (p.cw * p.ch) := by
    unfold interpolate
    simp [hfx, hfy, mul_assoc]
  obtain ⟨hlo, hhi⟩ := average_bounds (Nat.div_lt_self hpos (by decide : 1 < 2)) (Nat.le_refl (a * (p.cw * p.ch)))
    (Nat.le_refl _)
  exact hnode.trans (Nat.le_antisymm hhi hlo)

end

/-- A pane pixel in a cell whose four nodes the grid has: the background at a void node, and otherwise the camera's picture at
the weighted average of the corners (R53). -/
theorem State.samplePane_eq {s : State} {p : Pane} {src : PaneSource} {px py cols rows : Nat} {nodes : List Node} {m : CamMode}
    {a b c d : Node} (hgrid : s.grid src.grid = .ready cols rows nodes) (hmode : (s.store src.camera).latch.mode = some m)
    (hcell : cellNodes? nodes cols (cellPlace p.geometry p.mirror cols rows px py) = some (a, b, c, d)) (background : Pixel) :
    s.samplePane p src background px py = if a.void || b.void || c.void || d.void then background
      else s.sourcePixel src.camera m
        (interpolate (cellPlace p.geometry p.mirror cols rows px py) a.u.toNat b.u.toNat c.u.toNat d.u.toNat)
        (interpolate (cellPlace p.geometry p.mirror cols rows px py) a.v.toNat b.v.toNat c.v.toNat d.v.toNat)
        (p.geometry.x + px) (p.geometry.y + py) := by
  have hlook : look s.grids.grids src.grid = .ready cols rows nodes := hgrid
  unfold State.samplePane
  rw [hlook, hmode]
  dsimp only
  rw [hcell]

theorem cellNodes?_eq_some {nodes : List Node} {cols : Nat} {p : CellPlace} {a b c d : Node}
    (ha : nodes[p.cy * cols + p.cx]? = some a) (hb : nodes[p.cy * cols + p.cx + 1]? = some b)
    (hc : nodes[p.cy * cols + p.cx + cols]? = some c) (hd : nodes[p.cy * cols + p.cx + cols + 1]? = some d) :
    cellNodes? nodes cols p = some (a, b, c, d) := by
  unfold cellNodes?
  dsimp only
  rw [ha, hb, hc, hd]

/-! ## Stage 4 (R54) -/

/-- A source position along an axis: the sixteenths are those of pixel and fraction, which stay inside the picture (R54). -/
theorem sourcePos_inside (u size : Nat) :
    let p := sourcePos u size
    p.p0 ≤ size - 1 ∧ p.p1 ≤ size - 1 ∧ p.a ≤ 15
      ∧ 16 * p.p0 + p.a = min ((size - 1) * 16) ((u * size * 16 + 32768) / 65536) ∧ (p.p0 < size - 1 → p.p1 = p.p0 + 1)
      ∧ (p.p0 = size - 1 → p.p1 = p.p0 ∧ p.a = 0) := by
  unfold sourcePos
  dsimp only
  generalize (u * size * 16 + 32768) / 65536 = k
  omega

theorem sourcePos_fraction (u size : Nat) : (sourcePos u size).a ≤ 15 := by
  obtain ⟨-, -, hfraction, -⟩ := sourcePos_inside u size
  exact hfraction

/-! ## Stages 5 to 7 (R55 to R57) -/

/-- A pixel of the latched shown bank (R56). -/
theorem CamLatch.pixel_eq {l : CamLatch} {x row : Nat} {body : SegmentBody} {pixels : List Pixel} {p : Pixel}
    (hbody : readCell l.contents (bankKey (row / 16) (shownBank l.shown (row / 16))) = some body)
    (hline : body[row % 16]? = some pixels) (hp : pixels[x]? = some p) (epoch : Nat) (cam : Cam) :
    l.pixel epoch cam x row = p := by
  unfold CamLatch.pixel cellPixel
  dsimp only
  rw [hbody, Option.bind_some, hline, Option.bind_some, hp, Option.getD_some]

/-- Stage 6 of one component as a number, before it is made a byte (R56). -/
def bilinearSum (x y : SourcePos) (a b c d : Byte) : Nat :=
  a.toNat * (16 - x.a) * (16 - y.a) + b.toNat * x.a * (16 - y.a) + c.toNat * (16 - x.a) * y.a + d.toNat * x.a * y.a

section
variable {x y : SourcePos} (hx : x.a ≤ 15) (hy : y.a ≤ 15) {a b c d : Byte}
include hx hy

theorem bilinearSum_bounds {lo hi : Nat} (ha : lo ≤ a.toNat ∧ a.toNat ≤ hi) (hb : lo ≤ b.toNat ∧ b.toNat ≤ hi)
    (hc : lo ≤ c.toNat ∧ c.toNat ≤ hi) (hd : lo ≤ d.toNat ∧ d.toNat ≤ hi) :
    lo ≤ (bilinearSum x y a b c d + 128) / 256 ∧ (bilinearSum x y a b c d + 128) / 256 ≤ hi := by
  have hcell : (16 - x.a + x.a) * (16 - y.a + y.a) = 256 := by
    rw [Nat.sub_add_cancel (by omega), Nat.sub_add_cancel (by omega)]
  have hsum := corners_bounds (16 - x.a) x.a (16 - y.a) y.a ha hb hc hd
  rw [hcell] at hsum
  exact average_bounds (by decide) hsum.1 hsum.2

/-- A byte lies in 0 to 255, and so does the sample of four. -/
theorem bilinearSum_byte : (bilinearSum x y a b c d + 128) / 256 ≤ 255 := by
  have hbyte : ∀ e : Byte, 0 ≤ e.toNat ∧ e.toNat ≤ 255 := fun e => ⟨Nat.zero_le _, Nat.le_of_lt_succ e.isLt⟩
  exact (bilinearSum_bounds hx hy (hbyte a) (hbyte b) (hbyte c) (hbyte d)).2

theorem bilinear_toNat : (bilinear x y a b c d).toNat = (bilinearSum x y a b c d + 128) / 256 := by
  have hbyte := bilinearSum_byte hx hy (a := a) (b := b) (c := c) (d := d)
  exact (BitVec.toNat_ofNat ..).trans (Nat.mod_eq_of_lt (Nat.lt_succ_of_le hbyte))

end

/-- On a pixel's place the sample is that pixel (R56). -/
theorem bilinear_pixel {x y : SourcePos} (hx : x.a = 0) (hy : y.a = 0) (a b c d : Byte) : bilinear x y a b c d = a := by
  refine BitVec.eq_of_toNat_eq ((bilinear_toNat (by omega) (by omega)).trans ?_)
  simp only [bilinearSum, hx, hy]
  omega

theorem toneLevel_black {y black : Nat} (h : y ≤ black) (gain : Nat) : toneLevel y gain black = 0 := if_pos h

/-- Gain 1 without black offset keeps every level (R57). -/
theorem toneLevel_unit (y : Byte) : toneLevel y.toNat 256 0 = y.toNat := by
  have hy := y.isLt
  unfold toneLevel
  split <;> omega

/-- The largest gain saturates 64 levels above the black offset (R57). -/
theorem toneLevel_saturated {y black : Nat} (h : black + 64 ≤ y) : toneLevel y 1023 black = 255 := by
  unfold toneLevel
  rw [if_neg (by omega)]
  omega

/-- The entries that drawing may use (R55). -/
theorem usable_eq : (fun e : SegEntry => decide (e.state = .fresh ∨ e.state = .held)) = fun e => e.state.usable := by
  funext e
  rw [Bool.eq_iff_iff, decide_eq_true_eq, SegState.usable_iff]

/-- Stages 6 and 7 where the deciding segment is FRESH or HELD (R55 to R57). -/
theorem State.sourcePixel_usable {s : State} {cam : Cam} {m : CamMode} {v : Nat} {e : SegEntry}
    (he : (s.store cam).latch.table[decidingRow (sourcePos v (modeHeight m)) / 16]? = some e) (hu : e.state.usable = true)
    (u x y : Nat) : s.sourcePixel cam m u v x y
      = Machine.toned ((s.store cam).latch.sample s.epoch cam (sourcePos u (modeWidth m)) (sourcePos v (modeHeight m)))
        (s.tone cam).latchedGain (s.tone cam).latchedBlack := by
  refine if_pos ?_
  unfold CamLatch.rowUsable
  rw [he]
  exact hu

/-! ## Stage 8 (R58) -/

section
variable {base colour : Byte} {alpha : Nat} (h : alpha ≤ 16)
include h

/-- The blend of a component lies between the two components (R58). -/
theorem blendSum_bounds : min base.toNat colour.toNat ≤ (base.toNat * (16 - alpha) + colour.toNat * alpha + 8) / 16
    ∧ (base.toNat * (16 - alpha) + colour.toNat * alpha + 8) / 16 ≤ max base.toNat colour.toNat := by
  have hshares : ∀ x, x * 16 = x * (16 - alpha) + x * alpha := fun x => by
    rw [← Nat.mul_add, Nat.sub_add_cancel h]
  refine average_bounds (by decide) ?_ ?_
  · rw [hshares]
    gcongr
    · exact Nat.min_le_left ..
    · exact Nat.min_le_right ..
  · rw [hshares]
    gcongr
    · exact Nat.le_max_left ..
    · exact Nat.le_max_right ..

theorem blendPart_toNat :
    (blendPart base colour alpha).toNat = (base.toNat * (16 - alpha) + colour.toNat * alpha + 8) / 16 := by
  have hbounds := (blendSum_bounds (base := base) (colour := colour) h).2
  have hb := base.isLt
  have hc := colour.isLt
  exact (BitVec.toNat_ofNat ..).trans (Nat.mod_eq_of_lt (by omega))

end

theorem blendPart_opaque (base colour : Byte) : blendPart base colour 16 = colour :=
  BitVec.eq_of_toNat_eq ((blendPart_toNat (Nat.le_refl _)).trans (by omega))

theorem blendPart_clear (base colour : Byte) : blendPart base colour 0 = base :=
  BitVec.eq_of_toNat_eq ((blendPart_toNat (Nat.zero_le _)).trans (by omega))

end Sys2Proof.Machine
end

section
/-! PROOF. Coverage of the three shape kinds (R149 to R151), when a shape is drawn (R152), and the arithmetic of a pane pixel put
together. -/

namespace Sys2Proof.Machine

/-! ## POLYLINE (R149) -/

section
variable {ex ey dx dy w : ℚ}

/-- The square of the distance to a place of a segment, at the share `t` of its length, four times as large as that of half the
width: by where the foot of the perpendicular lies, before the segment, behind it, or on it. -/
theorem exists_near_iff : (∃ t : ℚ, 0 ≤ t ∧ t ≤ 1 ∧ 4 * ((ex - t * dx) ^ 2 + (ey - t * dy) ^ 2) ≤ w) ↔
    if ex * dx + ey * dy ≤ 0 then 4 * (ex * ex + ey * ey) ≤ w
    else if dx * dx + dy * dy ≤ ex * dx + ey * dy then
      4 * ((ex - dx) * (ex - dx) + (ey - dy) * (ey - dy)) ≤ w
    else 4 * ((ex * dy - ey * dx) * (ex * dy - ey * dx)) ≤ w * (dx * dx + dy * dy) := by
  have hlength : 0 ≤ dx * dx + dy * dy := add_nonneg (mul_self_nonneg _) (mul_self_nonneg _)
  split
  · next hbefore =>
    refine ⟨fun ⟨t, h0, h1, hw⟩ => ?_, fun h => ⟨0, le_refl _, zero_le_one, by linarith⟩⟩
    have hstart := mul_nonneg h0 (sub_nonneg.mpr hbefore)
    have hlong := mul_nonneg (mul_nonneg h0 h0) hlength
    linarith
  · next hbefore =>
    rw [not_le] at hbefore
    split
    · next hbehind =>
      refine ⟨fun ⟨t, h0, h1, hw⟩ => ?_, fun h => ⟨1, zero_le_one, le_refl _, by linarith⟩⟩
      have hend := mul_nonneg (sub_nonneg.mpr h1) (sub_nonneg.mpr hbehind)
      have hlong := mul_nonneg (mul_nonneg (sub_nonneg.mpr h1) (sub_nonneg.mpr h1)) hlength
      linarith
    · next hbehind =>
      rw [not_le] at hbehind
      have hpos := hbefore.trans hbehind
      have hsquares : ∀ t, ((ex - t * dx) ^ 2 + (ey - t * dy) ^ 2) * (dx * dx + dy * dy)
          = (t * (dx * dx + dy * dy) - (ex * dx + ey * dy)) ^ 2 + (ex * dy - ey * dx) * (ex * dy - ey * dx) :=
        fun t => by ring
      constructor
      · rintro ⟨t, -, -, hw⟩
        have hscaled := mul_le_mul_of_nonneg_right hw hlength
        have hfoot := sq_nonneg (t * (dx * dx + dy * dy) - (ex * dx + ey * dy))
        have hsum := hsquares t
        linarith
      · intro h
        refine ⟨(ex * dx + ey * dy) / (dx * dx + dy * dy), by positivity, (div_le_one hpos).mpr hbehind.le, ?_⟩
        refine le_of_mul_le_mul_right ?_ hpos
        rw [mul_assoc, hsquares, div_mul_cancel₀ _ hpos.ne', sub_self]
        linarith

end

/-- A pixel's centre is near a segment where a place of the segment lies at most half the width from it (R149). -/
theorem nearSegment_iff (width : Nat) (p q : Point) (x y : Nat) : nearSegment width p q x y = true ↔
    ∃ t : ℚ, 0 ≤ t ∧ t ≤ 1 ∧ 4 * (((x : ℚ) - ((p.x : ℚ) + t * ((q.x : ℚ) - p.x))) ^ 2
      + ((y : ℚ) - ((p.y : ℚ) + t * ((q.y : ℚ) - p.y))) ^ 2) ≤ (width : ℚ) ^ 2 := by
  simp only [← sub_sub, exists_near_iff]
  have hend : ∀ a b c : ℚ, a - b - (c - b) = a - c := fun a b c => by ring
  unfold nearSegment
  simp only [hend, sq, apply_ite (· = true), decide_eq_true_eq]
  norm_cast

theorem coversPolyline_iff (width : Nat) (points : List Point) (x y : Nat) : coversPolyline width points x y = true ↔
    ∃ e ∈ points.zip points.tail, ∃ t : ℚ, 0 ≤ t ∧ t ≤ 1
      ∧ 4 * (((x : ℚ) - ((e.1.x : ℚ) + t * ((e.2.x : ℚ) - e.1.x))) ^ 2
        + ((y : ℚ) - ((e.1.y : ℚ) + t * ((e.2.y : ℚ) - e.1.y))) ^ 2) ≤ (width : ℚ) ^ 2 := by
  simp only [coversPolyline, List.any_eq_true, nearSegment_iff]

/-! ## POLYGON (R150) -/

/-- An edge is crossed where the pixel's row lies between its ends, one above it and the other not, and the pixel lies before the
place where the edge meets the row (R150). -/
theorem crossesEdge_iff (p q : Point) (x y : Nat) : crossesEdge p q x y = true ↔
    (p.y > y ∧ ¬q.y > y ∨ ¬p.y > y ∧ q.y > y)
      ∧ (x : ℚ) < p.x + ((y : ℚ) - p.y) * ((q.x : ℚ) - p.x) / ((q.y : ℚ) - p.y) := by
  have hrow : (decide ((y : Int) < p.y) != decide ((y : Int) < q.y)) = true
      ↔ (p.y > y ∧ ¬q.y > y ∨ ¬p.y > y ∧ q.y > y) := by
    by_cases hp : y < p.y <;> by_cases hq : y < q.y <;> simp [hp, hq, not_lt.mpr, not_lt.mp]
  unfold crossesEdge
  dsimp only
  rw [Bool.and_eq_true, hrow, ← sub_lt_iff_lt_add']
  refine and_congr_right fun hbetween => ?_
  split
  · next hup =>
    have hup : (0 : ℚ) < (q.y : ℚ) - p.y := by exact_mod_cast hup
    rw [lt_div_iff₀ hup, decide_eq_true_eq]
    norm_cast
  · next hdown =>
    have hdown : (q.y : ℚ) - p.y < 0 := by
      have : q.y < p.y := by omega
      rw [sub_neg]
      exact_mod_cast this
    rw [lt_div_iff_of_neg hdown, decide_eq_true_eq]
    norm_cast

theorem coversPolygon_iff (points : List Point) (x y : Nat) : coversPolygon points x y = true ↔
    Odd ((points.zip (points.tail ++ points.head?.toList)).countP fun e => crossesEdge e.1 e.2 x y) := by
  rw [Nat.odd_iff]
  exact decide_eq_true_iff

/-- A level edge is not crossed (R150). -/
theorem crossesEdge_level (a c b x y : Nat) : crossesEdge ⟨a, b⟩ ⟨c, b⟩ x y = false := by
  simp [crossesEdge]

/-- An upright edge is crossed from the pixels before it, in the rows from its upper end to before its lower one (R150). -/
theorem crossesEdge_upright {b d : Nat} (h : b < d) (c x y : Nat) :
    (crossesEdge ⟨c, b⟩ ⟨c, d⟩ x y = true ↔ x < c ∧ b ≤ y ∧ y < d)
      ∧ (crossesEdge ⟨c, d⟩ ⟨c, b⟩ x y = true ↔ x < c ∧ b ≤ y ∧ y < d) := by
  have hmeets : ∀ r : ℚ, (x : ℚ) < (c : ℚ) + r * ((c : ℚ) - c) / ((d : ℚ) - b) ↔ x < c := fun r => by
    rw [sub_self, mul_zero, zero_div, add_zero]
    exact Nat.cast_lt
  have hmeets' : ∀ r : ℚ, (x : ℚ) < (c : ℚ) + r * ((c : ℚ) - c) / ((b : ℚ) - d) ↔ x < c := fun r => by
    rw [sub_self, mul_zero, zero_div, add_zero]
    exact Nat.cast_lt
  rw [crossesEdge_iff, crossesEdge_iff]
  dsimp only
  rw [hmeets, hmeets']
  omega

/-- A rectangle covers the pixels from its left and upper edge to before its right and lower one (R150). -/
theorem coversPolygon_rectangle {a b c d : Nat} (hac : a < c) (hbd : b < d) (x y : Nat) :
    coversPolygon [⟨a, b⟩, ⟨c, b⟩, ⟨c, d⟩, ⟨a, d⟩] x y = true ↔ a ≤ x ∧ x < c ∧ b ≤ y ∧ y < d := by
  have hright := (crossesEdge_upright hbd c x y).1
  have hleft := (crossesEdge_upright hbd a x y).2
  have hcount : ([⟨a, b⟩, ⟨c, b⟩, ⟨c, d⟩, ⟨a, d⟩].zip ([⟨c, b⟩, ⟨c, d⟩, ⟨a, d⟩] ++ [⟨a, b⟩])).countP
      (fun e : Point × Point => crossesEdge e.1 e.2 x y)
      = (if x < c ∧ b ≤ y ∧ y < d then 1 else 0) + if x < a ∧ b ≤ y ∧ y < d then 1 else 0 := by
    simpa [List.countP_cons, crossesEdge_level, hright, hleft] using Nat.add_comm ..
  rw [coversPolygon_iff]
  refine (iff_of_eq (congrArg Odd hcount)).trans ?_
  rw [Nat.odd_iff]
  split_ifs <;> simp <;> omega

/-! ## A shape (R149 to R152) -/

section
variable {sh : Shape} (x y : Nat)

theorem Shape.covers_polyline {width : Nat} (h : sh.form = .polyline width) :
    sh.covers x y = coversPolyline width sh.points x y := by
  unfold Shape.covers
  rw [h]

theorem Shape.covers_polygon (h : sh.form = .polygon) : sh.covers x y = coversPolygon sh.points x y := by
  unfold Shape.covers
  rw [h]

theorem Shape.covers_icon {glyph : Fin 32} {p : Point} (h : sh.form = .icon glyph) (hp : sh.points = [p]) :
    sh.covers x y = coversPattern (glyphSet glyph) 1 p.x p.y x y := by
  unfold Shape.covers
  rw [h]
  dsimp only
  rw [hp]

end

/-- A shape is drawn where one of its conditions holds and it does not blink in an off-phase (R152). -/
theorem Shape.drawn_iff (sh : Shape) (s : State) (pane : PaneConditions) : sh.drawn s pane = true ↔
    (sh.blink = true → s.cadence.latchedPhase = true) ∧ ∃ cond ∈ sh.conditions, conditionHolds s pane cond = true := by
  unfold Shape.drawn
  rw [Bool.and_eq_true, List.any_eq_true, and_comm]
  refine and_congr_left' ?_
  cases sh.blink <;> simp

/-- One shape of a list over a value (R58, R152). -/
theorem overlayShape_some {s : State} {k : Fin 64} {sh : Shape} (h : look s.shapes.latched k = some sh)
    (pane : PaneConditions) (x y : Nat) (value : Pixel) : overlayShape s pane x y value k
      = if sh.drawn s pane = true ∧ sh.covers x y = true then blend value sh.colour sh.alpha else value := by
  unfold overlayShape
  rw [h]
  exact if_congr (Bool.and_eq_true ..).to_iff rfl rfl

theorem overlayShape_none {s : State} {k : Fin 64} (h : look s.shapes.latched k = none)
    (pane : PaneConditions) (x y : Nat) (value : Pixel) : overlayShape s pane x y value k = value := by
  unfold overlayShape
  rw [h]

/-! ## The whole statement -/

/-- Settles O46: stages 1 to 8 by their averages, coverage by the exact tests over ℚ, the shapes of a list one by one. -/
theorem pixelArithmetic : Obligations.PixelArithmetic := by
  refine ⟨fun s p src background px py cols rows nodes m a b c d hgrid hmode ha hb hc hd =>
      State.samplePane_eq hgrid hmode (cellNodes?_eq_some ha hb hc hd) background,
    ?sample,
    fun l epoch cam x row body pixels p hbody hline hp => CamLatch.pixel_eq hbody hline hp epoch cam,
    fun x y a b c d lo hi hx hy la lb lc ld ah bh ch dh => ?bilinear,
    fun p black => ⟨?unit, fun h => ?black, fun h => ?saturated⟩,
    fun sh x y => ⟨fun width h => ?polyline, fun h => ?polygon, fun glyph p h hp => ?icon⟩,
    fun s pane sh => ?drawn,
    fun s pane list x y value => ?overlay,
    fun p a b c d lo hi hx hy la lb lc ld ah bh ch dh => ?interpolate,
    fun u m _ size _ => sourcePos_inside u size,
    fun a b c d x y hac hbd => coversPolygon_rectangle hac hbd x y,
    fun base colour alpha h => ?blend⟩
  case sample =>
    intro s cam m u v x y e l sx sy decides usable row mix gain black luma he hu
    have hx := sourcePos_fraction u (modeWidth m)
    have hy := sourcePos_fraction v (modeHeight m)
    have husable : usable = fun e => e.state.usable := usable_eq
    refine ⟨bilinearSum_byte hx hy, bilinearSum_byte hx hy, bilinearSum_byte hx hy, ?_⟩
    clear_value usable
    subst husable
    exact (State.sourcePixel_usable he hu u x y).trans (congrArg (fun n => (⟨BitVec.ofNat 8 (toneLevel n gain black),
      BitVec.ofNat 8 (mix (·.cb)), BitVec.ofNat 8 (mix (·.cr))⟩ : Pixel)) (bilinear_toNat hx hy))
  case bilinear =>
    have hbounds := bilinearSum_bounds hx hy ⟨la, ah⟩ ⟨lb, bh⟩ ⟨lc, ch⟩ ⟨ld, dh⟩
    rw [← bilinear_toNat hx hy] at hbounds
    exact ⟨hbounds.1, hbounds.2, fun hx hy => bilinear_pixel hx hy a b c d⟩
  case unit =>
    unfold toned
    rw [toneLevel_unit, BitVec.ofNat_toNat, BitVec.setWidth_eq]
  case black =>
    unfold toned
    rw [toneLevel_black h]
    rfl
  case saturated =>
    unfold toned
    rw [toneLevel_saturated h]
    rfl
  case polyline => rw [Shape.covers_polyline x y h, coversPolyline_iff]
  case polygon =>
    rw [Shape.covers_polygon x y h, coversPolygon_iff]
    refine iff_of_eq (congrArg Odd (List.countP_congr fun e _ => ?_))
    rw [decide_eq_true_eq, crossesEdge_iff]
  case icon => rw [Shape.covers_icon x y h hp, coversGlyph_iff Nat.one_pos]
  case drawn =>
    rw [Shape.drawn_iff]
    refine and_congr_right fun _ => exists_congr fun cond => and_congr_right fun _ => ?_
    cases cond <;> simp [conditionHolds]
  case overlay =>
    refine congrFun (congrFun (congrArg List.foldl ?_) _) _
    funext v k
    cases h : look s.shapes.latched k with
    | none => exact overlayShape_none h ..
    | some sh => exact overlayShape_some h ..
  case interpolate =>
    obtain ⟨hlo, hhi⟩ := interpolate_bounds hx hy ⟨la, ah⟩ ⟨lb, bh⟩ ⟨lc, ch⟩ ⟨ld, dh⟩
    exact ⟨hlo, hhi, interpolate_node hx hy⟩
  case blend =>
    obtain ⟨hlo, hhi⟩ := blendSum_bounds (base := base) (colour := colour) h
    rw [← blendPart_toNat h] at hlo hhi
    exact ⟨blendPart_toNat h, hlo, hhi, blendPart_opaque .., blendPart_clear ..⟩

end Sys2Proof.Machine
end

section
/-! PROOF. What governs the drawing of an output frame from its start on (R40, R69, R71 to R73, R112, R145, R152, R159), as one
value, and that no shared operation and no event of a camera link changes it. -/

namespace Sys2Proof.Machine

/-! ## The value -/

/-- What an output frame is drawn by from its start on: the shown view, the live tables, the source choices, and what the output
generator, the selector, the overlay unit, the BLINK phase, the segment store and the tone controller have latched. -/
structure Drawing where
  shown : ViewId
  live : Tables
  choice : Vector (Option ChosenSource) 6
  output : FrameLatch
  selector : SelectorLatch
  shapes : Vector (Option Shape) 64
  blink : Bool
  store : Cam → CamLatch
  gain : Cam → Nat
  black : Cam → Nat

def State.drawing (s : State) : Drawing where
  shown := s.selector.shown
  live := s.views.live
  choice := s.views.choice
  output := s.display.latch
  selector := s.selector.latch
  shapes := s.shapes.latched
  blink := s.cadence.latchedPhase
  store c := (s.store c).latch
  gain c := (s.tone c).latchedGain
  black c := (s.tone c).latchedBlack

/-- An operation repeated over a list leaves the value, if each application does. -/
theorem foldl_drawing {α : Type} {f : State → α → State} (h : ∀ s a, (f s a).drawing = s.drawing) (l : List α) (s : State) :
    (l.foldl f s).drawing = s.drawing := by
  induction l generalizing s with
  | nil => rfl
  | cons a l ih => exact (ih (f s a)).trans (h s a)

/-! ## The latch in a camera's store and the latched gain and offset (R40, R112) -/

@[simp] theorem CamStore.emptied_latch (st : CamStore) (n : Nat) : (st.emptied n).latch = st.latch := by
  simp only [CamStore.emptied]

@[simp] theorem CamStore.close_latch (st : CamStore) (n : Nat) (frame : Byte) (map : List Bool) :
    (st.close n frame map).latch = st.latch := by
  simp only [CamStore.close]

@[simp] theorem CamStore.write_latch (st : CamStore) (i : Nat) (body : SegmentBody) : (st.write i body).latch = st.latch := by
  simp only [CamStore.write]

/-- Gain and offset are latched at an output frame start alone: `u` has the latched values of `t`. -/
def Tone.SameLatch (t u : Tone) : Prop := u.latchedGain = t.latchedGain ∧ u.latchedBlack = t.latchedBlack

theorem Tone.SameLatch.trans {t u v : Tone} (a : t.SameLatch u) (b : u.SameLatch v) : t.SameLatch v :=
  ⟨b.1.trans a.1, b.2.trans a.2⟩

theorem Tone.leaveStreaming_sameLatch (t : Tone) : t.SameLatch t.leaveStreaming := ⟨rfl, rfl⟩

theorem Tone.loop_sameLatch (t : Tone) (mean : Option Nat) (corrections : Int) (sat : Nat) :
    t.SameLatch (t.loop mean corrections sat) := by
  cases mean <;> simp [Tone.loop, Tone.SameLatch]

theorem Tone.exposureStep_sameLatch (t : Tone) (p : Port) (lim : ToneLimits) : t.SameLatch (t.exposureStep p lim).1 := by
  unfold Tone.exposureStep
  split
  · exact ⟨rfl, rfl⟩
  · split <;> exact ⟨rfl, rfl⟩

/-! ## The shared operations -/

section
variable (s : State) (c : Cam)

@[simp] theorem State.setPort_drawing (p : Port) : (s.setPort c p).drawing = s.drawing := rfl

@[simp] theorem State.setClarity_drawing (cl : Clarity) : (s.setClarity c cl).drawing = s.drawing := rfl

@[simp] theorem State.mapZonesOf_drawing (f : Zone → Zone) : (s.mapZonesOf c f).drawing = s.drawing := rfl

@[simp] theorem State.countTimes_drawing (e : StatEvent) (n : Nat) : (s.countTimes e c n).drawing = s.drawing := rfl

@[simp] theorem State.count_drawing (e : StatEvent) : (s.count e c).drawing = s.drawing := rfl

@[simp] theorem State.queueReport_drawing (r : Report) : (s.queueReport r).drawing = s.drawing := rfl

@[simp] theorem State.reform_drawing : s.reform.drawing = s.drawing := rfl

@[simp] theorem State.windows_drawing (x : Vector Window 16) : ({ s with windows := x } : State).drawing = s.drawing := rfl

/-- A camera's store replaced by one with the same latch. -/
@[simp] theorem State.setStore_drawing {x : CamStore} (h : x.latch = (s.store c).latch) :
    (s.setStore c x).drawing = s.drawing := by
  have hstore : ∀ d, ((s.setStore c x).store d).latch = (s.store d).latch := fun d => by
    by_cases hd : d = c
    · rw [hd, State.store_setStore, h]
    · rw [s.store_setStore_ne x (Ne.symm hd)]
  simp only [State.drawing, hstore]
  rfl

/-- A camera's tone state replaced by one with the same latched gain and offset. -/
theorem State.setTone_drawing {x : Tone} (h : (s.tone c).SameLatch x) : (s.setTone c x).drawing = s.drawing := by
  have htone : ∀ d, (s.tone d).SameLatch ((s.setTone c x).tone d) := fun d => by
    by_cases hd : d = c
    · rw [hd, State.tone_setTone]
      exact h
    · rw [s.tone_setTone_ne x (Ne.symm hd)]
      exact ⟨rfl, rfl⟩
  simp only [State.drawing, (htone _).1, (htone _).2]
  rfl

@[simp] theorem State.rederive_drawing : (s.rederive c).drawing = s.drawing := by
  unfold State.rederive
  dsimp only
  split
  · rfl
  · simp

@[simp] theorem State.refreshHazard_drawing : s.refreshHazard.drawing = s.drawing := by
  unfold State.refreshHazard
  dsimp only
  split <;> rfl

@[simp] theorem State.judgeClarity_drawing (cl : Clarity) : (s.judgeClarity c cl).drawing = s.drawing := by
  simp [State.judgeClarity]

/-! ## Link state changes (R8, R12, R17) -/

@[simp] theorem State.leaveStreaming_drawing : (s.leaveStreaming c).drawing = s.drawing := by
  unfold State.leaveStreaming
  dsimp only
  rw [State.setTone_drawing, State.windows_drawing, State.mapZonesOf_drawing]
  exact Tone.leaveStreaming_sameLatch _

@[simp] theorem State.setLink_drawing (l : LinkState) (cause : LinkCause) : (s.setLink c l cause).drawing = s.drawing := by
  unfold State.setLink
  dsimp only
  split <;> simp

@[simp] theorem State.goOff_drawing (cause : LinkCause) : (s.goOff c cause).drawing = s.drawing := by
  unfold State.goOff
  dsimp only
  rw [State.reform_drawing, State.setLink_drawing, State.mapZonesOf_drawing, State.setClarity_drawing, State.setStore_drawing,
    State.setPort_drawing]
  simp

@[simp] theorem State.goOffUnlessOff_drawing (cause : LinkCause) : (s.goOffUnlessOff c cause).drawing = s.drawing := by
  unfold State.goOffUnlessOff
  split <;> simp

@[simp] theorem State.leaveOff_drawing : (s.leaveOff c).drawing = s.drawing := by
  unfold State.leaveOff
  dsimp only
  split
  · split <;> simp
  · rfl

@[simp] theorem State.offer_drawing (m : CamMode) : (s.offer c m).drawing = s.drawing := by
  unfold State.offer
  dsimp only
  split <;> simp

@[simp] theorem State.beginSequence_drawing (m : CamMode) : (s.beginSequence c m).drawing = s.drawing := by
  simp [State.beginSequence]

@[simp] theorem State.enterRefused_drawing (cause : LinkCause) : (s.enterRefused c cause).drawing = s.drawing := by
  simp [State.enterRefused]

/-! ## Carrier, ANNOUNCE, training, back channel (R6, R9 to R16) -/

@[simp] theorem State.gainCarrier_drawing : (s.gainCarrier c).drawing = s.drawing := by
  unfold State.gainCarrier
  dsimp only
  split <;> simp

@[simp] theorem State.loseCarrier_drawing : (s.loseCarrier c).drawing = s.drawing := by
  unfold State.loseCarrier
  dsimp only
  split <;> simp

@[simp] theorem State.takeAnnounce_drawing (r : AnnounceRecord) : (s.takeAnnounce c r).drawing = s.drawing := by
  unfold State.takeAnnounce
  dsimp only
  split
  · simp
  · split <;> simp

@[simp] theorem State.announceArrives_drawing (r : AnnounceRecord) (good : Bool) :
    (s.announceArrives c r good).drawing = s.drawing := by
  unfold State.announceArrives
  dsimp only
  split <;> simp

@[simp] theorem State.announceExpires_drawing : (s.announceExpires c).drawing = s.drawing := by
  unfold State.announceExpires
  dsimp only
  split
  · split <;> simp
  · rfl

@[simp] theorem State.judgeAttempt_drawing : (s.judgeAttempt c).drawing = s.drawing := by
  unfold State.judgeAttempt
  dsimp only
  split
  · rw [State.setLink_drawing, State.setStore_drawing, State.setPort_drawing]
    simp
  · split
    · split <;> simp
    · simp

@[simp] theorem State.trainSegment_drawing (i : Nat) (good : Bool) : (s.trainSegment c i good).drawing = s.drawing := by
  unfold State.trainSegment
  dsimp only
  split
  · rfl
  · split
    · rfl
    · split <;> simp

@[simp] theorem State.trainExpires_drawing : (s.trainExpires c).drawing = s.drawing := by
  unfold State.trainExpires
  dsimp only
  split <;> simp

@[simp] theorem State.backRecordSent_drawing : (s.backRecordSent c).drawing = s.drawing := by
  unfold State.backRecordSent
  dsimp only
  split <;> rfl

@[simp] theorem State.takePreference_drawing (ms : List CamMode) : (s.takePreference c ms).drawing = s.drawing := by
  unfold State.takePreference
  dsimp only
  split
  · split
    · simp
    · split <;> simp
  · rfl

/-! ## Frames (R18 to R27) -/

@[simp] theorem State.toneClose_drawing : (s.toneClose c).drawing = s.drawing := by
  have hseams : ∀ x, ({ s with seams := x } : State).drawing = s.drawing := fun _ => rfl
  unfold State.toneClose
  dsimp only
  rw [State.setPort_drawing, State.setTone_drawing, hseams]
  have hsettled : (s.tone c).SameLatch { s.tone c with settle := (s.tone c).settle - 1 } := ⟨rfl, rfl⟩
  exact hsettled.trans ((Tone.loop_sameLatch ..).trans (Tone.exposureStep_sameLatch ..))

@[simp] theorem State.storeClose_drawing : (s.storeClose c).drawing = s.drawing := by
  simp [State.storeClose]

@[simp] theorem State.storeAndClarityClose_drawing : (s.storeAndClarityClose c).drawing = s.drawing := by
  have hchoices : ∀ n, ({ s with choices := n } : State).drawing = s.drawing := fun _ => rfl
  unfold State.storeAndClarityClose
  dsimp only
  split
  · simp
  · split <;> simp [hchoices]

@[simp] theorem State.zoneClose_drawing : (s.zoneClose c).drawing = s.drawing :=
  (State.refreshHazard_drawing _).trans rfl

@[simp] theorem State.judgeFrame_drawing : (s.judgeFrame c).drawing = s.drawing := by
  unfold State.judgeFrame
  dsimp only
  split
  · rfl
  · split
    · rfl
    · split <;> simp

@[simp] theorem State.frameClose_drawing : (s.frameClose c).drawing = s.drawing := by
  unfold State.frameClose
  dsimp only
  rw [State.judgeFrame_drawing, State.zoneClose_drawing, State.storeAndClarityClose_drawing, State.toneClose_drawing,
    State.windows_drawing, State.countTimes_drawing, State.setPort_drawing]

@[simp] theorem State.applyChanges_drawing : (s.applyChanges c).drawing = s.drawing := by
  rw [State.applyChanges_eq, State.refreshHazard_drawing]
  refine (foldl_drawing (fun t k => ?_) allCams (s.changed c)).trans rfl
  split <;> simp

@[simp] theorem State.openFrame_drawing (h : HeaderRecord) (m : CamMode) : (s.openFrame c h m).drawing = s.drawing := by
  unfold State.openFrame
  dsimp only
  split <;> rfl

@[simp] theorem State.ignoreFrame_drawing : (s.ignoreFrame c).drawing = s.drawing := rfl

@[simp] theorem State.takeHeader_drawing (h : HeaderRecord) : (s.takeHeader c h).drawing = s.drawing := by
  have hclose : (if (s.port c).phase = .opened then (s.count .frameTruncated c).frameClose c else s).drawing = s.drawing := by
    split <;> simp
  unfold State.takeHeader
  dsimp only
  generalize (if (s.port c).phase = .opened then (s.count .frameTruncated c).frameClose c else s) = t at hclose ⊢
  split
  · exact hclose
  · split
    · split <;> simp [hclose]
    · simp [hclose]

@[simp] theorem State.headerArrives_drawing (h : HeaderRecord) (good : Bool) :
    (s.headerArrives c h good).drawing = s.drawing := by
  unfold State.headerArrives
  split
  · rfl
  · split <;> simp

@[simp] theorem State.takeSegment_drawing (i : Nat) (body : SegmentBody) (good : Bool) :
    (s.takeSegment c i body good).drawing = s.drawing := by
  have hwrite : (s.setStore c ((s.store c).write i body)).drawing = s.drawing := by simp
  exact hwrite

@[simp] theorem State.segmentArrives_drawing (i : Nat) (body : SegmentBody) (good : Bool) :
    (s.segmentArrives c i body good).drawing = s.drawing := by
  unfold State.segmentArrives
  dsimp only
  split
  · rfl
  · split
    · rfl
    · rfl
    · split <;> simp

@[simp] theorem State.trailerArrives_drawing (n : Byte) (good : Bool) : (s.trailerArrives c n good).drawing = s.drawing := by
  unfold State.trailerArrives
  dsimp only
  split
  · rfl
  · split
    · rfl
    · split
      · rfl
      · split <;> simp

@[simp] theorem State.holdExpires_drawing (w : WindowId) : (s.holdExpires w).drawing = s.drawing := by
  unfold State.holdExpires
  split
  · split
    · exact (State.refreshHazard_drawing _).trans rfl
    · rfl
  · rfl

end

end Sys2Proof.Machine
end

section
/-! PROOF. Nothing but an output frame start and power-on changes what an output frame is drawn by (R69, R72, R143): the events
of the selector, the requests, MODE and RESTART, and every other command put together from them. -/

namespace Sys2Proof.Machine

/-! ## Events of the selector (R133 to R144) -/

section
variable (s : State)

/-- The selector replaced by one with the same shown view and the same latch. -/
theorem State.selector_drawing {x : Selector} (hshown : x.shown = s.selector.shown) (hlatch : x.latch = s.selector.latch) :
    ({ s with selector := x } : State).drawing = s.drawing := by
  simp only [State.drawing, hshown, hlatch]
  rfl

@[simp] theorem State.rearm_drawing : s.rearm.drawing = s.drawing := (State.refreshHazard_drawing _).trans rfl

@[simp] theorem State.endForce_drawing (cause : ForceCause) : (s.endForce cause).drawing = s.drawing := by
  unfold State.endForce
  split <;> rfl

@[simp] theorem State.takeSituation_drawing (new : Situation) : (s.takeSituation new).drawing = s.drawing := by
  have hsituation : ({ s with selector := { s.selector with situation := new } } : State).drawing = s.drawing :=
    s.selector_drawing rfl rfl
  unfold State.takeSituation
  dsimp only
  split
  · rfl
  · rw [State.reform_drawing, State.rearm_drawing]
    split
    · rw [State.endForce_drawing, hsituation]
    · exact hsituation

@[simp] theorem State.rerank_drawing : s.rerank.drawing = s.drawing := State.takeSituation_drawing ..

@[simp] theorem State.vehicleArrives_drawing (r : Vehicle) : (s.vehicleArrives r).drawing = s.drawing :=
  (State.rerank_drawing _).trans (s.selector_drawing rfl rfl)

@[simp] theorem State.vehicleTimeout_drawing : s.vehicleTimeout.drawing = s.drawing := by
  unfold State.vehicleTimeout
  split
  · exact (State.rerank_drawing _).trans (s.selector_drawing rfl rfl)
  · rfl

@[simp] theorem State.turnDwellExpires_drawing : s.turnDwellExpires.drawing = s.drawing := by
  unfold State.turnDwellExpires
  split
  · exact (State.rerank_drawing _).trans (s.selector_drawing rfl rfl)
  · rfl

@[simp] theorem State.forceTimerExpires_drawing : s.forceTimerExpires.drawing = s.drawing := by
  unfold State.forceTimerExpires
  split <;> simp

@[simp] theorem State.viewDwellExpires_drawing : s.viewDwellExpires.drawing = s.drawing := by
  unfold State.viewDwellExpires
  split
  · exact s.selector_drawing rfl rfl
  · rfl

/-! ## Display sense and cadence channels (R84, R156) -/

/-- The input's level and the sense timer are apart from the latch. -/
@[simp] theorem Display.sense_latch (d : Display) (level : Bool) : (d.sense level).latch = d.latch := by
  unfold Display.sense
  split <;> rfl

@[simp] theorem State.sense_drawing (level : Bool) :
    ({ s with display := s.display.sense level } : State).drawing = s.drawing := by
  simp [State.drawing, State.store, State.tone]

@[simp] theorem State.senseExpires_drawing : s.senseExpires.drawing = s.drawing := by
  unfold State.senseExpires
  dsimp only
  split <;> rfl

@[simp] theorem State.setChannel_drawing (id : ChannelId) (ch : Channel) : (s.setChannel id ch).drawing = s.drawing := by
  cases id <;> rfl

end

/-! ## Requests -/

/-- A request's effect leaves what an output frame is drawn by. -/
def KeepsDrawing (f : State → Answer) : Prop := ∀ s, (f s).state.drawing = s.drawing

theorem KeepsDrawing.run {α : Type} {f : α → State → Answer} (h : ∀ x, KeepsDrawing (f x)) (b : Body α) :
    KeepsDrawing (Body.run b f) := by
  cases b with
  | badLength => exact fun _ => rfl
  | fields x => exact h x

/-- A change that is undone by putting back blocks that no drawing reads. -/
theorem drawing_of_rest {s t u : State} (h : u = s) (hu : u.drawing = t.drawing := by rfl) : t.drawing = s.drawing :=
  hu.symm.trans (congrArg State.drawing h)

/-- The store group changes the tables and the health, not their latches (R30, R37, R40). -/
theorem keepsDrawing_store (p : StoreParams) : KeepsDrawing (setParametersStore p) := by
  intro s
  have hlimited : ∀ q, (s.limited q).drawing = s.drawing := fun q => by
    simp only [State.drawing, State.limited_store]
    rfl
  have hstep : ∀ t c, (State.settleStore (fun x _ => x) t c).drawing = t.drawing := fun t c => by
    rw [settleStore_keep, State.rederive_drawing]
  rw [setParametersStore_eq]
  dsimp only
  rw [foldl_drawing hstep, hlimited]

/-- A new offset is drawn by from the next latch on (R101, R112). -/
theorem keepsDrawing_tone (f : ToneFields) : KeepsDrawing (setParametersTone f) := by
  intro s
  unfold setParametersTone
  split
  · rfl
  · next c _ =>
    refine s.setTone_drawing c ?_
    exact ⟨rfl, rfl⟩

theorem keepsDrawing_clarity (f : ClarityFields) : KeepsDrawing (setParametersClarity f) := by
  intro s
  obtain h | ⟨c, cl, -, h⟩ := setParametersClarity_eq s f
  · rw [h]
  · rw [h, State.setClarity_drawing]

theorem keepsDrawing_situation (p : SituationParams) : KeepsDrawing (setParametersSituation p) :=
  fun _ => (State.rerank_drawing _).trans rfl

theorem keepsDrawing_cadence (f : CadenceFields) : KeepsDrawing (setParametersCadence f) := by
  intro s
  unfold setParametersCadence
  split
  · rfl
  · exact s.setChannel_drawing ..

theorem keepsDrawing_portEnable (port : Nat) : KeepsDrawing (portEnable port) := by
  intro s
  unfold portEnable
  split
  · rfl
  · simp

theorem keepsDrawing_portDisable (port : Nat) : KeepsDrawing (portDisable port) := by
  intro s
  unfold portDisable
  split
  · rfl
  · simp

theorem keepsDrawing_linkRestart (port : Nat) : KeepsDrawing (linkRestart port) := by
  intro s
  unfold linkRestart
  split
  · rfl
  · split
    · simp
    · rfl

theorem keepsDrawing_portPreference (f : PreferenceFields) : KeepsDrawing (portPreference f) := by
  intro s
  unfold portPreference
  split
  · exact s.takePreference_drawing ..
  · rfl

/-! The requests of the shape store and of the tables change the shapes and the edit copy, which are not what is drawn. -/

theorem keepsDrawing_shapeSet (f : ShapeFields) : KeepsDrawing (shapeSet f) := by
  intro s
  unfold shapeSet
  split
  · rfl
  · split
    · rfl
    · split
      · rfl
      · split <;> rfl

theorem keepsDrawing_shapeDrop (id : Nat) : KeepsDrawing (shapeDrop id) := by
  intro s
  unfold shapeDrop
  split
  · rfl
  · split
    · rfl
    · split <;> rfl

theorem keepsDrawing_paneSet (f : PaneSetFields) : KeepsDrawing (paneSet f) := by
  intro s
  unfold paneSet
  dsimp only
  split
  · split
    · rfl
    · split
      · rfl
      · split
        · rfl
        · split
          · rfl
          · split <;> rfl
  · rfl

theorem keepsDrawing_paneDrop (f : PaneDropFields) : KeepsDrawing (paneDrop f) := by
  intro s
  unfold paneDrop
  dsimp only
  split
  · split <;> rfl
  · rfl

theorem keepsDrawing_viewSet (f : ViewSetFields) : KeepsDrawing (viewSet f) := by
  intro s
  unfold viewSet
  split <;> rfl

theorem keepsDrawing_viewMapSet (pairs : List (Nat × Nat)) : KeepsDrawing (viewMapSet pairs) := by
  intro s
  unfold viewMapSet
  split
  · rfl
  · split
    · rfl
    · split <;> rfl

theorem keepsDrawing_setOverlayList (f : OverlayListFields) : KeepsDrawing (setOverlayList f) := by
  intro s
  unfold setOverlayList
  split
  · rfl
  · split
    · split
      · rfl
      · split <;> rfl
    · rfl

theorem keepsDrawing_applyTables (x : Unit) : KeepsDrawing (applyTables x) := by
  intro s
  unfold applyTables
  split <;> rfl

theorem keepsDrawing_vehicleState (record : List Byte) : KeepsDrawing (vehicleState record) := by
  intro s
  unfold vehicleState
  split
  · rfl
  · rfl
  · exact s.vehicleArrives_drawing _

theorem keepsDrawing_forceView (f : ForceFields) : KeepsDrawing (forceView f) := by
  intro s
  unfold forceView
  dsimp only
  split
  · split
    · rfl
    · exact (State.selector_drawing _ rfl rfl).trans (s.endForce_drawing .replaced)
  · rfl

theorem keepsDrawing_releaseView (x : Unit) : KeepsDrawing (releaseView x) := by
  intro s
  unfold releaseView
  split
  · exact s.endForce_drawing _
  · rfl

/-! ## MODE and RESTART (R176 to R180) -/

theorem State.leaveRun_drawing (s : State) (m : OpMode) (cause : LinkCause) : (s.leaveRun m cause).drawing = s.drawing := by
  unfold State.leaveRun
  dsimp only
  rw [State.refreshHazard_drawing]
  exact (foldl_drawing (fun t c => t.goOffUnlessOff_drawing c cause) allCams _).trans rfl

theorem State.enterRun_drawing (s : State) : s.enterRun.drawing = s.drawing := by
  unfold State.enterRun
  rw [State.reform_drawing]
  exact (foldl_drawing State.leaveOff_drawing allCams _).trans rfl

theorem keepsDrawing_modeConfig (x : Unit) : KeepsDrawing (modeConfig x) := by
  intro s
  unfold modeConfig
  split <;> rw [modeAnswer_state]
  · exact s.leaveRun_drawing ..
  · rfl

theorem keepsDrawing_modeRun (x : Unit) : KeepsDrawing (modeRun x) := by
  intro s
  unfold modeRun
  split
  · rfl
  all_goals
    split <;> rw [modeAnswer_state]
    exact s.enterRun_drawing

theorem keepsDrawing_modeStandby (x : Unit) : KeepsDrawing (modeStandby x) := by
  intro s
  unfold modeStandby
  split <;> rw [modeAnswer_state]
  exact s.leaveRun_drawing ..

/-- RESTART keeps the live tables, the shown view and the latches of the output frame in progress (R60, R72, R100, R131). -/
theorem keepsDrawing_restart (x : Unit) : KeepsDrawing (restart x) := by
  intro s
  unfold restart
  dsimp only
  rw [State.refreshHazard_drawing]
  generalize hu : ({ s with control := s.control.restarted, mode := .config, cadence := s.cadence.leaveRun } : State) = u
  have hoff : (allCams.foldl (fun t c => t.goOffUnlessOff c .restarted) u).drawing = s.drawing :=
    (foldl_drawing (fun t c => t.goOffUnlessOff_drawing c _) allCams u).trans (hu ▸ rfl)
  generalize allCams.foldl _ u = v at hoff ⊢
  rw [← hoff]
  simp only [State.drawing, State.tone, look_mapTable]
  rfl

/-! ## Every command -/

theorem unlessHeld_drawing {f : State → State} (hf : ∀ s, (f s).drawing = s.drawing) {s t : State}
    (h : unlessHeld s f = .next t) : t.drawing = s.drawing :=
  unlessHeld_keeps (P := fun u => u.drawing = s.drawing) (fun _ hu => hu) (fun _ => hf s) h rfl

theorem request_drawing {f : State → Answer} {r : Instr} {kind tag : Byte} {s t : State}
    (h : request r kind tag f s = .next t) (hf : KeepsDrawing f) : t.drawing = s.drawing :=
  request_keeps (P := fun u => u.drawing = s.drawing) (fun _ _ hu => hu) (fun _ _ hu => hu)
    (fun u hu => (hf u).trans hu) h rfl

/-- A command with a body, taken as a request. -/
theorem requestBody_drawing {α : Type} {f : α → State → Answer} {b : Body α} {r : Instr} {kind tag : Byte} {s t : State}
    (h : request r kind tag (Body.run b f) s = .next t) (hf : ∀ x, KeepsDrawing (f x)) : t.drawing = s.drawing :=
  request_drawing h (.run hf b)

theorem exec_keepsDrawing {i : Instr} {s t : State} (h : exec i s = .next t) (hframe : i ≠ .outputFrameStart)
    (hpower : ∀ levels, i ≠ .powerOn levels) : t.drawing = s.drawing := by
  cases i with
  | powerOn levels => exact absurd rfl (hpower levels)
  | outputFrameStart => exact absurd rfl hframe
  | resetAssert => cases h; rfl
  | unknownRecordArrival c => cases h; rfl
  | carrierGain c => exact unlessHeld_drawing (fun s => s.gainCarrier_drawing c) h
  | carrierLoss c => exact unlessHeld_drawing (fun s => s.loseCarrier_drawing c) h
  | announceArrival c r k => exact unlessHeld_drawing (fun s => s.announceArrives_drawing c r _) h
  | trainingSegmentArrival c r k => exact unlessHeld_drawing (fun s => s.trainSegment_drawing c r.index _) h
  | frameHeaderArrival c r k => exact unlessHeld_drawing (fun s => s.headerArrives_drawing c r _) h
  | segmentArrival c i body k => exact unlessHeld_drawing (fun s => s.segmentArrives_drawing c i body _) h
  | frameTrailerArrival c n k => exact unlessHeld_drawing (fun s => s.trailerArrives_drawing c n _) h
  | announceTimerExpiry c => exact unlessHeld_drawing (fun s => s.announceExpires_drawing c) h
  | trainTimerExpiry c => exact unlessHeld_drawing (fun s => s.trainExpires_drawing c) h
  | backChannelRecordSent c => exact unlessHeld_drawing (fun s => s.backRecordSent_drawing c) h
  | displaySenseChange level =>
    exact unlessHeld_drawing (f := fun t => { t with display := t.display.sense level }) (fun s => s.sense_drawing level) h
  | displaySenseTimerExpiry => exact unlessHeld_drawing State.senseExpires_drawing h
  | holdTimerExpiry w => exact unlessHeld_drawing (fun s => s.holdExpires_drawing w) h
  | vehicleTimeoutExpiry => exact unlessHeld_drawing State.vehicleTimeout_drawing h
  | turnDwellExpiry => exact unlessHeld_drawing State.turnDwellExpires_drawing h
  | forceTimerExpiry => exact unlessHeld_drawing State.forceTimerExpires_drawing h
  | viewDwellTimerExpiry => exact unlessHeld_drawing State.viewDwellExpires_drawing h
  | onTimeExpiry ch =>
    exact unlessHeld_drawing (f := fun t => t.setChannel ch (t.channel ch).onExpires) (fun s => s.setChannel_drawing ch _) h
  | offTimeExpiry ch =>
    exact unlessHeld_drawing (f := fun t => t.setChannel ch (t.channel ch).offExpires) (fun s => s.setChannel_drawing ch _) h
  | byteGapTimerExpiry =>
    exact unlessHeld_drawing (f := fun t => { t with control := t.control.gapExpires }) (fun _ => rfl) h
  | controlFrameComplete b =>
    exact unlessHeld_drawing (f := fun t => { t with control := t.control.completeWith b }) (fun _ => rfl) h
  | frameSendEnd =>
    exact unlessHeld_drawing (f := fun t => { t with control := t.control.sendEnd }) (fun _ => rfl) h
  | byteReceived b =>
    exact unlessHeld_drawing (f := fun t => { t with control := t.control.receive b }) (fun _ => rfl) h
  | unknownRequest kind tag => exact request_drawing h fun s => drawing_of_rest (unknownRequest_state s kind)
  | identify tag b => exact requestBody_drawing h fun _ _ => rfl
  | status tag b => exact requestBody_drawing h fun _ _ => rfl
  | setParametersLink tag b => exact requestBody_drawing h fun _ _ => rfl
  | setParametersStore tag b => exact requestBody_drawing h keepsDrawing_store
  | setParametersTone tag b => exact requestBody_drawing h keepsDrawing_tone
  | setParametersToneLimits tag b => exact requestBody_drawing h fun _ _ => rfl
  | setParametersClarity tag b => exact requestBody_drawing h keepsDrawing_clarity
  | setParametersClarityLimits tag b => exact requestBody_drawing h fun _ _ => rfl
  | setParametersZone tag b => exact requestBody_drawing h fun _ _ => rfl
  | setParametersSituation tag b => exact requestBody_drawing h keepsDrawing_situation
  | setParametersCadence tag b => exact requestBody_drawing h keepsDrawing_cadence
  | portEnable tag b => exact requestBody_drawing h keepsDrawing_portEnable
  | portDisable tag b => exact requestBody_drawing h keepsDrawing_portDisable
  | linkRestart tag b => exact requestBody_drawing h keepsDrawing_linkRestart
  | portPreferenceList tag b => exact requestBody_drawing h keepsDrawing_portPreference
  | windowSet tag b => exact requestBody_drawing h fun f s => drawing_of_rest (windowSet_rest s f)
  | windowDrop tag b => exact requestBody_drawing h fun id s => drawing_of_rest (windowDrop_rest s id)
  | seamSet tag b => exact requestBody_drawing h fun f s => drawing_of_rest (seamSet_rest s f)
  | gridBegin tag b => exact requestBody_drawing h fun f s => drawing_of_rest (gridBegin_rest s f)
  | gridNodes tag b => exact requestBody_drawing h fun f s => drawing_of_rest (gridNodes_rest s f)
  | gridEnd tag b => exact requestBody_drawing h fun id s => drawing_of_rest (gridEnd_rest s id)
  | gridDrop tag b => exact requestBody_drawing h fun id s => drawing_of_rest (gridDrop_rest s id)
  | shapeSet tag b => exact requestBody_drawing h keepsDrawing_shapeSet
  | shapeDrop tag b => exact requestBody_drawing h keepsDrawing_shapeDrop
  | setOverlayList tag b => exact requestBody_drawing h keepsDrawing_setOverlayList
  | viewSet tag b => exact requestBody_drawing h keepsDrawing_viewSet
  | paneSet tag b => exact requestBody_drawing h keepsDrawing_paneSet
  | paneDrop tag b => exact requestBody_drawing h keepsDrawing_paneDrop
  | viewMapSet tag b => exact requestBody_drawing h keepsDrawing_viewMapSet
  | applyTables tag b => exact requestBody_drawing h keepsDrawing_applyTables
  | vehicleState tag record => exact request_drawing h (keepsDrawing_vehicleState record)
  | forceView tag b => exact requestBody_drawing h keepsDrawing_forceView
  | releaseView tag b => exact requestBody_drawing h keepsDrawing_releaseView
  | silence tag b => exact requestBody_drawing h fun _ _ => rfl
  | readCamera tag b => exact requestBody_drawing h fun camera s => drawing_of_rest (readCamera_state s camera)
  | readMeter tag b => exact requestBody_drawing h fun id s => drawing_of_rest (readMeter_state s id)
  | readTable tag b => exact requestBody_drawing h fun f s => drawing_of_rest (readTable_state s f)
  | counterSelect tag b => exact requestBody_drawing h fun f s => drawing_of_rest (counterSelect_rest s f)
  | counterRead tag b => exact requestBody_drawing h fun _ _ => rfl
  | modeConfig tag b => exact requestBody_drawing h keepsDrawing_modeConfig
  | modeRun tag b => exact requestBody_drawing h keepsDrawing_modeRun
  | modeStandby tag b => exact requestBody_drawing h keepsDrawing_modeStandby
  | restart tag b => exact requestBody_drawing h keepsDrawing_restart

/-- Settles O17: the parts of `State.drawing`, which every other command leaves. -/
theorem drawingChangesOnlyAtFrameStart : Obligations.DrawingChangesOnlyAtFrameStart := by
  intro i s t h hframe hpower
  have hdrawing := exec_keepsDrawing h hframe hpower
  exact ⟨congrArg Drawing.shown hdrawing, congrArg Drawing.live hdrawing, congrArg Drawing.output hdrawing,
    congrArg Drawing.selector hdrawing, congrArg Drawing.choice hdrawing, congrArg Drawing.shapes hdrawing,
    congrArg Drawing.blink hdrawing, fun c => ⟨congrFun (congrArg Drawing.store hdrawing) c,
      congrFun (congrArg Drawing.gain hdrawing) c, congrFun (congrArg Drawing.black hdrawing) c⟩⟩

end Sys2Proof.Machine
end

section
/-! PROOF. The requests of the view table unit by their checks (R63 to R66, R68), and the display sense (R84). -/

namespace Sys2Proof

/-! ## Lists read and tables written entry by entry -/

/-- Codes that are each read back are read back as a list. -/
theorem mapM_map_eq_some {α β : Type} {f : α → Option β} {g : β → α} (h : ∀ b, f (g b) = some b) (l : List β) :
    (l.map g).mapM f = some l := by
  induction l with
  | nil => rfl
  | cons b l ih => simp [List.mapM_cons, h, ih]

/-- What a list was read as gives the list back, where the code of each value is known. -/
theorem eq_map_of_mapM_eq_some {α β : Type} {f : α → Option β} {g : β → α} (hf : ∀ {a b}, f a = some b → a = g b) {l : List α}
    {r : List β} (h : l.mapM f = some r) : l = r.map g := by
  have hmap := Machine.map_eq_of_mapM_eq_some h
  clear h
  induction l generalizing r with
  | nil => rw [List.map_eq_nil_iff.mp hmap.symm, List.map_nil]
  | cons a l ih =>
    cases r with
    | nil => cases hmap
    | cons b r =>
      obtain ⟨hhead, htail⟩ := List.cons.inj hmap
      rw [List.map_cons, ← hf hhead, ← ih htail]

/-- The entries of a list with distinct keys written one after the other: each key has its value, and the others are kept. -/
theorem look_foldl_put {α : Type} {n : Nat} (l : List (Fin n × α)) (h : (l.map (·.1)).Nodup) (t : Vector α n) (k : Fin n) :
    (∀ a, (k, a) ∈ l → look (l.foldl (fun m e => put m e.1 e.2) t) k = a)
      ∧ ((∀ a, (k, a) ∉ l) → look (l.foldl (fun m e => put m e.1 e.2) t) k = look t k) := by
  induction l generalizing t with
  | nil => simp
  | cons e l ih =>
    obtain ⟨hfresh, hnodup⟩ := List.nodup_cons.mp (List.map_cons ▸ h)
    obtain ⟨hwritten, hkept⟩ := ih hnodup (put t e.1 e.2)
    rw [List.foldl_cons]
    refine ⟨fun a ha => ?_, fun hk => ?_⟩
    · obtain rfl | ha := List.mem_cons.mp ha
      · rw [hkept fun b hb => hfresh (List.mem_map.mpr ⟨_, hb, rfl⟩), look_put_same]
      · exact hwritten a ha
    · have hne : e.1 ≠ k := fun he => hk e.2 (he ▸ List.mem_cons_self)
      rw [hkept fun a ha => hk a (List.mem_cons_of_mem _ ha), look_put, if_neg hne]

end Sys2Proof

namespace Sys2Proof.Machine

/-- A request that changes the view table unit. -/
theorem request_setViews {s : State} {r : Instr} (h : Takes s r) {kind tag : Byte} {f : State → Answer} {v : ViewTable}
    (hf : ∀ k, f { s with control := k } = ⟨.ok, .none, { s with control := k, views := v }⟩) :
    request r kind tag f s = .next (State.drivePins { s.replied kind tag .ok .none with views := v }) :=
  request_taken h (g := fun t => { t with views := v }) hf (fun _ => rfl) fun _ _ => rfl

/-! ## PANE DROP and VIEW SET (R63, R64) -/

section
variable (s : State)

theorem paneDrop_absent {v : ViewId} {k : Fin 6} (h : look (s.editView v).panes k = none) :
    paneDrop ⟨v.val, k.val⟩ s = refuse .notFound s := by
  unfold paneDrop
  rw [index?_val, index?_val]
  exact if_pos (by rw [h]; rfl)

theorem paneDrop_present {v : ViewId} {k : Fin 6} {p : Pane} (h : look (s.editView v).panes k = some p) :
    paneDrop ⟨v.val, k.val⟩ s
      = ⟨.ok, .none, s.setEditView v { s.editView v with panes := put (s.editView v).panes k none }⟩ := by
  unfold paneDrop
  rw [index?_val, index?_val]
  exact if_neg (by simp [h])

theorem paneDrop_badValue {f : PaneDropFields} (h : 8 ≤ f.view ∨ 6 ≤ f.slot) : paneDrop f s = refuse .badValue s := by
  unfold paneDrop
  split
  · next hview hslot =>
    rw [index?_eq_some] at hview hslot
    omega
  · rfl

theorem viewSet_val (v : ViewId) (label : Fin 32) (background : Pixel) : viewSet ⟨v.val, background, label.val⟩ s =
    ⟨.ok, .none, s.setEditView v { s.editView v with background := background, label := label }⟩ := by
  unfold viewSet
  rw [index?_val, index?_val]

theorem viewSet_badValue {f : ViewSetFields} (h : 8 ≤ f.view ∨ 32 ≤ f.label) : viewSet f s = refuse .badValue s := by
  unfold viewSet
  split
  · next hview hlabel =>
    rw [index?_eq_some] at hview hlabel
    omega
  · rfl

end

/-- Settles O39: each request by its checks, the slot of PANE DROP by whether it is present. -/
theorem paneDropAndViewSet : Obligations.PaneDropAndViewSet := by
  refine ⟨fun s tag f ht => ⟨?_, fun h => request_refused ht fun k => paneDrop_badValue _ h⟩,
    fun s tag f ht => ⟨?_, fun h => request_refused ht fun k => viewSet_badValue _ h⟩⟩
  · obtain ⟨view, slot⟩ := f
    rintro v j rfl rfl
    split
    · next habsent => exact request_refused ht fun k => paneDrop_absent { s with control := k } habsent
    · next p hpresent => exact request_setViews ht fun k => paneDrop_present { s with control := k } hpresent
  · obtain ⟨view, background, label⟩ := f
    rintro v l rfl rfl
    exact request_setViews ht fun k => viewSet_val { s with control := k } v l background

/-! ## VIEW MAP SET (R65) -/

theorem mapPairOf?_val (p : Fin 8 × ViewId) : mapPairOf? (p.1.val, p.2.val) = some p := by
  simp [mapPairOf?]

theorem mapPairOf?_eq_some {p : Nat × Nat} {e : Fin 8 × ViewId} (h : mapPairOf? p = some e) : p = (e.1.val, e.2.val) := by
  unfold mapPairOf? at h
  split at h
  · next hcode hview =>
    cases h
    rw [← index?_eq_some.mp hcode, ← index?_eq_some.mp hview]
  · cases h

section
variable (s : State)

theorem viewMapSet_taken {pairs : List (Fin 8 × ViewId)} (hne : pairs ≠ []) (hnodup : (pairs.map (·.1)).Nodup) :
    viewMapSet (pairs.map fun p => (p.1.val, p.2.val)) s = ⟨.ok, .none, { s with views := { s.views with edit :=
      { s.views.edit with map := pairs.foldl (fun m e => put m e.1 e.2) s.views.edit.map } } }⟩ := by
  have hlength : pairs.length ≤ 8 := by simpa using hnodup.length_le_card
  unfold viewMapSet
  rw [if_neg (by simpa [hne] using hlength), mapM_map_eq_some mapPairOf?_val]
  exact if_pos hnodup

theorem viewMapSet_badLength {body : List (Nat × Nat)} (h : body = [] ∨ 8 < body.length) :
    viewMapSet body s = refuse .badLength s := if_pos h

theorem viewMapSet_badValue {body : List (Nat × Nat)} (h1 : 1 ≤ body.length) (h8 : body.length ≤ 8)
    (h : (∃ p ∈ body, 8 ≤ p.1 ∨ 8 ≤ p.2) ∨ ¬(body.map (·.1)).Nodup) : viewMapSet body s = refuse .badValue s := by
  have hlength : ¬(body = [] ∨ 8 < body.length) := by
    rintro (rfl | h)
    · cases h1
    · omega
  unfold viewMapSet
  rw [if_neg hlength]
  split
  · rfl
  · next entries hentries =>
    obtain rfl := eq_map_of_mapM_eq_some mapPairOf?_eq_some hentries
    refine if_neg fun hnodup => ?_
    obtain ⟨p, hp, hrange⟩ | hdup := h
    · obtain ⟨e, -, rfl⟩ := List.mem_map.mp hp
      omega
    · refine hdup ?_
      rw [List.map_map]
      have hkeys := hnodup.map Fin.val_injective
      rwa [List.map_map] at hkeys

/-! ## SET OVERLAY LIST (R66) -/

theorem setOverlayList_val (l : Fin 16) {shapes : List (Fin 64)} (h : shapes.length ≤ 12) :
    setOverlayList ⟨l.val, shapes.map Fin.val⟩ s =
      if ¬shapes.Nodup then refuse .badValue s
      else if ∃ k ∈ shapes, s.shape k = none then refuse .notFound s
      else ⟨.ok, .none, { s with views := { s.views with edit :=
        { s.views.edit with lists := put s.views.edit.lists l shapes } } }⟩ := by
  have hlength : ¬12 < (shapes.map Fin.val).length := by simpa using h
  have hdefined : (!shapes.all fun k => (look s.shapes.shapes k).isSome) = true ↔ ∃ k ∈ shapes, s.shape k = none := by
    simp [State.shape]
  unfold setOverlayList
  rw [if_neg hlength, index?_val, mapM_map_eq_some index?_val]
  exact if_congr Iff.rfl rfl (if_congr hdefined rfl rfl)

theorem setOverlayList_badLength {f : OverlayListFields} (h : 12 < f.shapes.length) :
    setOverlayList f s = refuse .badLength s := if_pos h

theorem setOverlayList_badValue {f : OverlayListFields} (h12 : f.shapes.length ≤ 12)
    (h : 16 ≤ f.list ∨ ∃ n ∈ f.shapes, 64 ≤ n) : setOverlayList f s = refuse .badValue s := by
  unfold setOverlayList
  rw [if_neg (Nat.not_lt.mpr h12)]
  split
  · next l shapes hlist hshapes =>
    rw [index?_eq_some] at hlist
    rw [eq_map_of_mapM_eq_some (fun h => index?_eq_some.mp h) hshapes] at h
    obtain h | ⟨n, hn, hrange⟩ := h
    · omega
    · obtain ⟨k, -, rfl⟩ := List.mem_map.mp hn
      omega
  · rfl

end

/-- Settles O40: VIEW MAP SET by the entries written one after the other, SET OVERLAY LIST by its checks in order. -/
theorem mapAndListEdits : Obligations.MapAndListEdits := by
  refine ⟨fun s tag => ⟨fun pairs ht hne hnodup => ?_, fun body ht =>
      ⟨fun h => request_refused ht fun k => viewMapSet_badLength _ h,
        fun h1 h8 h => request_refused ht fun k => viewMapSet_badValue _ h1 h8 h⟩⟩,
    fun s tag f ht => ⟨fun h => request_refused ht fun k => setOverlayList_badLength _ h,
      fun h12 h => request_refused ht fun k => setOverlayList_badValue _ h12 h⟩, fun s tag l shapes ht h12 => ?_⟩
  · refine ⟨pairs.foldl (fun m e => put m e.1 e.2) s.views.edit.map, ?_, look_foldl_put pairs hnodup _⟩
    exact request_setViews ht fun k => viewMapSet_taken { s with control := k } hne hnodup
  · have hlist := fun k : Control => setOverlayList_val { s with control := k } l h12
    split
    · next hdup => exact request_refused ht fun k => (hlist k).trans (if_pos hdup)
    · next hnodup =>
      replace hlist := fun k => (hlist k).trans (if_neg hnodup)
      split
      · next habsent => exact request_refused ht fun k => (hlist k).trans (if_pos habsent)
      · next hdefined => exact request_setViews ht fun k => (hlist k).trans (if_neg hdefined)

/-! ## APPLY TABLES (R68) -/

theorem Tables.mapsEmptyView_iff (t : Tables) : t.mapsEmptyView = true ↔
    ∃ k, ∀ j, look (look t.views (look t.map k)).panes j = none := by
  simp [Tables.mapsEmptyView, View.isEmpty, anyEntry]

/-- Settles O42: the check of RUN on the edit copy, and the flag. -/
theorem applyTablesSetsPendingFlag : Obligations.ApplyTables := by
  intro s tag ht
  have happly := fun k : Control => (if_congr (and_congr_right fun _ => s.views.edit.mapsEmptyView_iff) rfl rfl :
    applyTables () { s with control := k } = _)
  split
  · next hempty => exact request_refused ht fun k => (happly k).trans (if_pos hempty)
  · next hshown => exact request_setViews ht fun k => (happly k).trans (if_neg hshown)

/-! ## Display sense (R84) -/

/-- Settles O47: the change of a level, and the expiry of a sense timer by whether it has run out. -/
theorem displaySense : Obligations.DisplaySense := by
  refine fun s hs => ⟨fun level hlevel => ?_, fun hout => ?_, fun hrunning => ?_⟩
  · have hsense : s.display.sense level = { s.display with
        level := level, senseTimer := if level = s.display.present then none else some 50 } := if_neg hlevel
    rw [← hsense]
    exact unlessHeld_live hs fun t => { t with display := t.display.sense level }
  · have hexpires : s.senseExpires = _ := if_pos hout
    have hexec := unlessHeld_live hs State.senseExpires
    rw [hexpires] at hexec
    exact hexec
  · have hexpires : s.senseExpires = s := if_neg hrunning
    have hexec := unlessHeld_live hs State.senseExpires
    rw [hexpires] at hexec
    exact hexec

end Sys2Proof.Machine
end

section
/-! PROOF. PANE SET by its checks in order (R50, R61, R62). -/

namespace Sys2Proof.Machine

/-! ## The groups a request carries (R62, check 1) -/

/-- Values that are each read back from their codes are read back where they may be absent. -/
theorem decodeField_map {α β : Type} {decode : α → Option β} {code : β → α} {x : Option β}
    (h : ∀ b, x = some b → decode (code b) = some b) : decodeField decode (x.map code) = some x := by
  cases x with
  | none => rfl
  | some b => simp [decodeField, h b rfl]

theorem decodeField_eq_none {α β : Type} {decode : α → Option β} {x : Option α} (h : ∃ a, x = some a ∧ decode a = none) :
    decodeField decode x = none := by
  obtain ⟨a, rfl, hnone⟩ := h
  simp [decodeField, hnone]

theorem sourceOf?_val (p : PaneSource) : sourceOf? ⟨p.camera.val, p.grid.val⟩ = some p := by
  simp [sourceOf?]

theorem sourceOf?_eq_none {f : SourceFields} (h : 4 ≤ f.camera ∨ 16 ≤ f.grid) : sourceOf? f = none := by
  unfold sourceOf?
  split
  · next hcamera hgrid =>
    rw [index?_eq_some] at hcamera hgrid
    omega
  · rfl

theorem geometryOf?_eq_none {g : Geometry} (h : 960 < g.x ∨ 536 < g.y ∨ g.w % 8 ≠ 0 ∨ g.h % 8 ≠ 0 ∨ g.w < 64 ∨ 1024 < g.w
    ∨ g.h < 64 ∨ 600 < g.h ∨ 1024 < g.x + g.w ∨ 600 < g.y + g.h) : geometryOf? g = none := by
  refine if_neg fun hrange => ?_
  simp only [geometryInRange, Bool.and_eq_true, decide_eq_true_eq] at hrange
  omega

theorem paneListOf?_val {l : Fin 16} (h : l ≠ 0) : paneListOf? l.val = some l := by
  unfold paneListOf?
  rw [if_neg (show l.val ≠ 0 from fun h0 => h (Fin.ext h0)), index?_val]

theorem paneListOf?_eq_none {n : Nat} (h : n = 0 ∨ 16 ≤ n) : paneListOf? n = none := by
  unfold paneListOf?
  split
  · rfl
  · next hpos => exact index?_eq_none.mpr (h.resolve_left hpos)

/-- A dress as a request spells it. -/
def Dress.fields (d : Dress) : DressFields := ⟨d.list.map Fin.val, d.mirror, d.border, d.label.val⟩

theorem dressOf?_fields {d : Dress} (h : d.list ≠ some 0) : dressOf? d.fields = some d := by
  have hlist : decodeField paneListOf? (d.list.map Fin.val) = some d.list :=
    decodeField_map fun l hl => paneListOf?_val fun h0 => h (h0 ▸ hl)
  unfold dressOf? Dress.fields
  dsimp only
  rw [hlist, index?_val]

theorem dressOf?_eq_none {f : DressFields} (h : 32 ≤ f.label ∨ ∃ n, f.list = some n ∧ (n = 0 ∨ 16 ≤ n)) :
    dressOf? f = none := by
  unfold dressOf?
  split
  · next hlist hlabel =>
    obtain h | ⟨n, hn, hrange⟩ := h
    · rw [index?_eq_some] at hlabel
      omega
    · rw [decodeField_eq_none ⟨n, hn, paneListOf?_eq_none hrange⟩] at hlist
      cases hlist
  · rfl

/-- PANE SET as it spells a view, a slot and the groups it carries. -/
def PaneGroups.fields (g : PaneGroups) (v : ViewId) (k : Fin 6) : PaneSetFields :=
  let source : PaneSource → SourceFields := fun p => ⟨p.camera.val, p.grid.val⟩
  ⟨v.val, k.val, g.geometry, g.primary.map source, g.alternate.map (·.map source), g.dress.map Dress.fields⟩

theorem paneGroupsOf?_fields {g : PaneGroups} (hgeometry : ∀ x, g.geometry = some x → geometryInRange x = true)
    (hdress : ∀ d, g.dress = some d → d.list ≠ some 0) (v : ViewId) (k : Fin 6) : paneGroupsOf? (g.fields v k) = some g := by
  have h1 : decodeField geometryOf? g.geometry = some g.geometry := by
    simpa using decodeField_map (decode := geometryOf?) (code := id) fun x hx => if_pos (hgeometry x hx)
  have h2 := decodeField_map (x := g.primary) fun p _ => sourceOf?_val p
  have h3 := decodeField_map (x := g.alternate) fun a _ => decodeField_map (x := a) fun p _ => sourceOf?_val p
  have h4 := decodeField_map (x := g.dress) fun d hd => dressOf?_fields (hdress d hd)
  unfold paneGroupsOf? PaneGroups.fields
  dsimp only
  rw [h1, h2, h3, h4]

theorem paneGroupsOf?_eq_none {f : PaneSetFields} (h : decodeField geometryOf? f.geometry = none
    ∨ decodeField sourceOf? f.primary = none ∨ decodeField (decodeField sourceOf?) f.alternate = none
    ∨ decodeField dressOf? f.dress = none) : paneGroupsOf? f = none := by
  unfold paneGroupsOf?
  split
  · next h1 h2 h3 h4 => simp [h1, h2, h3, h4] at h
  · rfl

/-! ## The checks (R62) -/

theorem not_all_eq_any_not {α : Type} (x : Option α) (p : α → Bool) : (!x.all p) = x.any fun a => !p a := by
  cases x <;> rfl

section
variable {old : Option Pane} {g : PaneGroups}

theorem sameCamera_iff : sameCamera old g = true ↔ (resultingPrimary old g).any (fun p =>
    (resultingAlternate old g).any fun a => p.camera = a.camera) = true := by
  unfold sameCamera
  cases resultingPrimary old g <;> cases resultingAlternate old g <;> simp

theorem carriedReady_false_iff (s : State) (g : PaneGroups) : (!carriedReady s.grids g) = true ↔
    g.primary.any (fun q => !(s.grid q.grid).isReady) = true
      ∨ g.alternate.any (fun a => a.any fun q => !(s.grid q.grid).isReady) = true := by
  simp only [carriedReady, State.grid, Bool.not_and, not_all_eq_any_not, Bool.or_eq_true]

theorem paneFits_false_iff (s : State) (p : Pane) : (!paneFits s.grids p) = true ↔
    (s.grid p.primary.grid).fits p.geometry = false
      ∨ p.alternate.any (fun a => !(s.grid a.grid).fits p.geometry) = true := by
  simp only [paneFits, State.grid, Bool.not_and, not_all_eq_any_not, Bool.or_eq_true, Bool.not_eq_true']

theorem overlapsOther_iff {v : View} {k : Fin 6} {p : Pane} : overlapsOther v k p = true ↔
    ∃ j, j ≠ k ∧ (look v.panes j).any (fun q => overlaps p.geometry q.geometry) = true := by
  simp [overlapsOther]

/-- The resulting record where geometry and primary are there (R61, R62). -/
theorem resultingPane_some {geometry : Geometry} {primary : PaneSource}
    (hgeometry : g.geometry.or (old.map (·.geometry)) = some geometry) (hprimary : resultingPrimary old g = some primary) :
    let d := g.dress.getD ((old.map Pane.dress).getD .initial)
    resultingPane old g
      = some ⟨geometry, primary, resultingAlternate old g, d.list, d.mirror, d.border, d.label⟩ := by
  unfold resultingPane
  rw [hgeometry, hprimary]

theorem resultingPane_none (h : g.geometry.or (old.map (·.geometry)) = none ∨ resultingPrimary old g = none) :
    resultingPane old g = none := by
  unfold resultingPane
  split
  · next hgeometry hprimary => simp [hgeometry, hprimary] at h
  · rfl

end

/-! ## The request (R62) -/

section
variable {s : State} {v : ViewId} {k : Fin 6} {f : PaneSetFields} {g : PaneGroups} (hview : f.view = v.val)
  (hslot : f.slot = k.val) (hgroups : paneGroupsOf? f = some g)
include hview hslot hgroups

theorem paneSet_sameCamera (h : sameCamera (look (s.editView v).panes k) g = true) : paneSet f s = refuse .badValue s := by
  unfold paneSet
  rw [hview, hslot, hgroups, index?_val, index?_val]
  exact if_pos h

theorem paneSet_incomplete (h : sameCamera (look (s.editView v).panes k) g ≠ true)
    (hpane : resultingPane (look (s.editView v).panes k) g = none) : paneSet f s = refuse .badState s := by
  unfold paneSet
  rw [hview, hslot, hgroups, index?_val, index?_val]
  dsimp only
  rw [if_neg h, hpane]

/-- The grid checks and the overlap check of a resulting record. -/
theorem paneSet_resulting (h : sameCamera (look (s.editView v).panes k) g ≠ true) {p : Pane}
    (hpane : resultingPane (look (s.editView v).panes k) g = some p) : paneSet f s =
      if !carriedReady s.grids g then refuse .badState s
      else if !paneFits s.grids p then refuse .gridFit s
      else if overlapsOther (s.editView v) k p then refuse .overlap s
      else ⟨.ok, .none, s.setEditView v { s.editView v with panes := put (s.editView v).panes k (some p) }⟩ := by
  unfold paneSet
  rw [hview, hslot, hgroups, index?_val, index?_val]
  dsimp only
  rw [if_neg h, hpane]

end

theorem paneSet_badValue {f : PaneSetFields} (h : 8 ≤ f.view ∨ 6 ≤ f.slot ∨ paneGroupsOf? f = none) (s : State) :
    paneSet f s = refuse .badValue s := by
  unfold paneSet
  split
  · next hview hslot hgroups =>
    rw [index?_eq_some] at hview hslot
    obtain h | h | h := h
    · omega
    · omega
    · cases hgroups.symm.trans h
  · rfl

/-- Settles O41: the checks in their order, each by what it says of the resulting record; and the groups out of range. -/
theorem paneSetByItsChecks : Obligations.PaneSetByItsChecks := by
  refine ⟨fun s tag v k geo primary alternate dress => ?_, fun s tag f ht h => ?_⟩
  · intro source f old geo' primary' alternate' dress' hgeometry hdress ht
    have hgroups : paneGroupsOf? f = some ⟨geo, primary, alternate, dress⟩ :=
      paneGroupsOf?_fields (g := ⟨geo, primary, alternate, dress⟩) hgeometry hdress v k
    split
    · next hsame =>
      exact request_refused ht fun c =>
        paneSet_sameCamera (s := { s with control := c }) rfl rfl hgroups (sameCamera_iff.mpr hsame)
    · next hsame =>
      have hcameras : sameCamera old ⟨geo, primary, alternate, dress⟩ ≠ true := fun h => hsame (sameCamera_iff.mp h)
      have hmissing : geo' = none ∨ primary' = none → exec (.paneSet tag (.fields f)) s
          = .next (s.replied 0x10 tag .badState .none).drivePins := fun h =>
        request_refused ht fun c =>
          paneSet_incomplete (s := { s with control := c }) rfl rfl hgroups hcameras (resultingPane_none h)
      cases hgeo : geo' with
      | none => exact hmissing (.inl hgeo)
      | some geometry =>
        cases hfirst : primary' with
        | none => exact hmissing (.inr hfirst)
        | some first =>
          have hset := fun c : Control =>
            paneSet_resulting (s := { s with control := c }) rfl rfl hgroups hcameras (resultingPane_some hgeo hfirst)
          dsimp only
          split
          · next hready =>
            exact request_refused ht fun c => (hset c).trans (if_pos (Iff.mpr (carriedReady_false_iff s _) hready))
          · next hready =>
            replace hset := fun c => (hset c).trans (if_neg (mt (Iff.mp (carriedReady_false_iff s _)) hready))
            split
            · next hfits =>
              exact request_refused ht fun c => (hset c).trans (if_pos (Iff.mpr (paneFits_false_iff s _) hfits))
            · next hfits =>
              replace hset := fun c => (hset c).trans (if_neg (mt (Iff.mp (paneFits_false_iff s _)) hfits))
              split
              · next hover => exact request_refused ht fun c => (hset c).trans (if_pos (overlapsOther_iff.mpr hover))
              · next hover =>
                exact request_setViews ht fun c => (hset c).trans (if_neg (mt overlapsOther_iff.mp hover))
  · refine request_refused ht fun c => paneSet_badValue ?_ _
    obtain h | h | ⟨g, hg, h⟩ | ⟨p, hp, h⟩ | ⟨p, hp, h⟩ | ⟨d, hd, h⟩ := h
    · exact .inl h
    · exact .inr (.inl h)
    all_goals refine .inr (.inr (paneGroupsOf?_eq_none ?_))
    · exact .inl (decodeField_eq_none ⟨g, hg, geometryOf?_eq_none h⟩)
    · exact .inr (.inl (decodeField_eq_none ⟨p, hp, sourceOf?_eq_none h⟩))
    · exact .inr (.inr (.inl (decodeField_eq_none ⟨_, hp, decodeField_eq_none ⟨p, rfl, sourceOf?_eq_none h⟩⟩)))
    · exact .inr (.inr (.inr (decodeField_eq_none ⟨d, hd, dressOf?_eq_none h⟩)))

end Sys2Proof.Machine
end

section
/-! PROOF. The source choice of an output frame (R71). -/

namespace Sys2Proof.Machine

/-! ## The choice of one pane -/

/-- The rank of a pane's alternate camera, 0 where the pane has no alternate. -/
def Pane.alternateRank (p : Pane) (rank : Cam → Nat) : Nat := (p.alternate.map fun a => rank a.camera).getD 0

theorem Pane.alternateRank_some {p : Pane} {a : PaneSource} (h : p.alternate = some a) (rank : Cam → Nat) :
    p.alternateRank rank = rank a.camera := by
  rw [Pane.alternateRank, h]
  rfl

section
variable {rank : Cam → Nat} {p : Pane}

theorem chooseSource_none (hfirst : rank p.primary.camera = 0) (hother : p.alternateRank rank = 0) :
    chooseSource rank p = none := by
  unfold chooseSource
  dsimp only
  split
  · exact if_pos hfirst
  · next a ha =>
    rw [p.alternateRank_some ha] at hother
    rw [if_neg (by omega), if_pos hfirst]

theorem chooseSource_alternate (h : rank p.primary.camera < p.alternateRank rank) :
    ∃ a, p.alternate = some a ∧ chooseSource rank p = some ⟨a, true⟩ := by
  unfold chooseSource
  dsimp only
  split
  · next ha =>
    rw [Pane.alternateRank, ha] at h
    exact absurd h (Nat.not_lt_zero _)
  · next a ha =>
    rw [p.alternateRank_some ha] at h
    exact ⟨a, ha, if_pos h⟩

theorem chooseSource_primary (hother : p.alternateRank rank ≤ rank p.primary.camera) (hfirst : rank p.primary.camera ≠ 0) :
    chooseSource rank p = some ⟨p.primary, false⟩ := by
  unfold chooseSource
  dsimp only
  split
  · exact if_neg hfirst
  · next a ha =>
    rw [p.alternateRank_some ha] at hother
    rw [if_neg (Nat.not_lt.mpr hother), if_neg hfirst]

theorem chooseSource_rank {ch : ChosenSource} (h : chooseSource rank p = some ch) : 1 ≤ rank ch.source.camera := by
  by_cases hlt : rank p.primary.camera < p.alternateRank rank
  · obtain ⟨a, ha, hchoice⟩ := chooseSource_alternate hlt
    cases hchoice.symm.trans h
    rw [p.alternateRank_some ha] at hlt
    exact Nat.one_le_of_lt hlt
  · by_cases hfirst : rank p.primary.camera = 0
    · cases (chooseSource_none hfirst (by omega)).symm.trans h
    · cases (chooseSource_primary (Nat.not_lt.mp hlt) hfirst).symm.trans h
      exact Nat.one_le_iff_ne_zero.mpr hfirst

end

/-! ## The choice of an output frame -/

/-- The choice is the one that the latched ranks make for the panes of the shown view. -/
def State.ChosenByRanks (t : State) : Prop :=
  t.views.choice = mapTable (Option.bind · (chooseSource t.latchedRank)) (look t.views.live.views t.selector.shown).panes

theorem State.ChosenByRanks.look_choice {t : State} (h : t.ChosenByRanks) {k : Fin 6} {p : Pane}
    (hp : look (look t.views.live.views t.selector.shown).panes k = some p) :
    look t.views.choice k = chooseSource t.latchedRank p := by
  rw [h, look_mapTable, hp]
  rfl

theorem State.ChosenByRanks.drivePins {t : State} (h : t.ChosenByRanks) : t.drivePins.ChosenByRanks := h

/-- The choice made for the shown view holds beside the remaining latches of the same start. -/
theorem State.chosenByRanks_drawLatches (u : State) : (u.chooseSources u.selector.shown).drawLatches.ChosenByRanks := by
  unfold State.chooseSources
  dsimp only
  rw [State.foldl_countAlternate]
  exact rfl

/-- The output generator has latched the shown view when the sources are chosen (R72, R73). -/
theorem State.chosenByRanks_frameStart (s : State) : s.frameStart.ChosenByRanks := by
  unfold State.frameStart
  generalize s.storeFrameStart.applyAtStart.showView = r
  exact State.chosenByRanks_drawLatches { r with display := r.outputLatch }

/-- Settles O44: the choice of one pane by the ranks, in its slot of the shown view. -/
theorem sourceChoiceFollowsRanks : Obligations.SourceChoiceFollowsRanks := by
  intro s t k p hs h hpane rank other
  have hchosen : t.ChosenByRanks :=
    Host.Outcome.next.inj ((unlessHeld_live hs State.frameStart).symm.trans h) ▸ s.chosenByRanks_frameStart.drivePins
  rw [hchosen.look_choice hpane]
  exact ⟨fun ⟨hfirst, hother⟩ => chooseSource_none hfirst hother, chooseSource_alternate, chooseSource_primary,
    fun _ => chooseSource_rank⟩

end Sys2Proof.Machine
end

section
/-! PROOF. The limits of R87 on CLARITY and WATCH windows. A command other than WINDOW SET lets no window count under a
condition under which it did not count; WINDOW SET adds one definition, and makes it pending only within the limits. -/

namespace Sys2Proof.Machine

/-! ## Windows that count (R87) -/

/-- A window counts by its active definition or by the definition of its pending SET. -/
theorem Window.counts_iff {w : Window} {meets : WindowDef → Bool} :
    w.counts meets = true ↔ w.active.any meets = true ∨ ∃ d, w.change = .set d ∧ meets d = true := by
  unfold Window.counts
  cases w.change <;> simp

/-- Whether a window counts is a matter of its active definition and its pending change. -/
theorem Window.counts_congr {v w : Window} (ha : v.active = w.active) (hc : v.change = w.change) (meets : WindowDef → Bool) :
    v.counts meets = w.counts meets := by
  rw [Bool.eq_iff_iff, Window.counts_iff, Window.counts_iff, ha, hc]

/-- A pending change that takes effect counts nothing anew (R90). -/
theorem Window.counts_of_takeChange {w : Window} {meets : WindowDef → Bool} (h : w.takeChange.counts meets = true) :
    w.counts meets = true := by
  unfold Window.takeChange at h
  split at h
  · exact h
  · next d hd =>
    refine counts_iff.mpr (.inr ⟨d, hd, ?_⟩)
    simpa [Window.counts] using h
  · simp [Window.counts] at h

/-- RESTART keeps the active definition and counts nothing anew (R85). -/
theorem Window.counts_of_restarted {w : Window} {meets : WindowDef → Bool} (h : w.restarted.counts meets = true) :
    w.counts meets = true := by
  refine counts_iff.mpr (.inl ?_)
  simpa [Window.counts, Window.restarted, Window.initial] using h

/-- Where every window that counts counted before, no more windows count. -/
theorem countWindows_le {ws vs : Vector Window 16} {meets : WindowDef → Bool}
    (h : ∀ i, (look vs i).counts meets = true → (look ws i).counts meets = true) :
    countWindows vs meets ≤ countWindows ws meets :=
  List.countP_mono_left fun i _ => h i

theorem windowLimits_iff {ws : Vector Window 16} : windowLimits ws = true ↔
    (∀ c : Cam, countWindows ws (·.clarityOf c) ≤ 1) ∧ countWindows ws (·.isWatch) ≤ 8 := by
  simp [windowLimits, mem_allCams]

/-! ## Changes after which no more windows count -/

/-- Every window that counts under a condition in `t` counts under it in `s`. -/
structure CountsKept (s t : State) : Prop where
  counts : ∀ w (meets : WindowDef → Bool), (t.window w).counts meets = true → (s.window w).counts meets = true

namespace CountsKept

theorem refl (s : State) : CountsKept s s := ⟨fun _ _ => id⟩

theorem trans {s t u : State} (a : CountsKept s t) (b : CountsKept t u) : CountsKept s u :=
  ⟨fun w meets h => a.counts w meets (b.counts w meets h)⟩

theorem foldl {α : Type} {f : State → α → State} (h : ∀ t a, CountsKept t (f t a)) (l : List α) (s : State) :
    CountsKept s (l.foldl f s) := by
  induction l generalizing s with
  | nil => exact .refl s
  | cons a l ih => exact (h s a).trans (ih (f s a))

/-- The limits of R87 go over to a state with no window that counts anew. -/
theorem windowLaw {s t : State} (h : CountsKept s t) (hs : s.WindowLaw) : t.WindowLaw := by
  obtain ⟨hclarity, hwatch⟩ := windowLimits_iff.mp hs
  have hle : ∀ meets, countWindows t.windows meets ≤ countWindows s.windows meets := fun meets =>
    countWindows_le fun w => h.counts w meets
  exact windowLimits_iff.mpr ⟨fun c => (hle _).trans (hclarity c), (hle _).trans hwatch⟩

theorem of_windows {s t : State} (h : t.windows = s.windows) : CountsKept s t := by
  refine ⟨fun w meets => ?_⟩
  rw [State.window, h]
  exact id

/-- A change of every window that lets none count anew. -/
theorem mapWindows {s t : State} {f : Window → Window} (ht : t.windows = mapTable f s.windows)
    (hf : ∀ w meets, (f w).counts meets = true → w.counts meets = true) : CountsKept s t := by
  refine ⟨fun w meets => ?_⟩
  rw [State.window, ht, look_mapTable]
  exact hf _ _

end CountsKept

theorem CameraFrame.countsKept {c : Cam} {s t : State} (h : CameraFrame c s t) : CountsKept s t :=
  ⟨fun w meets ht => (Window.counts_congr (h.changes w).1 (h.changes w).2 meets).symm.trans ht⟩

theorem SelectorOnly.countsKept {s t : State} (h : SelectorOnly s t) : CountsKept s t := .of_windows h.windows

/-! ## Events of a camera link -/

namespace CountsKept
variable (s : State) (c : Cam)

theorem refreshHazard : CountsKept s s.refreshHazard := .of_windows s.refreshHazard_windows

theorem count (e : StatEvent) (d : Cam) : CountsKept s (s.count e d) := .of_windows (s.count_windows e d)

theorem frameClose : CountsKept s (s.frameClose c) :=
  ((cameraFrame_closed s c).trans (cameraFrame_judgeFrame (s.closed c) c)).countsKept

theorem trailerArrives (n : Byte) (good : Bool) : CountsKept s (s.trailerArrives c n good) := by
  unfold State.trailerArrives
  dsimp only
  split
  · exact .refl s
  · split
    · exact .of_windows rfl
    · split
      · exact .refl s
      · split
        · exact .frameClose s c
        · exact .trans (.count s .frameTruncated c) (.frameClose (s.count .frameTruncated c) c)

/-- The changes due take effect; the others stay pending (R89, R90). -/
theorem applyChanges : CountsKept s (s.applyChanges c) := by
  refine .mapWindows (s.changesApplied c).windows fun w meets h => ?_
  split at h
  · exact Window.counts_of_takeChange h
  · exact h

theorem openFrame (h : HeaderRecord) (m : CamMode) : CountsKept s (s.openFrame c h m) := by
  rw [State.openFrame_eq]
  exact .mapWindows (by unfold State.headerTaken; rfl) fun w meets hw =>
    (Window.counts_congr (w.openFrame_active c m) (w.openFrame_change c m) meets).symm.trans hw

theorem takeHeader (h : HeaderRecord) : CountsKept s (s.takeHeader c h) := by
  unfold State.takeHeader
  dsimp only
  have hclose : CountsKept s (if (s.port c).phase = .opened then (s.count .frameTruncated c).frameClose c else s) := by
    split
    · exact .trans (.count s .frameTruncated c) (.frameClose (s.count .frameTruncated c) c)
    · exact .refl s
  generalize (if (s.port c).phase = .opened then (s.count .frameTruncated c).frameClose c else s) = t at hclose
  have hignore : ∀ u : State, CountsKept u (u.ignoreFrame c) := fun u => (cameraFrame_ignoreFrame u c).countsKept
  split
  · exact hclose
  · refine hclose.trans (.trans (applyChanges t c) ?_)
    split
    · split
      · exact .openFrame ..
      · exact hignore _
    · exact hignore _

theorem headerArrives (h : HeaderRecord) (good : Bool) : CountsKept s (s.headerArrives c h good) := by
  unfold State.headerArrives
  split
  · exact .refl s
  · split
    · exact .takeHeader s c h
    · exact .of_windows rfl

theorem goOffUnlessOff (cause : LinkCause) : CountsKept s (s.goOffUnlessOff c cause) := by
  unfold State.goOffUnlessOff
  split
  · exact .refl s
  · exact (cameraFrame_goOff s c cause).countsKept

end CountsKept

/-! ## Requests to a port, to the parameters and to the mode -/

/-- A request's effect lets no window count anew. -/
def KeepsCounts (f : State → Answer) : Prop := ∀ s, CountsKept s (f s).state

/-- A change that is undone by putting back blocks other than the windows. -/
theorem CountsKept.of_rest {s t u : State} (h : u = s) (hu : u.windows = t.windows := by dsimp only) : CountsKept s t :=
  .of_windows (hu.symm.trans (congrArg State.windows h))

theorem keepsCounts_portEnable (port : Nat) : KeepsCounts (portEnable port) := by
  intro s
  unfold portEnable
  split
  · exact .refl s
  · next c _ =>
    exact (((cameraFrame_setPort s c _).trans (cameraFrame_leaveOff _ c)).trans (cameraFrame_reform _ c)).countsKept

theorem keepsCounts_portDisable (port : Nat) : KeepsCounts (portDisable port) := by
  intro s
  unfold portDisable
  split
  · exact .refl s
  · next c _ =>
    have hdisabled : CountsKept s (s.setPort c { s.port c with enabled := false }) := .of_windows rfl
    exact hdisabled.trans ((CountsKept.goOffUnlessOff ..).trans ((CountsKept.refreshHazard _).trans (.of_windows rfl)))

theorem keepsCounts_linkRestart (port : Nat) : KeepsCounts (linkRestart port) := by
  intro s
  unfold linkRestart
  split
  · exact .refl s
  · next c _ =>
    split
    · exact ((cameraFrame_setPort s c _).trans (cameraFrame_setLink _ c _ _)).countsKept
    · exact .refl s

theorem keepsCounts_portPreference (f : PreferenceFields) : KeepsCounts (portPreference f) := by
  intro s
  unfold portPreference
  split
  · exact (cameraFrame_takePreference ..).countsKept
  · exact .refl s

/-- The store group changes its parameters and the stores, and health follows (R30, R37). -/
theorem keepsCounts_store (p : StoreParams) : KeepsCounts (setParametersStore p) := by
  intro s
  have hlimited : CountsKept s (s.limited (clampStore p)) := .of_windows rfl
  have hrest := (limited_settled s (clampStore p)).rest
  rw [setParametersStore_eq]
  generalize allCams.foldl (State.settleStore fun x _ => x) (s.limited (clampStore p)) = t at hrest
  exact hlimited.trans (.of_rest hrest)

theorem keepsCounts_clarity (f : ClarityFields) : KeepsCounts (setParametersClarity f) := by
  intro s
  obtain h | ⟨c, cl, -, h⟩ := setParametersClarity_eq s f
  · exact .of_rest h
  · rw [h]
    exact .of_windows rfl

theorem keepsCounts_situation (p : SituationParams) : KeepsCounts (setParametersSituation p) := fun _ =>
  .of_windows (selectorOnly_rerank _).windows

theorem CountsKept.leaveRun (s : State) (m : OpMode) (cause : LinkCause) : CountsKept s (s.leaveRun m cause) := by
  have hmode : CountsKept s { s with mode := m, cadence := s.cadence.leaveRun } := .of_windows rfl
  unfold State.leaveRun
  exact hmode.trans ((CountsKept.foldl (fun t c => .goOffUnlessOff t c cause) allCams _).trans (.refreshHazard _))

theorem CountsKept.enterRun (s : State) : CountsKept s s.enterRun := by
  have hmode : CountsKept s { s with mode := .run } := .of_windows rfl
  unfold State.enterRun
  exact hmode.trans ((CountsKept.foldl (fun t c => (cameraFrame_leaveOff t c).countsKept) allCams _).trans (.of_windows rfl))

theorem keepsCounts_modeConfig (x : Unit) : KeepsCounts (modeConfig x) := by
  intro s
  unfold modeConfig
  split <;> rw [modeAnswer_state]
  · exact .refl s
  · exact .leaveRun ..
  · exact .of_windows rfl

theorem keepsCounts_modeRun (x : Unit) : KeepsCounts (modeRun x) := by
  intro s
  unfold modeRun
  split
  · exact .refl s
  all_goals
    split <;> rw [modeAnswer_state]
    · exact .refl s
    · exact .enterRun s

theorem keepsCounts_modeStandby (x : Unit) : KeepsCounts (modeStandby x) := by
  intro s
  unfold modeStandby
  split <;> rw [modeAnswer_state]
  · exact .refl s
  · exact .leaveRun ..
  · exact .refl s

/-- RESTART drops every pending change (R85). -/
theorem keepsCounts_restart (x : Unit) : KeepsCounts (restart x) := by
  intro s
  unfold restart
  dsimp only
  have hcontrol : CountsKept s { s with control := s.control.restarted, mode := .config, cadence := s.cadence.leaveRun } :=
    .of_windows rfl
  have hoff := hcontrol.trans (.foldl (fun t c => .goOffUnlessOff t c .restarted) allCams _)
  generalize allCams.foldl _ _ = v at hoff ⊢
  refine hoff.trans (.trans (.mapWindows ?_ fun _ _ => Window.counts_of_restarted) (.refreshHazard _))
  rfl

/-! ## WINDOW SET and WINDOW DROP (R86 to R88) -/

/-- A pending SET of a definition that does not meet a condition adds nothing to that condition's count. -/
theorem countWindows_putSet_le (ws : Vector Window 16) (w : WindowId) {d : WindowDef} {meets : WindowDef → Bool}
    (h : meets d = false) :
    countWindows (put ws w { look ws w with change := .set d }) meets ≤ countWindows ws meets := by
  refine countWindows_le fun i hi => ?_
  rw [look_put] at hi
  split at hi
  · next hw =>
    subst hw
    obtain ha | ⟨e, he, hm⟩ := Window.counts_iff.mp hi
    · exact Window.counts_iff.mpr (.inl ha)
    · cases he
      exact absurd hm (by simp [h])
  · exact hi

/-- A pending SET breaks no limit but the one of its own role: for CLARITY that of its camera, for WATCH that of all windows. -/
theorem windowLimits_putSet {ws : Vector Window 16} (h : windowLimits ws = true) (w : WindowId) (d : WindowDef) :
    windowLimits (put ws w { look ws w with change := .set d }) = true ↔
      (d.role = .clarity → countWindows (put ws w { look ws w with change := .set d }) (·.clarityOf d.camera) ≤ 1)
        ∧ (d.isWatch = true → countWindows (put ws w { look ws w with change := .set d }) (·.isWatch) ≤ 8) := by
  obtain ⟨hclarity, hwatch⟩ := windowLimits_iff.mp h
  refine windowLimits_iff.trans ⟨fun ⟨hc, hw⟩ => ⟨fun _ => hc d.camera, fun _ => hw⟩, fun ⟨hc, hw⟩ => ⟨fun c => ?_, ?_⟩⟩
  · by_cases hd : d.clarityOf c = true
    · obtain ⟨hrole, rfl⟩ : d.role = .clarity ∧ d.camera = c := by simpa [WindowDef.clarityOf] using hd
      exact hc hrole
    · exact (countWindows_putSet_le ws w (by simpa using hd)).trans (hclarity c)
  · by_cases hd : d.isWatch = true
    · exact hw hd
    · exact (countWindows_putSet_le ws w (by simpa using hd)).trans hwatch

/-- WINDOW SET of a definition in range, from a state within the limits (R87). -/
theorem windowSet_val {s : State} (hs : s.WindowLaw) {f : WindowFields} {w : WindowId} {d : WindowDef}
    (hlength : windowLengthOk f = true) (hid : f.id = w.val) (hd : windowDefOf? f = some d) : windowSet f s =
      if windowLimits (put s.windows w { s.window w with change := .set d }) then
        ⟨.ok, .none, { s with windows := put s.windows w { s.window w with change := .set d } }⟩
      else refuse .noRoom s := by
  unfold windowSet
  rw [hlength, hid, index?_val, hd]
  dsimp only
  rw [if_neg (by decide)]
  refine if_congr ?_ rfl rfl
  refine .trans ?_ (windowLimits_putSet hs w d).symm
  split
  · next hrole =>
    have hno : d.isWatch = false := by simp [WindowDef.isWatch, hrole]
    rw [decide_eq_true_iff]
    exact ⟨fun h => ⟨fun _ => h, fun h' => absurd h' (by simp [hno])⟩, fun h => h.1 hrole⟩
  · next hrole =>
    have hyes : d.isWatch = true := by simp [WindowDef.isWatch, hrole]
    rw [decide_eq_true_iff]
    exact ⟨fun h => ⟨fun h' => absurd h' (by simp [hrole]), fun _ => h⟩, fun h => h.2 hyes⟩
  · next hclarity hwatch =>
    have hno : d.isWatch = false := by
      unfold WindowDef.isWatch
      split
      · next hrole => exact absurd hrole (hwatch _ _)
      · rfl
    exact ⟨fun _ => ⟨fun h => absurd h hclarity, fun h => absurd h (by simp [hno])⟩, fun _ => rfl⟩

/-- WINDOW SET with a body of another length than its role's (R86). -/
theorem windowSet_badLength {f : WindowFields} (h : windowLengthOk f = false) (s : State) :
    windowSet f s = refuse .badLength s := by
  unfold windowSet
  rw [h]
  rfl

/-- WINDOW SET of a definition or a window out of range (R86). -/
theorem windowSet_badValue {f : WindowFields} (hlength : windowLengthOk f = true)
    (h : 16 ≤ f.id ∨ windowDefOf? f = none) (s : State) : windowSet f s = refuse .badValue s := by
  unfold windowSet
  rw [hlength, if_neg (by decide)]
  obtain h | h := h
  · rw [index?_eq_none.mpr h]
  · rw [h]
    split
    · next h => exact absurd h nofun
    · rfl

theorem State.WindowLaw.windowSet {s : State} (hs : s.WindowLaw) (f : WindowFields) : (windowSet f s).state.WindowLaw := by
  cases hlength : windowLengthOk f with
  | false => rw [windowSet_badLength hlength]; exact hs
  | true =>
    cases hw : index? 16 f.id with
    | none => rw [windowSet_badValue hlength (.inl (index?_eq_none.mp hw))]; exact hs
    | some w =>
      cases hd : windowDefOf? f with
      | none => rw [windowSet_badValue hlength (.inr hd)]; exact hs
      | some d =>
        rw [windowSet_val hs hlength (index?_eq_some.mp hw) hd]
        split
        · next hfits => exact hfits
        · exact hs

/-- A window's pending change is replaced by one that is no SET. -/
theorem CountsKept.putChange (s : State) (w : WindowId) {x : PendingChange} (hx : ∀ d, x ≠ .set d) :
    CountsKept s { s with windows := put s.windows w { s.window w with change := x } } := by
  refine ⟨fun i meets h => ?_⟩
  have hlook : State.window { s with windows := put s.windows w { s.window w with change := x } } i =
      if w = i then { s.window w with change := x } else s.window i := look_put ..
  rw [hlook] at h
  split at h
  · next hw =>
    subst hw
    obtain ha | ⟨d, hd, -⟩ := Window.counts_iff.mp h
    · exact Window.counts_iff.mpr (.inl ha)
    · exact absurd hd (hx d)
  · exact h

theorem keepsCounts_windowDrop (id : Nat) : KeepsCounts (windowDrop id) := by
  intro s
  unfold windowDrop
  split
  · exact .refl s
  · next w _ =>
    dsimp only
    split
    · exact .putChange s w nofun
    · exact .refl s
    · exact .putChange s w nofun

/-! ## Every command -/

theorem CountsKept.frameStart (s : State) : CountsKept s s.frameStart := by
  have hstore : CountsKept s s.storeFrameStart := .of_rest s.storeFrameStart_rest
  rw [s.frameStart_eq]
  generalize s.storeFrameStart = r at hstore ⊢
  obtain ⟨choice, hdrawn⟩ := r.drawn_eq
  exact hstore.trans (.of_windows (congrArg State.windows hdrawn :))

/-- After power-on no window has a definition (R179). -/
theorem State.windowLaw_atPowerOn (levels : PowerInputs) (epoch choices : Nat) (q : List Instr) :
    (State.atPowerOn levels epoch choices q).WindowLaw := by
  have hnone : ∀ meets, countWindows (State.atPowerOn levels epoch choices q).windows meets = 0 := fun meets =>
    List.countP_eq_zero.mpr fun i _ => by
      simp [State.atPowerOn, Window.counts, Window.initial]
  exact windowLimits_iff.mpr ⟨fun c => by simp [hnone], by simp [hnone]⟩

theorem unlessHeld_keepsCounts {f : State → State} (hf : ∀ s, CountsKept s (f s)) {s t : State}
    (h : unlessHeld s f = .next t) : CountsKept s t :=
  unlessHeld_keeps (P := CountsKept s) (fun _ hu => hu.trans (.of_windows rfl)) (fun _ => hf s) h (.refl s)

theorem request_keepsCounts {f : State → Answer} (hf : KeepsCounts f) {r : Instr} {kind tag : Byte} {s t : State}
    (h : request r kind tag f s = .next t) : CountsKept s t :=
  request_keeps (P := CountsKept s) (fun _ _ hu => hu.trans (.of_windows rfl)) (fun _ _ hu => hu.trans (.of_windows rfl))
    (fun u hu => hu.trans (hf u)) h (.refl s)

/-- A command with a body, taken as a request. -/
theorem requestBody_keepsCounts {α : Type} {f : α → State → Answer} {b : Body α} {r : Instr} {kind tag : Byte} {s t : State}
    (h : request r kind tag (Body.run b f) s = .next t) (hf : ∀ x, KeepsCounts (f x)) : CountsKept s t := by
  cases b with
  | badLength => exact request_keepsCounts (fun s => .refl s) h
  | fields x => exact request_keepsCounts (hf x) h

/-- WINDOW SET keeps the limits, which it checks (R87). -/
theorem execWindowSet_keepsWindowLaw {tag : Byte} {b : Body WindowFields} {s t : State}
    (h : execWindowSet tag b s = .next t) (hs : s.WindowLaw) : t.WindowLaw := by
  have hf : ∀ u : State, u.WindowLaw → (Body.run b windowSet u).state.WindowLaw := fun u hu => by
    cases b with
    | badLength => exact hu
    | fields f => exact hu.windowSet f
  exact request_keeps (P := State.WindowLaw) (fun _ _ hu => hu) (fun _ _ hu => hu) hf h hs

/-- Every command but WINDOW SET and POWER ON lets no window count anew. -/
theorem exec_keepsCounts {i : Instr} {s t : State} (h : exec i s = .next t) (hpower : ∀ levels, i ≠ .powerOn levels)
    (hset : ∀ tag b, i ≠ .windowSet tag b) : CountsKept s t := by
  cases i with
  | powerOn levels => exact absurd rfl (hpower levels)
  | windowSet tag b => exact absurd rfl (hset tag b)
  | resetAssert => cases h; exact .of_windows rfl
  | unknownRecordArrival c => cases h; exact .of_windows rfl
  | carrierGain c => exact unlessHeld_keepsCounts (fun s => (cameraFrame_gainCarrier s c).countsKept) h
  | carrierLoss c => exact unlessHeld_keepsCounts (fun s => (cameraFrame_loseCarrier s c).countsKept) h
  | announceArrival c r k => exact unlessHeld_keepsCounts (fun s => (cameraFrame_announceArrives s c r _).countsKept) h
  | trainingSegmentArrival c r k =>
    exact unlessHeld_keepsCounts (fun s => (cameraFrame_trainSegment s c r.index _).countsKept) h
  | frameHeaderArrival c r k => exact unlessHeld_keepsCounts (fun s => .headerArrives s c r _) h
  | segmentArrival c i body k =>
    exact unlessHeld_keepsCounts (fun s => (cameraFrame_segmentArrives s c i body _).countsKept) h
  | frameTrailerArrival c n k => exact unlessHeld_keepsCounts (fun s => .trailerArrives s c n _) h
  | announceTimerExpiry c => exact unlessHeld_keepsCounts (fun s => (cameraFrame_announceExpires s c).countsKept) h
  | trainTimerExpiry c => exact unlessHeld_keepsCounts (fun s => (cameraFrame_trainExpires s c).countsKept) h
  | backChannelRecordSent c => exact unlessHeld_keepsCounts (fun s => (cameraFrame_backRecordSent s c).countsKept) h
  | outputFrameStart => exact unlessHeld_keepsCounts .frameStart h
  | displaySenseChange level =>
    exact unlessHeld_keepsCounts (f := fun t => { t with display := t.display.sense level }) (fun _ => .of_windows rfl) h
  | displaySenseTimerExpiry => exact unlessHeld_keepsCounts (fun s => .of_rest (senseExpires_rest s)) h
  | holdTimerExpiry w =>
    exact unlessHeld_keepsCounts (f := fun t => t.holdExpires w) (fun s => .of_rest (holdExpires_rest s w)) h
  | vehicleTimeoutExpiry => exact unlessHeld_keepsCounts (fun s => (selectorOnly_vehicleTimeout s).countsKept) h
  | turnDwellExpiry => exact unlessHeld_keepsCounts (fun s => (selectorOnly_turnDwellExpires s).countsKept) h
  | forceTimerExpiry => exact unlessHeld_keepsCounts (fun s => (selectorOnly_forceTimerExpires s).countsKept) h
  | viewDwellTimerExpiry => exact unlessHeld_keepsCounts (fun s => (selectorOnly_viewDwellExpires s).countsKept) h
  | onTimeExpiry ch =>
    exact unlessHeld_keepsCounts (f := fun t => t.setChannel ch (t.channel ch).onExpires)
      (fun s => .of_rest (setChannel_rest s ch _)) h
  | offTimeExpiry ch =>
    exact unlessHeld_keepsCounts (f := fun t => t.setChannel ch (t.channel ch).offExpires)
      (fun s => .of_rest (setChannel_rest s ch _)) h
  | byteGapTimerExpiry =>
    exact unlessHeld_keepsCounts (f := fun t => { t with control := t.control.gapExpires }) (fun _ => .of_windows rfl) h
  | controlFrameComplete b =>
    exact unlessHeld_keepsCounts (f := fun t => { t with control := t.control.completeWith b }) (fun _ => .of_windows rfl) h
  | frameSendEnd =>
    exact unlessHeld_keepsCounts (f := fun t => { t with control := t.control.sendEnd }) (fun _ => .of_windows rfl) h
  | byteReceived b =>
    exact unlessHeld_keepsCounts (f := fun t => { t with control := t.control.receive b }) (fun _ => .of_windows rfl) h
  | unknownRequest kind tag => exact request_keepsCounts (fun s => .of_rest (unknownRequest_state s kind)) h
  | identify tag b => exact requestBody_keepsCounts h fun _ s => .refl s
  | status tag b => exact requestBody_keepsCounts h fun _ _ => .of_windows rfl
  | setParametersLink tag b => exact requestBody_keepsCounts h fun _ _ => .of_windows rfl
  | setParametersStore tag b => exact requestBody_keepsCounts h keepsCounts_store
  | setParametersTone tag b => exact requestBody_keepsCounts h fun f s => .of_rest (setParametersTone_rest s f)
  | setParametersToneLimits tag b => exact requestBody_keepsCounts h fun _ _ => .of_windows rfl
  | setParametersClarity tag b => exact requestBody_keepsCounts h keepsCounts_clarity
  | setParametersClarityLimits tag b => exact requestBody_keepsCounts h fun _ _ => .of_windows rfl
  | setParametersZone tag b => exact requestBody_keepsCounts h fun _ _ => .of_windows rfl
  | setParametersSituation tag b => exact requestBody_keepsCounts h keepsCounts_situation
  | setParametersCadence tag b => exact requestBody_keepsCounts h fun f s => .of_rest (setParametersCadence_rest s f)
  | portEnable tag b => exact requestBody_keepsCounts h keepsCounts_portEnable
  | portDisable tag b => exact requestBody_keepsCounts h keepsCounts_portDisable
  | linkRestart tag b => exact requestBody_keepsCounts h keepsCounts_linkRestart
  | portPreferenceList tag b => exact requestBody_keepsCounts h keepsCounts_portPreference
  | windowDrop tag b => exact requestBody_keepsCounts h keepsCounts_windowDrop
  | seamSet tag b => exact requestBody_keepsCounts h fun f s => .of_rest (seamSet_rest s f)
  | gridBegin tag b => exact requestBody_keepsCounts h fun f s => .of_rest (gridBegin_rest s f)
  | gridNodes tag b => exact requestBody_keepsCounts h fun f s => .of_rest (gridNodes_rest s f)
  | gridEnd tag b => exact requestBody_keepsCounts h fun id s => .of_rest (gridEnd_rest s id)
  | gridDrop tag b => exact requestBody_keepsCounts h fun id s => .of_rest (gridDrop_rest s id)
  | shapeSet tag b => exact requestBody_keepsCounts h fun f s => .of_rest (shapeSet_rest s f)
  | shapeDrop tag b => exact requestBody_keepsCounts h fun id s => .of_rest (shapeDrop_rest s id)
  | setOverlayList tag b => exact requestBody_keepsCounts h fun f s => .of_rest (setOverlayList_rest s f)
  | viewSet tag b => exact requestBody_keepsCounts h fun f s => .of_rest (viewSet_rest s f)
  | paneSet tag b => exact requestBody_keepsCounts h fun f s => .of_rest (paneSet_rest s f)
  | paneDrop tag b => exact requestBody_keepsCounts h fun f s => .of_rest (paneDrop_rest s f)
  | viewMapSet tag b => exact requestBody_keepsCounts h fun f s => .of_rest (viewMapSet_rest s f)
  | applyTables tag b => exact requestBody_keepsCounts h fun x s => .of_rest (applyTables_rest s x)
  | vehicleState tag record => exact request_keepsCounts (fun s => (selectorOnly_vehicleState s record).countsKept) h
  | forceView tag b => exact requestBody_keepsCounts h fun f s => (selectorOnly_forceView s f).countsKept
  | releaseView tag b => exact requestBody_keepsCounts h fun x s => (selectorOnly_releaseView s x).countsKept
  | silence tag b => exact requestBody_keepsCounts h fun _ _ => .of_windows rfl
  | readCamera tag b => exact requestBody_keepsCounts h fun camera s => .of_rest (readCamera_state s camera)
  | readMeter tag b => exact requestBody_keepsCounts h fun id s => .of_rest (readMeter_state s id)
  | readTable tag b => exact requestBody_keepsCounts h fun f s => .of_rest (readTable_state s f)
  | counterSelect tag b => exact requestBody_keepsCounts h fun f s => .of_rest (counterSelect_rest s f)
  | counterRead tag b => exact requestBody_keepsCounts h fun _ s => .refl s
  | modeConfig tag b => exact requestBody_keepsCounts h keepsCounts_modeConfig
  | modeRun tag b => exact requestBody_keepsCounts h keepsCounts_modeRun
  | modeStandby tag b => exact requestBody_keepsCounts h keepsCounts_modeStandby
  | restart tag b => exact requestBody_keepsCounts h keepsCounts_restart

theorem exec_keepsWindowLaw (i : Instr) {s t : State} (hs : s.WindowLaw) (h : exec i s = .next t) : t.WindowLaw := by
  cases i with
  | powerOn levels => cases h; exact State.windowLaw_atPowerOn ..
  | windowSet tag b => exact execWindowSet_keepsWindowLaw h hs
  | _ => exact (exec_keepsCounts h nofun nofun).windowLaw hs

/-- Settles O10, over the commands: the millisecond leaves the windows. -/
theorem stepKeepsWindowLaw : Obligations.StepKeepsWindowLaw := by
  intro s t hs h
  unfold step at h
  split at h
  · cases h
    exact hs
  · next i rest _ => exact exec_keepsWindowLaw i (s := s.withPending rest) hs h

end Sys2Proof.Machine
end

section
/-! PROOF. WINDOW SET, WINDOW DROP and SEAM SET by their checks (R86 to R88, R109). -/

namespace Sys2Proof.Machine

/-! ## WINDOW SET (R86, R87) -/

/-- A request that replaces a window's pending change. -/
theorem request_putChange {s : State} {w : WindowId} {r : Instr} (ht : Takes s r) {kind tag : Byte} {f : State → Answer}
    {x : PendingChange} (hf : ∀ k, f { s with control := k } =
      ⟨.ok, .none, { s with windows := put s.windows w { s.window w with change := x }, control := k }⟩) :
    request r kind tag f s = .next (State.drivePins
      { s.replied kind tag .ok .none with windows := put s.windows w { s.window w with change := x } }) :=
  request_taken ht (g := fun t => { t with windows := put s.windows w { s.window w with change := x } }) hf
    (fun _ => rfl) fun _ _ => rfl

/-- A body has the wrong length for its role exactly where level and mask are missing with WATCH, or stand with another
role. -/
theorem windowLengthOk_eq_false_iff {f : WindowFields} : windowLengthOk f = false ↔
    f.role = some .watch ∧ f.watch = none ∨ f.role ≠ none ∧ f.role ≠ some .watch ∧ f.watch ≠ none := by
  unfold windowLengthOk
  split
  · next h => simp [h, Option.isSome_eq_false_iff]
  · next r hr h =>
    have hne : r ≠ .watch := hr
    simp [h, hne, Option.isSome_iff_ne_none]
  · next h => simp [h]

theorem windowDefOf?_eq_none {f : WindowFields} (h : 4 ≤ f.camera ∨ f.role = none ∨ 256 < f.left ∨ 256 < f.top
    ∨ 256 < f.right ∨ 256 < f.bottom ∨ f.right ≤ f.left ∨ f.bottom ≤ f.top ∨ f.step = 0 ∨ 4 < f.step
    ∨ ∃ l m, f.role = some .watch ∧ f.watch = some (l, m) ∧ (l = 0 ∨ 15 < l)) : windowDefOf? f = none := by
  rw [Option.eq_none_iff_forall_ne_some]
  intro d hd
  unfold windowDefOf? at hd
  dsimp only at hd
  split at hd
  · next c r hc hr =>
    have hcamera : f.camera < 4 := index?_eq_some.mp hc ▸ c.isLt
    split at hd
    · next hfield =>
      have hbad : f.role = none ∨ ∃ l m, f.role = some .watch ∧ f.watch = some (l, m) ∧ (l = 0 ∨ 15 < l) := by
        by_contra hno
        rw [not_or] at hno
        simp only [hno, false_or, or_false] at h
        omega
      obtain hrole | ⟨l, m, hrole, hwatch, hl⟩ := hbad
      · simp only [hrole] at hr
        exact nomatch hr
      · simp only [hrole, hwatch] at hr
        rw [if_neg (by omega)] at hr
        exact nomatch hr
    · exact nomatch hd
  · exact nomatch hd

/-- Settles O31: the effect by `windowSet_val`, each refusal by the check it fails. -/
theorem windowSetStoresAPendingChange : Obligations.WindowSetStoresAPendingChange := by
  refine ⟨fun s tag f w d hs ht hlength hid hd => ?_, fun s tag f ht => ⟨fun hbad => ?_, fun hgood hrange => ?_⟩⟩
  · have heffect := fun k : Control => windowSet_val (s := { s with control := k }) hs hlength hid hd
    split
    · next hfits => exact request_putChange ht fun k => (heffect k).trans (if_pos hfits)
    · next hfull => exact request_refused ht fun k => (heffect k).trans (if_neg hfull)
  · exact request_refused ht fun k => windowSet_badLength (windowLengthOk_eq_false_iff.mpr hbad) _
  · have hlength : windowLengthOk f = true := by
      rw [← Bool.not_eq_false, windowLengthOk_eq_false_iff]
      exact hgood
    exact request_refused ht fun k => windowSet_badValue hlength (hrange.imp_right windowDefOf?_eq_none) _

/-! ## WINDOW DROP (R88) -/

theorem windowDrop_of_le {id : Nat} (h : 16 ≤ id) (s : State) : windowDrop id s = refuse .badValue s := by
  unfold windowDrop
  rw [index?_eq_none.mpr h]

section
variable {s : State} {w : WindowId}

/-- A pending SET that never took effect is cancelled. -/
theorem windowDrop_pending {d : WindowDef} (ha : (s.window w).active = none) (hc : (s.window w).change = .set d) :
    windowDrop w.val s = ⟨.ok, .none, { s with windows := put s.windows w { s.window w with change := .none } }⟩ := by
  unfold windowDrop
  rw [index?_val]
  simp only [ha, hc]

theorem windowDrop_undefined (ha : (s.window w).active = none) (hc : ∀ d, (s.window w).change ≠ .set d) :
    windowDrop w.val s = refuse .notFound s := by
  unfold windowDrop
  rw [index?_val]
  dsimp only
  split
  · next hset => exact absurd hset (hc _)
  · rfl
  · next hactive => exact absurd (ha.symm.trans hactive) nofun

theorem windowDrop_active {d : WindowDef} (ha : (s.window w).active = some d) :
    windowDrop w.val s = ⟨.ok, .none, { s with windows := put s.windows w { s.window w with change := .drop } }⟩ := by
  unfold windowDrop
  rw [index?_val]
  simp only [ha]

end

/-! ## SEAM SET (R109) -/

theorem seamSet_val {f : SeamFields} {k : Fin 4} {a b : WindowId} (hk : f.pair = k.val) (ha : f.windowA = a.val)
    (hb : f.windowB = b.val) (hne : a ≠ b) (s : State) : seamSet f s =
      ⟨.ok, .seam ⟨some a, some b, f.enabled, 0, none⟩ (seamInForce s.windows ⟨some a, some b, f.enabled, 0, none⟩).isSome,
        { s with seams := put s.seams k ⟨some a, some b, f.enabled, 0, none⟩ }⟩ := by
  unfold seamSet
  rw [hk, ha, hb, index?_val, index?_val, index?_val]
  exact if_neg hne

theorem seamSet_badValue {f : SeamFields} (h : 4 ≤ f.pair ∨ 16 ≤ f.windowA ∨ 16 ≤ f.windowB ∨ f.windowA = f.windowB)
    (s : State) : seamSet f s = refuse .badValue s := by
  unfold seamSet
  split
  · next k a b hk ha hb =>
    rw [index?_eq_some] at hk ha hb
    have hab : a = b := Fin.ext (by omega)
    rw [if_pos hab]
  · rfl

/-- Settles O32: each request by its table, or by the check that fails. -/
theorem windowDropAndSeamSet : Obligations.WindowDropAndSeamSet := by
  refine ⟨fun s tag id ht hid => request_refused ht fun k => windowDrop_of_le hid _, fun s tag w ht => ?_,
    fun s tag f ht => ⟨?_, fun hbad => request_refused ht fun k => seamSet_badValue hbad _⟩⟩
  · split
    · next ha hc => exact request_putChange ht fun k => windowDrop_pending (s := { s with control := k }) ha hc
    · next ha hc => exact request_refused ht fun k => windowDrop_undefined ha fun d hd => nomatch hc.symm.trans hd
    · next ha hc => exact request_refused ht fun k => windowDrop_undefined ha fun d hd => nomatch hc.symm.trans hd
    · next ha => exact request_putChange ht fun k => windowDrop_active (s := { s with control := k }) ha
  · rintro k a b p hk ha hb hne rfl
    exact request_taken ht (g := fun t => { t with seams := put s.seams k ⟨some a, some b, f.enabled, 0, none⟩ })
      (fun j => seamSet_val hk ha hb hne _) (fun _ => rfl) fun _ _ => rfl

end Sys2Proof.Machine
end

section
/-! PROOF. What the windows measure (R91 to R96) and the tone mean (R102): a sampled row's share of the accumulators, a frame
open and a frame close window by window, and the mean over the TONE windows. -/

namespace Sys2Proof.Machine

/-! ## Sampled columns (R92) -/

/-- `k` steps stay below `n` for as many `k` as the quotient rounded up says. -/
theorem lt_stepCount_iff {n step k : Nat} (h : 1 ≤ step) : k < (n + step - 1) / step ↔ k * step < n := by
  have hmul : (k + 1) * step = k * step + step := Nat.succ_mul k step
  rw [Nat.lt_iff_add_one_le, Nat.le_div_iff_mul_le h, hmul]
  omega

section
variable {r : PixelRanges} {step : Nat}

@[simp] theorem sampledColumns_length : (sampledColumns r step).length = (r.nw + step - 1) / step := by
  simp [sampledColumns]

theorem le_of_mem_sampledColumns {x : Nat} (h : x ∈ sampledColumns r step) : r.xa ≤ x := by
  obtain ⟨k, -, rfl⟩ := List.mem_map.mp h
  exact Nat.le_add_right ..

theorem mem_sampledColumns (h : 1 ≤ step) {x : Nat} :
    x ∈ sampledColumns r step ↔ r.xa ≤ x ∧ x < r.xe ∧ ∃ k, x = r.xa + k * step := by
  simp only [sampledColumns, List.mem_map, List.mem_range, lt_stepCount_iff h, PixelRanges.nw]
  constructor
  · rintro ⟨k, hk, rfl⟩
    exact ⟨by omega, by omega, k, rfl⟩
  · rintro ⟨-, hx, k, rfl⟩
    exact ⟨k, by omega, rfl⟩

/-- Every sampled column but the last has a right neighbour. -/
theorem sampledColumns_inner_length (h : 1 ≤ step) :
    ((sampledColumns r step).filter fun x => decide (x + step < r.xe)).length = (r.nw + step - 1) / step - 1 := by
  have hinner : ∀ k, r.xa + k * step + step < r.xe ↔ k < (r.nw + step - 1) / step - 1 := fun k => by
    have hmul : (k + 1) * step = k * step + step := Nat.succ_mul k step
    have hk := lt_stepCount_iff (n := r.nw) (k := k + 1) h
    have hnw : r.nw = r.xe - r.xa := rfl
    omega
  unfold sampledColumns
  generalize (r.nw + step - 1) / step = n at hinner ⊢
  rw [List.filter_map, List.length_map, ← List.countP_eq_length_filter]
  simp only [Function.comp_def, hinner]
  cases n with
  | zero => rfl
  | succ n =>
    rw [List.range_succ, List.countP_append, List.countP_eq_length.mpr fun k hk => by simpa using hk]
    simp

end

/-! ## Blocks (R95) -/

theorem blockPart_le (a n x : Nat) : blockPart a n x ≤ 3 := by
  unfold blockPart
  split
  · exact Nat.le_refl 3
  · exact Nat.min_le_left ..

/-- A column or row lies in part `k` of four: the first three are `n / 4` long, and the fourth is the rest. -/
def inPart (a n k x : Nat) : Bool := decide (a + k * (n / 4) ≤ x) && (decide (k = 3) || decide (x < a + (k + 1) * (n / 4)))

theorem blockPart_eq_iff {a n x k : Nat} (hx : a ≤ x) (hk : k < 4) : blockPart a n x = k ↔ inPart a n k x = true := by
  rw [inPart, Bool.and_eq_true, Bool.or_eq_true, decide_eq_true_iff, decide_eq_true_iff, decide_eq_true_iff]
  unfold blockPart
  generalize n / 4 = q
  split
  · next hq => subst hq; omega
  · next hq =>
    have hle : ∀ m, m ≤ (x - a) / q ↔ m * q ≤ x - a := fun m => Nat.le_div_iff_mul_le (by omega)
    have h1 := hle k
    have h2 := hle (k + 1)
    generalize k * q = kq at *
    generalize (k + 1) * q = kq1 at *
    omega

/-- The block of a point (R95). -/
def blockOf (r : PixelRanges) (y x : Nat) : Nat := 4 * blockPart r.ya r.nh y + blockPart r.xa r.nw x

theorem blockOf_lt (r : PixelRanges) (y x : Nat) : blockOf r y x < 16 := by
  have hy := blockPart_le r.ya r.nh y
  have hx := blockPart_le r.xa r.nw x
  unfold blockOf
  omega

/-- A point's block is the one whose rows and columns hold it. -/
theorem blockOf_eq_iff {r : PixelRanges} {y x b : Nat} (hy : r.ya ≤ y) (hx : r.xa ≤ x) (hb : b < 16) :
    blockOf r y x = b ↔ (inPart r.ya r.nh (b / 4) y && inPart r.xa r.nw (b % 4) x) = true := by
  rw [Bool.and_eq_true, ← blockPart_eq_iff hy (by omega), ← blockPart_eq_iff hx (by omega)]
  have hle := blockPart_le r.xa r.nw x
  unfold blockOf
  omega

/-! ## Amounts added to the blocks of points -/

/-- Each point adds its amount to its block. -/
def addToBlocks (block amount : Nat → Nat) (xs bs : List Nat) : List Nat :=
  xs.foldl (fun bs x => bs.modify (block x) (· + amount x)) bs

theorem sum_modify_add {l : List Nat} {i : Nat} (h : i < l.length) (a : Nat) : (l.modify i (· + a)).sum = l.sum + a := by
  induction l generalizing i with
  | nil => exact absurd h (Nat.not_lt_zero i)
  | cons b l ih =>
    cases i with
    | zero => simp only [List.modify_zero_cons, List.sum_cons]; omega
    | succ i =>
      simp only [List.modify_succ_cons, List.sum_cons, ih (Nat.lt_of_succ_lt_succ h)]
      omega

section
variable (block amount : Nat → Nat) (xs bs : List Nat)

@[simp] theorem addToBlocks_length : (addToBlocks block amount xs bs).length = bs.length := by
  unfold addToBlocks
  induction xs generalizing bs with
  | nil => rfl
  | cons x xs ih => rw [List.foldl_cons, ih, List.length_modify]

/-- A block gains the amounts of its own points. -/
theorem addToBlocks_getElem? (b : Nat) : (addToBlocks block amount xs bs)[b]?
    = bs[b]?.map (· + ((xs.filter fun x => decide (block x = b)).map amount).sum) := by
  unfold addToBlocks
  induction xs generalizing bs with
  | nil => simp
  | cons x xs ih =>
    rw [List.foldl_cons, ih, List.getElem?_modify, List.filter_cons]
    by_cases hb : block x = b
    · simp [hb, Function.comp_def, Nat.add_assoc]
    · simp [hb]

/-- All blocks together gain the amounts of all points. -/
theorem addToBlocks_sum (h : ∀ x, block x < bs.length) : (addToBlocks block amount xs bs).sum = bs.sum + (xs.map amount).sum := by
  unfold addToBlocks
  induction xs generalizing bs with
  | nil => rfl
  | cons x xs ih =>
    rw [List.foldl_cons, ih _ (by simpa using h), sum_modify_add (h x), List.map_cons, List.sum_cons, Nat.add_assoc]

end

/-! ## One sampled row (R92 to R95) -/

namespace Accumulators

theorem foldl_addPoint (block lum : Nat → Nat) (xs : List Nat) (acc : Accumulators) :
    xs.foldl (fun a x => a.addPoint (block x) (lum x)) acc = { acc with
      sum := acc.sum + (xs.map lum).sum
      count := acc.count + xs.length
      blockSums := addToBlocks block lum xs acc.blockSums
      blockCounts := addToBlocks block (fun _ => 1) xs acc.blockCounts } := by
  unfold addToBlocks
  induction xs generalizing acc with
  | nil => rfl
  | cons x xs ih =>
    rw [List.foldl_cons, ih]
    simp only [Accumulators.addPoint, List.map_cons, List.sum_cons, List.length_cons, List.foldl_cons, Nat.add_assoc,
      Nat.add_comm 1]

theorem foldl_addContrast (lum right : Nat → Nat) (xs : List Nat) (acc : Accumulators) :
    xs.foldl (fun a x => a.addContrast (lum x) (right x)) acc = { acc with
      contrastSum := acc.contrastSum + (xs.map fun x => ((lum x : Int) - right x).natAbs).sum
      contrastCount := acc.contrastCount + xs.length } := by
  induction xs generalizing acc with
  | nil => rfl
  | cons x xs ih =>
    have hdistance : max (lum x) (right x) - min (lum x) (right x) = ((lum x : Int) - right x).natAbs := by omega
    rw [List.foldl_cons, ih]
    simp only [Accumulators.addContrast, hdistance, List.map_cons, List.sum_cons, List.length_cons, Nat.add_assoc,
      Nat.add_comm 1]

/-- A sampled row's share of every accumulator. -/
theorem addRow_eq (acc : Accumulators) (r : PixelRanges) (step y : Nat) (lum : Nat → Nat) : acc.addRow r step y lum =
    let columns := sampledColumns r step
    let inner := columns.filter fun x => decide (x + step < r.xe)
    ⟨acc.sum + (columns.map lum).sum, acc.count + columns.length,
      acc.contrastSum + (inner.map fun x => ((lum x : Int) - lum (x + step)).natAbs).sum, acc.contrastCount + inner.length,
      addToBlocks (blockOf r y) lum columns acc.blockSums,
      addToBlocks (blockOf r y) (fun _ => 1) columns acc.blockCounts⟩ := by
  unfold Accumulators.addRow
  dsimp only
  rw [foldl_addContrast, foldl_addPoint]
  rfl

section
variable (acc : Accumulators) (r : PixelRanges) {step : Nat} (y : Nat) {lum : Nat → Nat}

/-- A row of one luminance has no contrast. -/
theorem addRow_flat {v : Nat} (h : ∀ x, lum x = v) :
    (acc.addRow r step y lum).sum = acc.sum + v * ((r.nw + step - 1) / step)
      ∧ (acc.addRow r step y lum).contrastSum = acc.contrastSum := by
  obtain rfl : lum = fun _ => v := funext h
  rw [addRow_eq]
  simp [Nat.mul_comm]

/-- No point and no contrast point adds more than 255. -/
theorem addRow_le (hstep : 1 ≤ step) (h : ∀ x, lum x ≤ 255) :
    (acc.addRow r step y lum).sum ≤ acc.sum + 255 * ((r.nw + step - 1) / step)
      ∧ (acc.addRow r step y lum).contrastSum ≤ acc.contrastSum + 255 * ((r.nw + step - 1) / step - 1) := by
  have hsum : ∀ (f : Nat → Nat) (xs : List Nat), (∀ x, f x ≤ 255) → (xs.map f).sum ≤ 255 * xs.length := fun f xs hf => by
    have hle := List.sum_le_card_nsmul (xs.map f) 255 fun a ha => by
      obtain ⟨x, -, rfl⟩ := List.mem_map.mp ha
      exact hf x
    rwa [List.length_map, smul_eq_mul, Nat.mul_comm] at hle
  rw [addRow_eq, ← sampledColumns_inner_length hstep, ← sampledColumns_length]
  refine ⟨Nat.add_le_add_left (hsum lum _ h) _, Nat.add_le_add_left (hsum _ _ fun x => ?_) _⟩
  have hx := h x
  have hright := h (x + step)
  omega

/-- A block gains the luminances and the number of the sampled columns it holds. -/
theorem addRow_block {b : Nat} (hy : r.ya ≤ y) (hb : b < 16) :
    let points := (sampledColumns r step).filter fun x => inPart r.ya r.nh (b / 4) y && inPart r.xa r.nw (b % 4) x
    (acc.addRow r step y lum).blockSums[b]? = (acc.blockSums[b]?).map (· + (points.map lum).sum)
      ∧ (acc.addRow r step y lum).blockCounts[b]? = (acc.blockCounts[b]?).map (· + points.length) := by
  have hpoints : (sampledColumns r step).filter (fun x => decide (blockOf r y x = b))
      = (sampledColumns r step).filter fun x => inPart r.ya r.nh (b / 4) y && inPart r.xa r.nw (b % 4) x :=
    List.filter_congr fun x hx => by
      rw [Bool.eq_iff_iff, decide_eq_true_iff, blockOf_eq_iff hy (le_of_mem_sampledColumns hx) hb]
  rw [addRow_eq, ← hpoints]
  exact ⟨addToBlocks_getElem? .., (addToBlocks_getElem? ..).trans (by simp)⟩

/-- The blocks together gain what the window gains. -/
theorem addRow_blocks_sum (hsums : acc.blockSums.length = 16) (hcounts : acc.blockCounts.length = 16) :
    (acc.addRow r step y lum).blockSums.length = 16 ∧ (acc.addRow r step y lum).blockCounts.length = 16
      ∧ (acc.addRow r step y lum).blockSums.sum + acc.sum = acc.blockSums.sum + (acc.addRow r step y lum).sum
      ∧ (acc.addRow r step y lum).blockCounts.sum + acc.count
        = acc.blockCounts.sum + (acc.addRow r step y lum).count := by
  rw [addRow_eq]
  dsimp only
  have hs := addToBlocks_sum (blockOf r y) lum (sampledColumns r step) acc.blockSums fun x => hsums ▸ blockOf_lt r y x
  have hc := addToBlocks_sum (blockOf r y) (fun _ => 1) (sampledColumns r step) acc.blockCounts fun x =>
    hcounts ▸ blockOf_lt r y x
  refine ⟨by simp [hsums], by simp [hcounts], ?_, ?_⟩
  · omega
  · rw [hc]
    simp only [List.map_const', List.sum_replicate, smul_eq_mul, Nat.mul_one]
    omega

end

end Accumulators

/-! ## A window's frame (R91, R92, R96) -/

namespace Window
variable {w : Window} {c : Cam} {d : WindowDef} {r : PixelRanges}

/-- A window that does not measure, or serves another camera, does not take part in the frame. -/
theorem not_measures (h : w.measuring = false ∨ d.camera ≠ c) : ¬(w.measuring = true ∧ d.camera = c) :=
  fun ⟨hm, hc⟩ => h.elim (fun hno => Bool.false_ne_true (hno.symm.trans hm)) (absurd hc)

variable (hd : w.active = some d)
include hd

theorem openFrame_eq (m : CamMode) : w.openFrame c m =
    if d.camera = c then { w with measuring := true, acc := .zero, ranges := some (rangesOf d m) } else w := by
  unfold Window.openFrame
  rw [hd]

variable (hr : w.ranges = some r)
include hr

theorem sample_eq (i : Nat) (lum : Nat → Nat → Nat) : w.sample c i lum =
    if w.measuring ∧ d.camera = c then
      { w with
        acc := (((List.range 16).map fun k => 16 * i + k).filter (sampledRow r d.step)).foldl
          (fun a y => a.addRow r d.step y (lum y)) w.acc }
    else w := by
  unfold Window.sample
  rw [hd, hr]

theorem closeFrame_eq (frame : Byte) (exposure : Nat) (map : List Bool) : w.closeFrame c frame exposure map =
    if w.measuring ∧ d.camera = c then
      ⟨some d, w.change, false, .zero, none, false, some ⟨c, frame, exposure, verdictOf r w.acc map, w.first⟩⟩
    else w := by
  unfold Window.closeFrame
  simp only [hd, hr]

end Window

theorem sampledRow_eq (r : PixelRanges) (step : Nat) :
    sampledRow r step = fun y => decide (r.ya ≤ y ∧ y < r.ye ∧ (y - r.ya) % step = 0) := by
  funext y
  simp [sampledRow, Bool.and_assoc]

/-! ## The verdict (R96) -/

theorem rowsErrored_iff {r : PixelRanges} {map : List Bool} :
    rowsErrored r map = true ↔ ∃ k, r.ya / 16 ≤ k ∧ k ≤ (r.ye - 1) / 16 ∧ map[k]? ≠ some true := by
  simp only [rowsErrored, List.any_eq_true, List.mem_range, Bool.and_eq_true, decide_eq_true_iff, Nat.lt_succ_iff]
  exact exists_congr fun k => and_left_comm

section
variable {r : PixelRanges} {acc : Accumulators} {map : List Bool}

theorem verdictOf_small (h : r.nw < 16 ∨ r.nh < 16) : verdictOf r acc map = .small := if_pos h

theorem verdictOf_large (hw : 16 ≤ r.nw) (hh : 16 ≤ r.nh) :
    verdictOf r acc map = if rowsErrored r map then .errored else .valid acc.measures := if_neg (by omega)

end

theorem Accumulators.measures_blocks (acc : Accumulators) (b : Nat) :
    acc.measures.blocks[b]? = match acc.blockSums[b]?, acc.blockCounts[b]? with
      | some total, some count => some (total / count)
      | _, _ => none := by
  unfold Accumulators.measures
  rw [List.getElem?_zipWith]
  cases acc.blockSums[b]? with
  | none => rfl
  | some total => cases acc.blockCounts[b]? <;> rfl

/-! ## The tone mean (R102) -/

/-- What window `w` gives to the tone mean of camera `c`. -/
def toneMeasures? (ws : Vector Window 16) (c : Cam) (w : WindowId) : Option Measures :=
  if (look ws w).active.any (fun d => d.role = .tone ∧ d.camera = c) then (look ws w).valid? else none

theorem toneMean?_eq (ws : Vector Window 16) (c : Cam) : toneMean? ws c =
    if (allWindows.filterMap (toneMeasures? ws c)).isEmpty then none
    else some (((allWindows.filterMap (toneMeasures? ws c)).map (·.sum)).sum
      / ((allWindows.filterMap (toneMeasures? ws c)).map (·.count)).sum) := rfl

theorem sum_map_filterMap {α β : Type} (g : α → Option β) (f : β → Nat) (l : List α) :
    ((l.filterMap g).map f).sum = (l.map fun a => ((g a).map f).getD 0).sum := by
  induction l with
  | nil => rfl
  | cons a l ih => cases h : g a <;> simp [h, ih]

theorem toneMean?_none {ws : Vector Window 16} {c : Cam} (h : ∀ w, toneMeasures? ws c w = none) : toneMean? ws c = none := by
  have hempty : allWindows.filterMap (toneMeasures? ws c) = [] := List.filterMap_eq_nil_iff.mpr fun w _ => h w
  rw [toneMean?_eq, hempty]
  rfl

theorem toneMean?_some {ws : Vector Window 16} {c : Cam} (h : ∃ w, toneMeasures? ws c w ≠ none) : toneMean? ws c
    = some ((allWindows.map fun w => ((toneMeasures? ws c w).map (·.sum)).getD 0).sum
      / (allWindows.map fun w => ((toneMeasures? ws c w).map (·.count)).getD 0).sum) := by
  obtain ⟨w, hw⟩ := h
  have hsome : (allWindows.filterMap (toneMeasures? ws c)).isEmpty = false := by
    rw [List.isEmpty_eq_false_iff, ne_eq, List.filterMap_eq_nil_iff]
    exact fun hall => hw (hall w (mem_allWindows w))
  rw [toneMean?_eq, hsome, if_neg (by decide), sum_map_filterMap, sum_map_filterMap]

/-- Settles O35: the row by `addRow_eq`, the frame open and close by the window's branches, the mean by `toneMean?_eq`. -/
theorem rowsAreMeasured : Obligations.RowsAreMeasured := by
  refine ⟨fun acc r step y lum hstep => ?_, fun w c i lum d r hd hr => ?_, fun w c m d hd => ?_,
    fun w c frame exposure map d r hd hr => ?_, fun ws c => ?_⟩
  · refine ⟨?_, ?_, ?_, ?_, fun v => acc.addRow_flat r y, acc.addRow_le r y hstep,
      fun hy b hb => acc.addRow_block r y hy hb, acc.addRow_blocks_sum r y, fun x => mem_sampledColumns hstep⟩
    · rw [Accumulators.addRow_eq, ← sampledColumns_length]
    · rw [Accumulators.addRow_eq, ← sampledColumns_inner_length hstep]
    · rw [Accumulators.addRow_eq]
    · rw [Accumulators.addRow_eq]
  · rw [Window.sample_eq hd hr, sampledRow_eq]
    exact ⟨fun h => if_pos h, fun h => if_neg (Window.not_measures h)⟩
  · rw [Window.openFrame_eq hd]
    cases m <;> rfl
  · rw [Window.closeFrame_eq hd hr]
    refine ⟨fun h => if_neg (Window.not_measures h),
      fun hm hc => ⟨verdictOf r w.acc map, if_pos ⟨hm, hc⟩, verdictOf_small, fun hw hh herr => ?_, fun hw hh herr => ?_⟩⟩
    · rw [verdictOf_large hw hh, if_pos (rowsErrored_iff.mpr herr)]
    · rw [verdictOf_large hw hh, if_neg (mt rowsErrored_iff.mp herr)]
      exact ⟨_, rfl, rfl, rfl, rfl, rfl, rfl, rfl, w.acc.measures_blocks⟩
  · intro part total
    have hpart : ∀ w, part w = (toneMeasures? ws c w).map fun m => (m.sum, m.count) := fun w => by
      dsimp only [part]
      unfold toneMeasures? Window.valid?
      split
      · next hactive hresult =>
        rw [hactive, hresult]
        simp only [Option.any_some, decide_eq_true_iff, true_and]
        split <;> rfl
      · next hno =>
        split
        · next htone =>
          obtain ⟨⟨camera, left, top, right, bottom, step, role⟩, hactive, hrole⟩ := (Option.any_eq_true ..).mp htone
          obtain ⟨rfl, -⟩ : role = .tone ∧ camera = c := by simpa using hrole
          split
          · next hresult => exact (hno _ _ _ _ _ _ _ _ _ _ _ hactive hresult).elim
          · rfl
        · rfl
    have hnone : ∀ w, part w = none ↔ toneMeasures? ws c w = none := fun w => by rw [hpart, Option.map_eq_none_iff]
    have htotal : ∀ f, total f =
        (allWindows.map fun w => ((toneMeasures? ws c w).map fun m => f (m.sum, m.count)).getD 0).sum := fun f => by
      simp only [total, hpart, Option.map_map]
      rfl
    refine ⟨fun h => toneMean?_none fun w => (hnone w).mp (h w), fun ⟨w, hw⟩ => ?_⟩
    rw [toneMean?_some ⟨w, mt (hnone w).mpr hw⟩, htotal, htotal]

end Sys2Proof.Machine
end

section
/-! PROOF. Which events move a gain, and how far (R104): a frame close moves the gain of its camera by one bounded step; no other
event of a camera link moves any gain. -/

namespace Sys2Proof.Machine

/-! ## Gains kept and gains moved -/

/-- The gains of `t` are those of `s`. -/
structure GainsKept (s t : State) : Prop where
  gain : ∀ c, (t.tone c).gain = (s.tone c).gain

namespace GainsKept

theorem refl (s : State) : GainsKept s s := ⟨fun _ => rfl⟩

theorem trans {s t u : State} (a : GainsKept s t) (b : GainsKept t u) : GainsKept s u :=
  ⟨fun c => (b.gain c).trans (a.gain c)⟩

theorem foldl {α : Type} {f : State → α → State} (h : ∀ t a, GainsKept t (f t a)) (l : List α) (s : State) :
    GainsKept s (l.foldl f s) := by
  induction l generalizing s with
  | nil => exact .refl s
  | cons a l ih => exact (h s a).trans (ih (f s a))

theorem of_tones {s t : State} (h : t.tones = s.tones) : GainsKept s t :=
  ⟨fun c => congrArg (fun ts => (look ts c).gain) h⟩

/-- A change that is undone by putting back blocks other than the tone controller. -/
theorem of_rest {s t u : State} (h : u = s) (hu : u.tones = t.tones := by dsimp only) : GainsKept s t :=
  .of_tones (hu.symm.trans (congrArg State.tones h))

end GainsKept

/-- `h` is a gain in its bounds, at most one step of the loop away from the gain `g` (R104). -/
structure GainStep (g h : Nat) : Prop where
  lower : 128 ≤ h
  upper : h ≤ 1023
  rise : h ≤ g + 16
  fall : g ≤ h + 16

theorem GainStep.still {g : Nat} (h : 128 ≤ g ∧ g ≤ 1023) : GainStep g g := ⟨h.1, h.2, by omega, by omega⟩

/-- The clamp to the bounds shortens the step of a gain within them. -/
theorem gainStep_stepGain {g : Nat} (h : 128 ≤ g ∧ g ≤ 1023) (desired : Nat) : GainStep g (stepGain g desired) := by
  have hstep := stepGain_eq g desired
  constructor <;> omega

/-- From gains within their bounds each gain makes at most one step. -/
structure GainsMoved (s t : State) : Prop where
  step : s.GainLaw → ∀ c, GainStep (s.tone c).gain (t.tone c).gain

theorem GainsMoved.gainLaw {s t : State} (h : GainsMoved s t) (hs : s.GainLaw) : t.GainLaw := fun c =>
  ⟨(h.step hs c).lower, (h.step hs c).upper⟩

theorem GainsKept.gainLaw {s t : State} (h : GainsKept s t) (hs : s.GainLaw) : t.GainLaw := fun c => by
  rw [h.gain c]
  exact hs c

theorem GainsKept.moved {s t : State} (h : GainsKept s t) : GainsMoved s t :=
  ⟨fun hs c => by
    rw [h.gain c]
    exact .still (hs c)⟩

/-- What keeps the gains may stand before and behind what moves them. -/
theorem GainsMoved.trans_kept {s t u : State} (a : GainsMoved s t) (b : GainsKept t u) : GainsMoved s u :=
  ⟨fun hs c => by
    rw [b.gain c]
    exact a.step hs c⟩

theorem GainsKept.trans_moved {s t u : State} (a : GainsKept s t) (b : GainsMoved t u) : GainsMoved s u :=
  ⟨fun hs c => by
    rw [← a.gain c]
    exact b.step (a.gainLaw hs) c⟩

/-! ## Link state changes (R8, R12, R17, R107)

Leaving STREAMING writes the tone state, and leaves the gain. -/

section
variable (s : State) (c d : Cam)

@[simp] theorem State.leaveStreaming_gain : ((s.leaveStreaming c).tone d).gain = (s.tone d).gain := by
  by_cases hd : d = c
  · rw [hd, State.leaveStreaming_tone]
    rfl
  · rw [(othersKept_leaveStreaming s c).tones d hd]

@[simp] theorem State.setLink_gain (new : LinkState) (cause : LinkCause) :
    ((s.setLink c new cause).tone d).gain = (s.tone d).gain := by
  rw [State.setLink_eq, State.rederive_tone, State.queueReport_tone, State.setPort_tone, State.departed]
  split <;> simp

@[simp] theorem State.goOffUnlessOff_gain (cause : LinkCause) :
    ((s.goOffUnlessOff c cause).tone d).gain = (s.tone d).gain := by
  unfold State.goOffUnlessOff
  split <;> simp [State.goOff]

@[simp] theorem State.leaveOff_gain : ((s.leaveOff c).tone d).gain = (s.tone d).gain := by
  unfold State.leaveOff
  dsimp only
  split
  · split <;> simp
  · rfl

@[simp] theorem State.offer_tone (m : CamMode) : (s.offer c m).tone d = s.tone d := by simp [State.offer_eq]

@[simp] theorem State.beginSequence_tone (m : CamMode) : (s.beginSequence c m).tone d = s.tone d := by
  simp [State.beginSequence_eq]

@[simp] theorem State.enterRefused_gain (cause : LinkCause) : ((s.enterRefused c cause).tone d).gain = (s.tone d).gain := by
  simp [State.enterRefused]

@[simp] theorem State.judgeAttempt_gain : ((s.judgeAttempt c).tone d).gain = (s.tone d).gain := by
  unfold State.judgeAttempt
  dsimp only
  split
  · simp
  · split
    · split <;> simp
    · simp

end

/-! ## Carrier, ANNOUNCE, training, back channel, segments (R6, R9 to R16, R19) -/

namespace GainsKept
variable (s : State) (c : Cam)

theorem gainCarrier : GainsKept s (s.gainCarrier c) := by
  refine ⟨fun d => ?_⟩
  unfold State.gainCarrier
  dsimp only
  split <;> simp

theorem loseCarrier : GainsKept s (s.loseCarrier c) := by
  refine ⟨fun d => ?_⟩
  unfold State.loseCarrier
  dsimp only
  split <;> simp

theorem announceArrives (r : AnnounceRecord) (good : Bool) : GainsKept s (s.announceArrives c r good) := by
  refine ⟨fun d => ?_⟩
  unfold State.announceArrives State.takeAnnounce
  dsimp only
  split
  · split
    · simp
    · split <;> simp
  · rfl

theorem announceExpires : GainsKept s (s.announceExpires c) := by
  refine ⟨fun d => ?_⟩
  unfold State.announceExpires
  dsimp only
  split
  · split <;> simp
  · rfl

theorem trainSegment (i : Nat) (good : Bool) : GainsKept s (s.trainSegment c i good) := by
  refine ⟨fun d => ?_⟩
  unfold State.trainSegment
  dsimp only
  split
  · rfl
  · split
    · rfl
    · split <;> simp

theorem trainExpires : GainsKept s (s.trainExpires c) := by
  refine ⟨fun d => ?_⟩
  unfold State.trainExpires
  dsimp only
  split <;> simp

theorem backRecordSent : GainsKept s (s.backRecordSent c) := by
  unfold State.backRecordSent
  dsimp only
  split <;> exact .of_tones rfl

theorem takePreference (ms : List CamMode) : GainsKept s (s.takePreference c ms) := by
  refine ⟨fun d => ?_⟩
  unfold State.takePreference
  dsimp only
  split
  · split
    · simp
    · split <;> simp
  · rfl

theorem count (e : StatEvent) : GainsKept s (s.count e c) := .of_tones (s.count_tones e c)

theorem segmentArrives (i : Nat) (body : SegmentBody) (good : Bool) : GainsKept s (s.segmentArrives c i body good) := by
  unfold State.segmentArrives
  dsimp only
  split
  · exact .refl s
  · split
    · exact .count ..
    · exact .refl s
    · split
      · exact .count ..
      · exact .of_tones rfl

/-! ## Headers (R18, R89) -/

theorem applyChanges : GainsKept s (s.applyChanges c) := by
  rw [State.applyChanges_eq]
  have hchanged : GainsKept s (s.changed c) := .of_rest (s.changed_rest c)
  refine (hchanged.trans (.foldl (fun t k => ?_) allCams _)).trans (.of_tones (State.refreshHazard_tones _))
  split
  · exact .of_rest (t.judgeClarity_rest k _)
  · exact .refl t

theorem openFrame (h : HeaderRecord) (m : CamMode) : GainsKept s (s.openFrame c h m) := by
  unfold State.openFrame
  dsimp only
  split <;> exact .of_tones rfl

/-! ## The downgrade judgement (R23) -/

theorem judgeFrame : GainsKept s (s.judgeFrame c) := by
  refine ⟨fun d => ?_⟩
  unfold State.judgeFrame
  dsimp only
  split
  · rfl
  · split
    · rfl
    · split <;> simp

end GainsKept

/-! ## Frame close (R21, R102 to R105) -/

namespace GainsMoved
variable (s : State) (c : Cam)

/-- The loop holds without a tone mean and steps with one; the other cameras' gains stay. -/
theorem closed : GainsMoved s (s.closed c) := by
  refine ⟨fun hs d => ?_⟩
  by_cases hd : d = c
  · rw [hd, (s.closed_frameClosed c).gain]
    split
    · exact .still (hs c)
    · exact gainStep_stepGain (hs c) _
  · rw [(cameraFrame_closed s c).tones d hd]
    exact .still (hs d)

theorem frameClose : GainsMoved s (s.frameClose c) := by
  rw [State.frameClose_eq]
  exact (closed s c).trans_kept (.judgeFrame ..)

/-- A frame that closes as truncated. -/
theorem truncated : GainsMoved s ((s.count .frameTruncated c).frameClose c) :=
  GainsKept.trans_moved (.count ..) (frameClose _ c)

theorem trailerArrives (n : Byte) (good : Bool) : GainsMoved s (s.trailerArrives c n good) := by
  unfold State.trailerArrives
  dsimp only
  split
  · exact (GainsKept.refl s).moved
  · split
    · exact (GainsKept.count ..).moved
    · split
      · exact (GainsKept.refl s).moved
      · split
        · exact frameClose s c
        · exact truncated s c

theorem takeHeader (h : HeaderRecord) : GainsMoved s (s.takeHeader c h) := by
  unfold State.takeHeader
  dsimp only
  have hclose : GainsMoved s (if (s.port c).phase = .opened then (s.count .frameTruncated c).frameClose c else s) := by
    split
    · exact truncated s c
    · exact (GainsKept.refl s).moved
  generalize (if (s.port c).phase = .opened then (s.count .frameTruncated c).frameClose c else s) = t at hclose ⊢
  have hignore : ∀ u : State, GainsKept u (u.ignoreFrame c) := fun _ => .of_tones rfl
  split
  · exact hclose
  · refine (hclose.trans_kept (.applyChanges t c)).trans_kept ?_
    split
    · split
      · exact .openFrame ..
      · exact hignore _
    · exact hignore _

theorem headerArrives (h : HeaderRecord) (good : Bool) : GainsMoved s (s.headerArrives c h good) := by
  unfold State.headerArrives
  split
  · exact (GainsKept.refl s).moved
  · split
    · exact takeHeader s c h
    · exact (GainsKept.count ..).moved

end GainsMoved

end Sys2Proof.Machine
end

section
/-! PROOF. Every command but POWER ON and RESTART moves a gain by at most one step, and every step keeps the gains in their
bounds (R104): the requests and the output frame start, then the step put together. -/

namespace Sys2Proof.Machine

/-! ## Blocks beside the tone controller -/

theorem SelectorOnly.gainsKept {s t : State} (h : SelectorOnly s t) : GainsKept s t := .of_tones h.tones

theorem GainsKept.refreshHazard (s : State) : GainsKept s s.refreshHazard := .of_tones s.refreshHazard_tones

theorem GainsKept.setChannel (s : State) (id : ChannelId) (ch : Channel) : GainsKept s (s.setChannel id ch) :=
  .of_rest (setChannel_rest s id ch)

/-- The output frame start latches the gains and leaves them (R112). -/
theorem GainsKept.frameStart (s : State) : GainsKept s s.frameStart := by
  have hstore : GainsKept s s.storeFrameStart := .of_rest s.storeFrameStart_rest
  rw [s.frameStart_eq]
  generalize s.storeFrameStart = r at hstore ⊢
  obtain ⟨choice, hdrawn⟩ := r.drawn_eq
  refine hstore.trans ⟨fun c => ?_⟩
  rw [hdrawn, State.tone, look_mapTable]
  rfl

/-! ## Requests -/

/-- A request's effect leaves the gains. -/
def KeepsGains (f : State → Answer) : Prop := ∀ s, GainsKept s (f s).state

/-- A new target and a new black offset act on the gain from the next frame close on (R101). -/
theorem keepsGains_tone (f : ToneFields) : KeepsGains (setParametersTone f) := by
  intro s
  unfold setParametersTone
  split
  · exact .refl s
  · next c _ =>
    refine ⟨fun d => ?_⟩
    by_cases hd : d = c
    · rw [hd, State.tone_setTone]
    · rw [s.tone_setTone_ne _ (Ne.symm hd)]

theorem keepsGains_store (p : StoreParams) : KeepsGains (setParametersStore p) := by
  intro s
  rw [setParametersStore_eq]
  have hlimited : GainsKept s (s.limited (clampStore p)) := .of_tones rfl
  exact hlimited.trans (.of_rest (limited_settled s (clampStore p)).rest)

theorem keepsGains_clarity (f : ClarityFields) : KeepsGains (setParametersClarity f) := by
  intro s
  obtain h | ⟨c, cl, -, h⟩ := setParametersClarity_eq s f
  · exact .of_rest h
  · rw [h]
    exact .of_tones (s.setClarity_tones c cl)

theorem keepsGains_situation (p : SituationParams) : KeepsGains (setParametersSituation p) := fun _ =>
  .of_tones (selectorOnly_rerank _).tones

theorem keepsGains_portEnable (port : Nat) : KeepsGains (portEnable port) := by
  intro s
  unfold portEnable
  split
  · exact .refl s
  · exact ⟨fun d => by simp⟩

theorem keepsGains_portDisable (port : Nat) : KeepsGains (portDisable port) := by
  intro s
  unfold portDisable
  split
  · exact .refl s
  · exact ⟨fun d => by simp⟩

theorem keepsGains_linkRestart (port : Nat) : KeepsGains (linkRestart port) := by
  intro s
  unfold linkRestart
  split
  · exact .refl s
  · split
    · exact ⟨fun d => by simp⟩
    · exact .refl s

theorem keepsGains_portPreference (f : PreferenceFields) : KeepsGains (portPreference f) := by
  intro s
  unfold portPreference
  split
  · exact .takePreference ..
  · exact .refl s

/-! ## MODE (R176 to R178) -/

theorem GainsKept.leaveRun (s : State) (m : OpMode) (cause : LinkCause) : GainsKept s (s.leaveRun m cause) := by
  have hmode : GainsKept s { s with mode := m, cadence := s.cadence.leaveRun } := .of_tones rfl
  unfold State.leaveRun
  exact (hmode.trans (.foldl (fun t c => ⟨fun d => t.goOffUnlessOff_gain c d cause⟩) allCams _)).trans (.refreshHazard _)

theorem GainsKept.enterRun (s : State) : GainsKept s s.enterRun := by
  have hmode : GainsKept s { s with mode := .run } := .of_tones rfl
  unfold State.enterRun
  exact (hmode.trans (.foldl (fun t c => ⟨t.leaveOff_gain c⟩) allCams _)).trans (.of_tones (State.reform_tones _))

theorem keepsGains_modeConfig (x : Unit) : KeepsGains (modeConfig x) := by
  intro s
  unfold modeConfig
  split <;> rw [modeAnswer_state]
  · exact .refl s
  · exact .leaveRun ..
  · exact .of_tones rfl

theorem keepsGains_modeRun (x : Unit) : KeepsGains (modeRun x) := by
  intro s
  unfold modeRun
  split
  · exact .refl s
  all_goals
    split <;> rw [modeAnswer_state]
    · exact .refl s
    · exact .enterRun s

theorem keepsGains_modeStandby (x : Unit) : KeepsGains (modeStandby x) := by
  intro s
  unfold modeStandby
  split <;> rw [modeAnswer_state]
  · exact .refl s
  · exact .leaveRun ..
  · exact .refl s

/-! ## Every command -/

theorem unlessHeld_keepsGains {f : State → State} (hf : ∀ s, GainsKept s (f s)) {s t : State}
    (h : unlessHeld s f = .next t) : GainsKept s t :=
  unlessHeld_keeps (P := GainsKept s) (fun _ hu => hu.trans (.of_tones rfl)) (fun _ => hf s) h (.refl s)

theorem unlessHeld_movesGains {f : State → State} (hf : ∀ s, GainsMoved s (f s)) {s t : State}
    (h : unlessHeld s f = .next t) : GainsMoved s t :=
  unlessHeld_keeps (P := GainsMoved s) (fun u hu => hu.trans_kept (.of_tones u.drivePins_tones)) (fun _ => hf s) h
    (GainsKept.refl s).moved

theorem request_keepsGains {f : State → Answer} (hf : KeepsGains f) {r : Instr} {kind tag : Byte} {s t : State}
    (h : request r kind tag f s = .next t) : GainsKept s t :=
  request_keeps (P := GainsKept s) (fun _ _ hu => hu.trans (.of_tones rfl)) (fun _ _ hu => hu.trans (.of_tones rfl))
    (fun u hu => hu.trans (hf u)) h (.refl s)

/-- A command with a body, taken as a request. -/
theorem requestBody_keepsGains {α : Type} {f : α → State → Answer} {b : Body α} {r : Instr} {kind tag : Byte} {s t : State}
    (h : request r kind tag (Body.run b f) s = .next t) (hf : ∀ x, KeepsGains (f x)) : GainsKept s t := by
  cases b with
  | badLength => exact request_keepsGains (fun s => .refl s) h
  | fields x => exact request_keepsGains (hf x) h

/-- Every command but POWER ON, RESTART and the two arrivals that can close a frame keeps the gains. -/
theorem exec_keepsGains {i : Instr} {s t : State} (h : exec i s = .next t) (hpower : ∀ levels, i ≠ .powerOn levels)
    (hrestart : ∀ tag b, i ≠ .restart tag b) (hheader : ∀ c r k, i ≠ .frameHeaderArrival c r k)
    (htrailer : ∀ c n k, i ≠ .frameTrailerArrival c n k) : GainsKept s t := by
  cases i with
  | powerOn levels => exact absurd rfl (hpower levels)
  | restart tag b => exact absurd rfl (hrestart tag b)
  | frameHeaderArrival c r k => exact absurd rfl (hheader c r k)
  | frameTrailerArrival c n k => exact absurd rfl (htrailer c n k)
  | resetAssert => cases h; exact .of_tones rfl
  | unknownRecordArrival c => cases h; exact .of_tones rfl
  | carrierGain c => exact unlessHeld_keepsGains (fun s => .gainCarrier s c) h
  | carrierLoss c => exact unlessHeld_keepsGains (fun s => .loseCarrier s c) h
  | announceArrival c r k => exact unlessHeld_keepsGains (fun s => .announceArrives s c r _) h
  | trainingSegmentArrival c r k => exact unlessHeld_keepsGains (fun s => .trainSegment s c r.index _) h
  | segmentArrival c i body k => exact unlessHeld_keepsGains (fun s => .segmentArrives s c i body _) h
  | announceTimerExpiry c => exact unlessHeld_keepsGains (fun s => .announceExpires s c) h
  | trainTimerExpiry c => exact unlessHeld_keepsGains (fun s => .trainExpires s c) h
  | backChannelRecordSent c => exact unlessHeld_keepsGains (fun s => .backRecordSent s c) h
  | outputFrameStart => exact unlessHeld_keepsGains .frameStart h
  | displaySenseChange level =>
    exact unlessHeld_keepsGains (f := fun t => { t with display := t.display.sense level }) (fun _ => .of_tones rfl) h
  | displaySenseTimerExpiry => exact unlessHeld_keepsGains (fun s => .of_rest (senseExpires_rest s)) h
  | holdTimerExpiry w =>
    exact unlessHeld_keepsGains (f := fun t => t.holdExpires w) (fun s => .of_rest (holdExpires_rest s w)) h
  | vehicleTimeoutExpiry => exact unlessHeld_keepsGains (fun s => (selectorOnly_vehicleTimeout s).gainsKept) h
  | turnDwellExpiry => exact unlessHeld_keepsGains (fun s => (selectorOnly_turnDwellExpires s).gainsKept) h
  | forceTimerExpiry => exact unlessHeld_keepsGains (fun s => (selectorOnly_forceTimerExpires s).gainsKept) h
  | viewDwellTimerExpiry => exact unlessHeld_keepsGains (fun s => (selectorOnly_viewDwellExpires s).gainsKept) h
  | onTimeExpiry ch =>
    exact unlessHeld_keepsGains (f := fun t => t.setChannel ch (t.channel ch).onExpires) (fun s => .setChannel s ch _) h
  | offTimeExpiry ch =>
    exact unlessHeld_keepsGains (f := fun t => t.setChannel ch (t.channel ch).offExpires) (fun s => .setChannel s ch _) h
  | byteGapTimerExpiry =>
    exact unlessHeld_keepsGains (f := fun t => { t with control := t.control.gapExpires }) (fun _ => .of_tones rfl) h
  | controlFrameComplete b =>
    exact unlessHeld_keepsGains (f := fun t => { t with control := t.control.completeWith b }) (fun _ => .of_tones rfl) h
  | frameSendEnd =>
    exact unlessHeld_keepsGains (f := fun t => { t with control := t.control.sendEnd }) (fun _ => .of_tones rfl) h
  | byteReceived b =>
    exact unlessHeld_keepsGains (f := fun t => { t with control := t.control.receive b }) (fun _ => .of_tones rfl) h
  | unknownRequest kind tag => exact request_keepsGains (fun s => .of_rest (unknownRequest_state s kind)) h
  | identify tag b => exact requestBody_keepsGains h fun _ s => .refl s
  | status tag b => exact requestBody_keepsGains h fun _ _ => .of_tones rfl
  | setParametersLink tag b => exact requestBody_keepsGains h fun _ _ => .of_tones rfl
  | setParametersStore tag b => exact requestBody_keepsGains h keepsGains_store
  | setParametersTone tag b => exact requestBody_keepsGains h keepsGains_tone
  | setParametersToneLimits tag b => exact requestBody_keepsGains h fun _ _ => .of_tones rfl
  | setParametersClarity tag b => exact requestBody_keepsGains h keepsGains_clarity
  | setParametersClarityLimits tag b => exact requestBody_keepsGains h fun _ _ => .of_tones rfl
  | setParametersZone tag b => exact requestBody_keepsGains h fun _ _ => .of_tones rfl
  | setParametersSituation tag b => exact requestBody_keepsGains h keepsGains_situation
  | setParametersCadence tag b => exact requestBody_keepsGains h fun f s => .of_rest (setParametersCadence_rest s f)
  | portEnable tag b => exact requestBody_keepsGains h keepsGains_portEnable
  | portDisable tag b => exact requestBody_keepsGains h keepsGains_portDisable
  | linkRestart tag b => exact requestBody_keepsGains h keepsGains_linkRestart
  | portPreferenceList tag b => exact requestBody_keepsGains h keepsGains_portPreference
  | windowSet tag b => exact requestBody_keepsGains h fun f s => .of_rest (windowSet_rest s f)
  | windowDrop tag b => exact requestBody_keepsGains h fun id s => .of_rest (windowDrop_rest s id)
  | seamSet tag b => exact requestBody_keepsGains h fun f s => .of_rest (seamSet_rest s f)
  | gridBegin tag b => exact requestBody_keepsGains h fun f s => .of_rest (gridBegin_rest s f)
  | gridNodes tag b => exact requestBody_keepsGains h fun f s => .of_rest (gridNodes_rest s f)
  | gridEnd tag b => exact requestBody_keepsGains h fun id s => .of_rest (gridEnd_rest s id)
  | gridDrop tag b => exact requestBody_keepsGains h fun id s => .of_rest (gridDrop_rest s id)
  | shapeSet tag b => exact requestBody_keepsGains h fun f s => .of_rest (shapeSet_rest s f)
  | shapeDrop tag b => exact requestBody_keepsGains h fun id s => .of_rest (shapeDrop_rest s id)
  | setOverlayList tag b => exact requestBody_keepsGains h fun f s => .of_rest (setOverlayList_rest s f)
  | viewSet tag b => exact requestBody_keepsGains h fun f s => .of_rest (viewSet_rest s f)
  | paneSet tag b => exact requestBody_keepsGains h fun f s => .of_rest (paneSet_rest s f)
  | paneDrop tag b => exact requestBody_keepsGains h fun f s => .of_rest (paneDrop_rest s f)
  | viewMapSet tag b => exact requestBody_keepsGains h fun f s => .of_rest (viewMapSet_rest s f)
  | applyTables tag b => exact requestBody_keepsGains h fun x s => .of_rest (applyTables_rest s x)
  | vehicleState tag record => exact request_keepsGains (fun s => (selectorOnly_vehicleState s record).gainsKept) h
  | forceView tag b => exact requestBody_keepsGains h fun f s => (selectorOnly_forceView s f).gainsKept
  | releaseView tag b => exact requestBody_keepsGains h fun x s => (selectorOnly_releaseView s x).gainsKept
  | silence tag b => exact requestBody_keepsGains h fun _ _ => .of_tones rfl
  | readCamera tag b => exact requestBody_keepsGains h fun camera s => .of_rest (readCamera_state s camera)
  | readMeter tag b => exact requestBody_keepsGains h fun id s => .of_rest (readMeter_state s id)
  | readTable tag b => exact requestBody_keepsGains h fun f s => .of_rest (readTable_state s f)
  | counterSelect tag b => exact requestBody_keepsGains h fun f s => .of_rest (counterSelect_rest s f)
  | counterRead tag b => exact requestBody_keepsGains h fun _ s => .refl s
  | modeConfig tag b => exact requestBody_keepsGains h keepsGains_modeConfig
  | modeRun tag b => exact requestBody_keepsGains h keepsGains_modeRun
  | modeStandby tag b => exact requestBody_keepsGains h keepsGains_modeStandby

theorem exec_movesGains {i : Instr} {s t : State} (h : exec i s = .next t) (hpower : ∀ levels, i ≠ .powerOn levels)
    (hrestart : ∀ tag b, i ≠ .restart tag b) : GainsMoved s t := by
  cases i with
  | frameHeaderArrival c r k => exact unlessHeld_movesGains (fun s => .headerArrives s c r _) h
  | frameTrailerArrival c n k => exact unlessHeld_movesGains (fun s => .trailerArrives s c n _) h
  | _ => exact (exec_keepsGains h hpower hrestart nofun nofun).moved

/-! ## POWER ON and RESTART: all gains at 256 (R100, R179) -/

/-- Gains of one in units of 1/256 are within the bounds. -/
theorem State.gainLaw_of_unit {s : State} (h : ∀ c, (s.tone c).gain = 256) : s.GainLaw := fun c => by
  rw [h c]
  decide

theorem State.gainLaw_atPowerOn (levels : PowerInputs) (epoch choices : Nat) (q : List Instr) :
    (State.atPowerOn levels epoch choices q).GainLaw :=
  State.gainLaw_of_unit fun c => congrArg Tone.gain (look_replicate Tone.initial c)

theorem restart_gainLaw (x : Unit) (s : State) : (restart x s).state.GainLaw := by
  unfold restart
  refine State.gainLaw_of_unit fun c => ?_
  rw [State.refreshHazard_tone]
  exact congrArg Tone.gain (look_mapTable Tone.restarted _ c)

/-- RESTART that is not taken at once changes the control link alone. -/
theorem execRestart_keepsGainLaw {tag : Byte} {b : Body Unit} {s t : State} (h : execRestart tag b s = .next t)
    (hs : s.GainLaw) : t.GainLaw := by
  have hf : ∀ u : State, u.GainLaw → (Body.run b restart u).state.GainLaw := fun u hu => by
    cases b with
    | badLength => exact hu
    | fields x => exact restart_gainLaw x u
  exact request_keeps (P := State.GainLaw) (fun _ _ hu => hu) (fun _ _ hu => hu) hf h hs

theorem exec_keepsGainLaw (i : Instr) {s t : State} (hs : s.GainLaw) (h : exec i s = .next t) : t.GainLaw := by
  cases i with
  | powerOn levels => cases h; exact State.gainLaw_atPowerOn levels (s.epoch + 1) s.choices s.pending
  | restart tag b => exact execRestart_keepsGainLaw h hs
  | _ => exact (exec_movesGains h nofun nofun).gainLaw hs

/-- Settles O7, over the commands: the millisecond leaves the gains. -/
theorem gainLawHolds : Obligations.GainLawHolds := by
  refine ⟨fun s t hs h => ?_, fun i s t c hs h hpower hrestart => ?_⟩
  · unfold step at h
    split at h
    · cases h
      exact hs
    · next i rest _ => exact exec_keepsGainLaw i (s := s.withPending rest) hs h
  · obtain ⟨-, -, hrise, hfall⟩ := (exec_movesGains h hpower hrestart).step hs c
    exact ⟨hrise, hfall⟩

end Sys2Proof.Machine
end

section
/-! PROOF. SET PARAMETERS of the tone and the clarity group by their checks (R101, R116). -/

namespace Sys2Proof.Machine

/-! ## The tone group (R101) -/

theorem clampTarget_eq (t : Nat) : clampTarget t = min 224 (max 32 t) := rfl

/-- The even offset at or below the one asked for, or the largest. -/
theorem clampBlack_eq (b : Nat) : clampBlack b = if 14 < b then 14 else b - b % 2 := by
  unfold clampBlack
  split <;> omega

theorem statusOf_changed (p : Prop) [Decidable p] : statusOf (decide ¬p) = if p then .ok else .okClamped := by
  by_cases h : p <;> simp [statusOf, h]

theorem setParametersTone_val {f : ToneFields} {c : Cam} (h : f.camera = c.val) (s : State) : setParametersTone f s =
    ⟨if clampTarget f.target = f.target ∧ clampBlack f.black = f.black then .ok else .okClamped,
      .tone c (clampTarget f.target) (clampBlack f.black),
      s.setTone c { s.tone c with target := clampTarget f.target, black := clampBlack f.black }⟩ := by
  unfold setParametersTone
  rw [h, index?_val, ← statusOf_changed]
  simp only [not_and_or, ne_eq]

theorem setParametersTone_badValue {f : ToneFields} (h : 4 ≤ f.camera) (s : State) :
    setParametersTone f s = refuse .badValue s := by
  unfold setParametersTone
  rw [index?_eq_none.mpr h]

/-! ## The clarity group (R116) -/

theorem clampLevel_eq (l : Nat) : clampLevel l = min 15 (max 1 l) := rfl

theorem clampLevel_eq_self_iff {l : Nat} : clampLevel l = l ↔ 1 ≤ l ∧ l ≤ 15 := by
  rw [clampLevel_eq]
  omega

theorem clarityModeOf?_eq_some {f : ClarityFields} {c : Cam} {mode : ClarityMode} : clarityModeOf? f c = some mode ↔
    f.mode = some .fixed ∧ mode = .fixed
      ∨ f.mode = some .paired ∧ ∃ p : Cam, f.partner = p.val ∧ p ≠ c ∧ mode = .paired p := by
  unfold clarityModeOf?
  split
  · next h => simp [h, eq_comm]
  · next h =>
    split
    · next p hp =>
      rw [index?_eq_some] at hp
      have hpartner : ∀ q : Cam, f.partner = q.val ↔ p = q := fun q => by rw [hp, Fin.val_inj]
      by_cases hc : p = c
      · simp [h, hc, hpartner]
      · simp [h, hc, hpartner, eq_comm (a := mode)]
    · next hp =>
      have hpartner : ∀ q : Cam, f.partner ≠ q.val := fun q hq => by
        rw [hq, index?_val] at hp
        exact nomatch hp
      simp [h, hpartner]
  · next h => simp [h]

/-- A change of mode or partner sets both counts to 0. -/
theorem setParametersClarity_val {f : ClarityFields} {c : Cam} {mode : ClarityMode} (h : f.camera = c.val)
    (hmode : clarityModeOf? f c = some mode) (s : State) : setParametersClarity f s =
      ⟨if 1 ≤ f.level ∧ f.level ≤ 15 then .ok else .okClamped, .clarity c mode (clampLevel f.level),
        s.setClarity c { s.clarity c with
          mode := mode, level := clampLevel f.level
          low := if (s.clarity c).mode = mode then (s.clarity c).low else 0
          clear := if (s.clarity c).mode = mode then (s.clarity c).clear else 0 }⟩ := by
  have hstatus : statusOf (decide (clampLevel f.level ≠ f.level)) = if 1 ≤ f.level ∧ f.level ≤ 15 then .ok else .okClamped :=
    (statusOf_ne ..).trans (if_congr clampLevel_eq_self_iff rfl rfl)
  unfold setParametersClarity
  rw [h, index?_val]
  dsimp only
  rw [hmode, ← hstatus]
  by_cases hsame : (s.clarity c).mode = mode
  · simp only [if_pos hsame]
  · simp only [if_neg hsame]

theorem setParametersClarity_badValue {f : ClarityFields} (h : 4 ≤ f.camera ∨ f.mode = none
    ∨ f.mode = some .paired ∧ (4 ≤ f.partner ∨ f.partner = f.camera)) (s : State) :
    setParametersClarity f s = refuse .badValue s := by
  unfold setParametersClarity
  split
  · rfl
  · next c hc =>
    rw [index?_eq_some] at hc
    split
    · rfl
    · next mode hmode =>
      obtain ⟨hfixed, -⟩ | ⟨hpaired, p, hp, hne, -⟩ := clarityModeOf?_eq_some.mp hmode
      · obtain hcamera | hnone | ⟨hpaired, -⟩ := h
        · omega
        · exact nomatch hfixed.symm.trans hnone
        · exact nomatch hfixed.symm.trans hpaired
      · have hvals : p.val ≠ c.val := fun he => hne (Fin.ext he)
        obtain hcamera | hnone | ⟨-, hpartner⟩ := h
        · omega
        · exact nomatch hpaired.symm.trans hnone
        · omega

/-- Settles O30: each group's effect by its values, or the refusal of the check that fails. -/
theorem toneAndClarityParameters : Obligations.ToneAndClarityParameters := by
  refine ⟨fun s tag f ht => ⟨?_, fun hcamera => request_refused ht fun k => setParametersTone_badValue hcamera _⟩,
    fun s tag f ht => ⟨?_, fun hbad => request_refused ht fun k => setParametersClarity_badValue hbad _⟩⟩
  · rintro c target black hcamera htarget hblack
    rw [← clampTarget_eq] at htarget
    rw [← clampBlack_eq] at hblack
    subst htarget hblack
    exact request_taken ht (g := fun t => t.setTone c { s.tone c with
      target := clampTarget f.target, black := clampBlack f.black }) (fun k => setParametersTone_val hcamera _)
      (fun _ => rfl) fun _ _ => rfl
  · rintro c mode hcamera hmode
    rw [← clampLevel_eq]
    exact request_taken ht (g := fun t => t.setClarity c { s.clarity c with
      mode := mode, level := clampLevel f.level
      low := if (s.clarity c).mode = mode then (s.clarity c).low else 0
      clear := if (s.clarity c).mode = mode then (s.clarity c).clear else 0 })
      (fun k => setParametersClarity_val hcamera (clarityModeOf?_eq_some.mpr hmode) _) (fun _ => rfl) fun _ _ => rfl

end Sys2Proof.Machine
end

section
/-! PROOF. What the law of the hazard zone list reads (R122, R123, R128), as one value, and the two halves of the law: where the
zones stand, which an event may settle first, and the list, which the event then brings up to date. -/

namespace Sys2Proof.Machine

/-! ## What the law reads -/

/-- The zone is in alarm: it is ACTIVE (R122). -/
def Zone.alarmed (z : Zone) : Bool := z.state = .active

/-- What the law reads of a state: every window's active definition, the situation, which zones there are and which of them
are ACTIVE, the hazard zone list and the hazard flag. -/
structure ZoneView where
  active : WindowId → Option WindowDef
  situation : Situation
  alarmed : WindowId → Option Bool
  list : List WindowId
  flag : Bool

def State.zoneView (s : State) : ZoneView where
  active w := (s.window w).active
  situation := s.selector.situation
  alarmed w := (s.zone w).map Zone.alarmed
  list := s.zones.hazardList
  flag := s.zones.hazard

/-- A window has a zone exactly while its active definition is WATCH, an ACTIVE zone is armed, and the flag says whether the
list has an entry: the law but for the agreement of list and zones (R122, R123, R128). -/
structure ZoneView.Placed (v : ZoneView) : Prop where
  zoned : ∀ w, (v.alarmed w).isSome = (v.active w).any (·.isWatch)
  armed : ∀ w, v.alarmed w = some true → (v.active w).any (isArmed · v.situation) = true
  flag : v.flag = !v.list.isEmpty

/-- The windows whose zone is ACTIVE, in ascending order (R128). -/
def ZoneView.inAlarm (v : ZoneView) : List WindowId := allWindows.filter fun w => v.alarmed w = some true

theorem zoneView_alarmed_iff {s : State} {w : WindowId} :
    s.zoneView.alarmed w = some true ↔ ∃ z, s.zone w = some z ∧ z.state = .active := by
  simp [State.zoneView, Zone.alarmed]

theorem activeZones_eq (s : State) : activeZones s.zones.zones = s.zoneView.inAlarm := by
  refine List.filter_congr fun w _ => ?_
  rw [Bool.eq_iff_iff, decide_eq_true_iff, zoneView_alarmed_iff, Option.any_eq_true]
  simp only [decide_eq_true_iff]
  rfl

theorem hazardLaw_iff (s : State) : s.HazardLaw ↔ s.zoneView.Placed ∧ s.zoneView.list = s.zoneView.inAlarm := by
  have hzoned : ∀ w, (s.zoneView.alarmed w).isSome = (s.zone w).isSome := fun w => Option.isSome_map
  have harmed : (∀ w z, s.zone w = some z → z.state = .active → (s.window w).armed s.selector.situation = true) ↔
      ∀ w, s.zoneView.alarmed w = some true → (s.window w).armed s.selector.situation = true :=
    forall_congr' fun w => by
      rw [zoneView_alarmed_iff]
      exact ⟨fun h ⟨z, hz, ha⟩ => h z hz ha, fun h z hz ha => h ⟨z, hz, ha⟩⟩
  unfold State.HazardLaw
  rw [harmed, activeZones_eq]
  constructor
  · rintro ⟨hwatch, harm, hlist, hflag⟩
    exact ⟨⟨fun w => (hzoned w).trans (hwatch w), harm, hflag.trans (hlist ▸ rfl)⟩, hlist⟩
  · rintro ⟨⟨hwatch, harm, hflag⟩, hlist⟩
    exact ⟨fun w => (hzoned w).symm.trans (hwatch w), harm, hlist, hlist ▸ hflag⟩

theorem State.HazardLaw.placed {s : State} (h : s.HazardLaw) : s.zoneView.Placed := ((hazardLaw_iff s).mp h).1

/-- The law goes over to a state of which it reads the same. -/
theorem State.HazardLaw.of_view {s t : State} (h : s.HazardLaw) (e : t.zoneView = s.zoneView) : t.HazardLaw := by
  rw [hazardLaw_iff] at h ⊢
  rw [e]
  exact h

theorem zoneView_congr {s t : State} (hactive : ∀ w, (t.window w).active = (s.window w).active)
    (hsituation : t.selector.situation = s.selector.situation) (hzones : t.zones = s.zones) : t.zoneView = s.zoneView := by
  simp only [State.zoneView, State.zone, hactive, hsituation, hzones]

/-- A change that is undone by putting back blocks of which the law reads nothing. -/
theorem zoneView_of_rest {s t u : State} (h : u = s) (hwindows : u.windows = t.windows := by dsimp only)
    (hselector : u.selector = t.selector := by dsimp only) (hzones : u.zones = t.zones := by dsimp only) :
    t.zoneView = s.zoneView := by
  subst h
  simp only [State.zoneView, State.window, State.zone, hwindows, hselector, hzones]

/-- An operation repeated over a list leaves what the law reads, if each application does. -/
theorem foldl_zoneView {α : Type} {f : State → α → State} (h : ∀ s a, (f s a).zoneView = s.zoneView) (l : List α)
    (s : State) : (l.foldl f s).zoneView = s.zoneView := by
  induction l generalizing s with
  | nil => rfl
  | cons a l ih => exact (ih (f s a)).trans (h s a)

/-! ## The list brought up to date (R128) -/

/-- Zones that stand as they should, and the list formed anew, make the law hold. -/
theorem hazardLaw_refreshHazard {s : State} (h : s.zoneView.Placed) : s.refreshHazard.HazardLaw := by
  by_cases hlist : activeZones s.zones.zones = s.zones.hazardList
  · rw [State.refreshHazard_of_list hlist.symm, hazardLaw_iff]
    exact ⟨h, hlist.symm.trans (activeZones_eq s)⟩
  · have hview : s.refreshHazard.zoneView =
        { s.zoneView with list := s.zoneView.inAlarm, flag := !s.zoneView.inAlarm.isEmpty } := by
      simp only [State.zoneView, State.refreshHazard_window, State.refreshHazard_zone, State.refreshHazard_hazardList,
        State.refreshHazard_hazard hlist, activeZones_eq, (linkOnly_refreshHazard s).selector]
    rw [hazardLaw_iff, hview]
    exact ⟨⟨h.zoned, h.armed, rfl⟩, rfl⟩

end Sys2Proof.Machine
end

section
/-! PROOF. Events of a camera link that leave what the law of the hazard zone list reads: all but the frame close, the header and
the way to OFF (R6, R9 to R27). Leaving STREAMING ends no alarm (R127). -/

namespace Sys2Proof.Machine

section
variable (s : State) (c : Cam)

/-! ## The shared operations -/

@[simp] theorem State.setPort_zoneView (p : Port) : (s.setPort c p).zoneView = s.zoneView := rfl

@[simp] theorem State.setStore_zoneView (x : CamStore) : (s.setStore c x).zoneView = s.zoneView := rfl

@[simp] theorem State.setTone_zoneView (x : Tone) : (s.setTone c x).zoneView = s.zoneView := rfl

@[simp] theorem State.setClarity_zoneView (cl : Clarity) : (s.setClarity c cl).zoneView = s.zoneView := rfl

@[simp] theorem State.countTimes_zoneView (e : StatEvent) (n : Nat) : (s.countTimes e c n).zoneView = s.zoneView := rfl

@[simp] theorem State.count_zoneView (e : StatEvent) : (s.count e c).zoneView = s.zoneView := rfl

@[simp] theorem State.queueReport_zoneView (r : Report) : (s.queueReport r).zoneView = s.zoneView := rfl

@[simp] theorem State.reform_zoneView : s.reform.zoneView = s.zoneView := rfl

@[simp] theorem State.rederive_zoneView : (s.rederive c).zoneView = s.zoneView := zoneView_of_rest (s.rederive_rest c)

@[simp] theorem State.judgeClarity_zoneView (cl : Clarity) : (s.judgeClarity c cl).zoneView = s.zoneView :=
  zoneView_of_rest (s.judgeClarity_rest c cl)

/-- Windows that keep their active definitions. -/
theorem State.windows_zoneView {x : Vector Window 16} (h : ∀ w, (look x w).active = (s.window w).active) :
    ({ s with windows := x } : State).zoneView = s.zoneView :=
  zoneView_congr h rfl rfl

/-- Every window changed by an operation that keeps its active definition. -/
theorem State.mapWindows_zoneView {f : Window → Window} (hf : ∀ w, (f w).active = w.active) :
    ({ s with windows := mapTable f s.windows } : State).zoneView = s.zoneView :=
  s.windows_zoneView fun w => by rw [look_mapTable, hf]; rfl

/-! ## Link state changes (R8, R12, R17, R127) -/

theorem Zone.leaveStreaming_alarmed (z : Zone) : z.leaveStreaming.alarmed = z.alarmed := by
  unfold Zone.leaveStreaming Zone.alarmed
  cases z.state <;> rfl

@[simp] theorem State.leaveStreaming_zoneView : (s.leaveStreaming c).zoneView = s.zoneView := by
  have halarmed : ∀ w, ((s.leaveStreaming c).zone w).map Zone.alarmed = (s.zone w).map Zone.alarmed := fun w => by
    rw [State.leaveStreaming_zone]
    split
    · rw [Option.map_map]
      exact Option.map_congr fun z _ => z.leaveStreaming_alarmed
    · rfl
  simp only [State.zoneView, State.leaveStreaming_window, Window.leaveStreaming_active, halarmed,
    State.leaveStreaming_hazard, State.leaveStreaming_hazardList, (linkOnly_leaveStreaming s c).selector]

@[simp] theorem State.setLink_zoneView (l : LinkState) (cause : LinkCause) : (s.setLink c l cause).zoneView = s.zoneView := by
  unfold State.setLink
  dsimp only
  split <;> simp

@[simp] theorem State.leaveOff_zoneView : (s.leaveOff c).zoneView = s.zoneView := by
  unfold State.leaveOff
  dsimp only
  split
  · split <;> simp
  · rfl

@[simp] theorem State.offer_zoneView (m : CamMode) : (s.offer c m).zoneView = s.zoneView := by simp [State.offer_eq]

@[simp] theorem State.beginSequence_zoneView (m : CamMode) : (s.beginSequence c m).zoneView = s.zoneView := by
  simp [State.beginSequence_eq]

@[simp] theorem State.enterRefused_zoneView (cause : LinkCause) : (s.enterRefused c cause).zoneView = s.zoneView := by
  simp [State.enterRefused]

/-! ## Carrier, ANNOUNCE, training, back channel, preference (R6, R9 to R16) -/

@[simp] theorem State.gainCarrier_zoneView : (s.gainCarrier c).zoneView = s.zoneView := by
  unfold State.gainCarrier
  dsimp only
  split <;> simp

@[simp] theorem State.loseCarrier_zoneView : (s.loseCarrier c).zoneView = s.zoneView := by
  unfold State.loseCarrier
  dsimp only
  split <;> simp

@[simp] theorem State.takeAnnounce_zoneView (r : AnnounceRecord) : (s.takeAnnounce c r).zoneView = s.zoneView := by
  unfold State.takeAnnounce
  dsimp only
  split
  · simp
  · split <;> simp

@[simp] theorem State.announceArrives_zoneView (r : AnnounceRecord) (good : Bool) :
    (s.announceArrives c r good).zoneView = s.zoneView := by
  unfold State.announceArrives
  dsimp only
  split <;> simp

@[simp] theorem State.announceExpires_zoneView : (s.announceExpires c).zoneView = s.zoneView := by
  unfold State.announceExpires
  dsimp only
  split
  · split <;> simp
  · rfl

@[simp] theorem State.judgeAttempt_zoneView : (s.judgeAttempt c).zoneView = s.zoneView := by
  unfold State.judgeAttempt
  dsimp only
  split
  · simp
  · split
    · split <;> simp
    · simp

@[simp] theorem State.trainSegment_zoneView (i : Nat) (good : Bool) : (s.trainSegment c i good).zoneView = s.zoneView := by
  unfold State.trainSegment
  dsimp only
  split
  · rfl
  · split
    · rfl
    · split <;> simp

@[simp] theorem State.trainExpires_zoneView : (s.trainExpires c).zoneView = s.zoneView := by
  unfold State.trainExpires
  dsimp only
  split <;> simp

@[simp] theorem State.backRecordSent_zoneView : (s.backRecordSent c).zoneView = s.zoneView := by
  unfold State.backRecordSent
  dsimp only
  split <;> rfl

@[simp] theorem State.takePreference_zoneView (ms : List CamMode) : (s.takePreference c ms).zoneView = s.zoneView := by
  unfold State.takePreference
  dsimp only
  split
  · split
    · simp
    · split <;> simp
  · rfl

/-! ## Frames, but for the zone watch's own event (R18 to R27) -/

@[simp] theorem State.openFrame_zoneView (h : HeaderRecord) (m : CamMode) : (s.openFrame c h m).zoneView = s.zoneView := by
  rw [State.openFrame_eq]
  exact s.mapWindows_zoneView fun w => w.openFrame_active c m

@[simp] theorem State.ignoreFrame_zoneView : (s.ignoreFrame c).zoneView = s.zoneView := rfl

@[simp] theorem State.takeSegment_zoneView (i : Nat) (body : SegmentBody) (good : Bool) :
    (s.takeSegment c i body good).zoneView = s.zoneView := by
  unfold State.takeSegment State.writeSegment
  dsimp only
  rw [State.setPort_zoneView, State.countTimes_zoneView, State.mapWindows_zoneView _ fun w => w.sample_active ..,
    State.setStore_zoneView]

@[simp] theorem State.segmentArrives_zoneView (i : Nat) (body : SegmentBody) (good : Bool) :
    (s.segmentArrives c i body good).zoneView = s.zoneView := by
  unfold State.segmentArrives
  dsimp only
  split
  · rfl
  · split
    · rfl
    · rfl
    · split <;> simp

/-- The frame close up to the zone watch's event (R21). -/
theorem State.storeClosed_zoneView : (s.storeClosed c).zoneView = s.zoneView := by
  have h : BesideStoreAndClarity (s.toned c) (s.storeClosed c) := besideStoreAndClarity_close (s.toned c) c
  refine zoneView_congr (fun w => ?_) ?_ (h.zones.trans (s.toned_zones c))
  · rw [State.window, h.windows, State.toned_windows]
    exact s.closedWindows_active c w
  · rw [h.selector, State.toned_selector]

@[simp] theorem State.judgeFrame_zoneView : (s.judgeFrame c).zoneView = s.zoneView := by
  unfold State.judgeFrame
  dsimp only
  split
  · rfl
  · split
    · rfl
    · split <;> simp

end

end Sys2Proof.Machine
end

section
/-! PROOF. Events that move zones keep the law of the hazard zone list: the frame close and the header (R124, R125, R127), the
hold timer (R126), a change of situation (R123), and the way to OFF, where the list follows at the event's end (R127, R178). -/

namespace Sys2Proof.Machine

/-! ## Zones replaced one for one -/

/-- The state with the table of the zones replaced. -/
def State.withZones (s : State) (x : Vector (Option Zone) 16) : State := { s with zones := { s.zones with zones := x } }

/-- An ACTIVE zone is armed (R123). -/
theorem ZoneView.Placed.armed_of_active {s : State} (h : s.zoneView.Placed) {w : WindowId} {z : Zone}
    (hz : s.zone w = some z) (ha : z.state = .active) : (s.window w).armed s.selector.situation = true :=
  h.armed w (zoneView_alarmed_iff.mpr ⟨z, hz, ha⟩)

/-- Other zones at the windows that had one, each ACTIVE one armed. The situation may be another. -/
theorem ZoneView.Placed.withZones {s t : State} (h : s.zoneView.Placed) (hwindows : t.windows = s.windows)
    (hzones : t.zones = s.zones) {x : Vector (Option Zone) 16} (hsome : ∀ w, (look x w).isSome = (s.zone w).isSome)
    (harmed : ∀ w z, look x w = some z → z.state = .active → (t.window w).armed t.selector.situation = true) :
    (t.withZones x).zoneView.Placed where
  zoned w := by
    have hs := h.zoned w
    simp only [State.zoneView, Option.isSome_map] at hs ⊢
    rw [← hsome, State.window, ← hwindows] at hs
    exact hs
  armed w ha := by
    obtain ⟨z, hz, hstate⟩ := zoneView_alarmed_iff.mp ha
    exact harmed w z hz hstate
  flag := by
    have hs := h.flag
    simp only [State.zoneView] at hs ⊢
    rw [← hzones] at hs
    exact hs

/-! ## Frame close (R124, R125) -/

/-- A frame that finds the zone unarmed leaves its state (R124). -/
theorem Zone.close_unarmed (z : Zone) (w : Window) (p : ZoneParams) : (z.close w false p).state = z.state := by
  unfold Zone.close
  split <;> rfl

theorem ZoneView.Placed.zoneClose {s : State} (h : s.zoneView.Placed) (c : Cam) : (s.zoneClose c).HazardLaw := by
  rw [State.zoneClose_eq]
  refine hazardLaw_refreshHazard (h.withZones rfl rfl (fun w => ?_) fun w z hz ha => ?_)
  · rw [look_ofFn]
    split
    · exact Option.isSome_map
    · rfl
  · rw [look_ofFn] at hz
    split at hz
    · obtain ⟨y, hy, rfl⟩ := Option.map_eq_some_iff.mp hz
      cases hw : (s.window w).armed s.selector.situation with
      | true => rfl
      | false =>
        rw [hw, Zone.close_unarmed] at ha
        exact absurd (h.armed_of_active hy ha) (by simp [hw])
    · exact h.armed_of_active hz ha

theorem State.HazardLaw.frameClose {s : State} (h : s.HazardLaw) (c : Cam) : (s.frameClose c).HazardLaw := by
  have hstored : (s.storeClosed c).zoneView.Placed := by
    rw [State.storeClosed_zoneView]
    exact h.placed
  rw [State.frameClose_eq, State.closed_eq]
  exact (hstored.zoneClose c).of_view (State.judgeFrame_zoneView _ c)

/-- A frame that closes as truncated (R20). -/
theorem State.HazardLaw.truncated {s : State} (h : s.HazardLaw) (c : Cam) :
    ((s.count .frameTruncated c).frameClose c).HazardLaw := by
  have hcount : (s.count .frameTruncated c).HazardLaw := h.of_view (s.count_zoneView c .frameTruncated)
  exact hcount.frameClose c

theorem State.HazardLaw.trailerArrives {s : State} (h : s.HazardLaw) (c : Cam) (n : Byte) (good : Bool) :
    (s.trailerArrives c n good).HazardLaw := by
  unfold State.trailerArrives
  dsimp only
  split
  · exact h
  · split
    · exact h
    · split
      · exact h
      · split
        · exact h.frameClose c
        · exact h.truncated c

/-! ## Pending changes at a header (R90, R127) -/

theorem zoneAfterChange_isSome (w : Window) : (zoneAfterChange w).isSome = w.active.any (·.isWatch) := by
  unfold zoneAfterChange
  split
  · next h => exact h.symm
  · next h => exact (Bool.not_eq_true _ ▸ h).symm

/-- A zone that a change makes is IDLE (R122). -/
theorem zoneAfterChange_idle {w : Window} {z : Zone} (h : zoneAfterChange w = some z) : z.state = .idle := by
  unfold zoneAfterChange at h
  split at h
  · cases h; rfl
  · cases h

theorem State.changed_selector (s : State) (c : Cam) : (s.changed c).selector = s.selector := by unfold State.changed; rfl

theorem State.changed_hazard (s : State) (c : Cam) : (s.changed c).zones.hazard = s.zones.hazard := by
  unfold State.changed; rfl

/-- A window with a change due has the zone of its new definition; every other one keeps definition and zone. -/
theorem ZoneView.Placed.changed {s : State} (h : s.zoneView.Placed) (c : Cam) : (s.changed c).zoneView.Placed := by
  have hwindow : ∀ w, (s.changed c).window w =
      if (s.window w).changeDue c then (s.window w).takeChange else s.window w := fun w => by
    rw [State.window, State.changed_windows, State.changedWindows, look_mapTable]
    rfl
  have hkept : ∀ w, (s.window w).changeDue c ≠ true →
      (s.changed c).window w = s.window w ∧ (s.changed c).zone w = s.zone w := fun w hd => by
    rw [hwindow, State.changed_zone, if_neg hd, if_neg hd]
    exact ⟨rfl, rfl⟩
  have hmade : ∀ w, (s.window w).changeDue c = true → (s.changed c).zone w = zoneAfterChange ((s.changed c).window w) :=
    fun w hd => by
      rw [State.changed_zone, if_pos hd, State.window, State.changed_windows]
  refine ⟨fun w => ?_, fun w ha => ?_, ?_⟩
  · by_cases hd : (s.window w).changeDue c = true
    · simp only [State.zoneView, Option.isSome_map]
      rw [hmade w hd, zoneAfterChange_isSome]
    · have hz := h.zoned w
      simp only [State.zoneView] at hz ⊢
      rw [(hkept w hd).1, (hkept w hd).2, hz]
  · obtain ⟨z, hz, hstate⟩ := zoneView_alarmed_iff.mp ha
    by_cases hd : (s.window w).changeDue c = true
    · rw [hmade w hd] at hz
      exact nomatch hstate.symm.trans (zoneAfterChange_idle hz)
    · rw [(hkept w hd).2] at hz
      have harmed := h.armed_of_active hz hstate
      simp only [State.zoneView]
      rw [(hkept w hd).1, State.changed_selector]
      exact harmed
  · have hf := h.flag
    simp only [State.zoneView, State.changed_hazardList] at hf ⊢
    rw [← hf]
    exact s.changed_hazard c

theorem State.HazardLaw.applyChanges {s : State} (h : s.HazardLaw) (c : Cam) : (s.applyChanges c).HazardLaw := by
  have hcleared : (s.changedClarity c).zoneView = (s.changed c).zoneView :=
    foldl_zoneView (fun t k => by split <;> simp) allCams (s.changed c)
  have hplaced := h.placed.changed c
  rw [← hcleared] at hplaced
  rw [State.applyChanges_eq]
  exact hazardLaw_refreshHazard hplaced

theorem State.HazardLaw.takeHeader {s : State} (h : s.HazardLaw) (c : Cam) (r : HeaderRecord) :
    (s.takeHeader c r).HazardLaw := by
  have hclose : (if (s.port c).phase = .opened then (s.count .frameTruncated c).frameClose c else s).HazardLaw := by
    split
    · exact h.truncated c
    · exact h
  unfold State.takeHeader
  dsimp only
  generalize (if (s.port c).phase = .opened then (s.count .frameTruncated c).frameClose c else s) = t at hclose ⊢
  split
  · exact hclose
  · have happlied := hclose.applyChanges c
    split
    · split
      · exact happlied.of_view (State.openFrame_zoneView ..)
      · exact happlied.of_view (State.ignoreFrame_zoneView ..)
    · exact happlied.of_view (State.ignoreFrame_zoneView ..)

theorem State.HazardLaw.headerArrives {s : State} (h : s.HazardLaw) (c : Cam) (r : HeaderRecord) (good : Bool) :
    (s.headerArrives c r good).HazardLaw := by
  unfold State.headerArrives
  split
  · exact h
  · split
    · exact h.takeHeader c r
    · exact h

/-! ## Hold timer (R126) -/

theorem State.HazardLaw.holdExpires {s : State} (h : s.HazardLaw) (w : WindowId) : (s.holdExpires w).HazardLaw := by
  unfold State.holdExpires
  split
  · next z hz =>
    split
    · refine hazardLaw_refreshHazard (h.placed.withZones rfl rfl (fun v => ?_) fun v y hy ha => ?_)
      · rw [look_put]
        split
        · next hv => rw [← hv, hz]; rfl
        · rfl
      · rw [look_put] at hy
        split at hy
        · cases hy
          exact nomatch ha
        · exact h.placed.armed_of_active hy ha
    · exact h
  · exact h

/-! ## A change of situation (R123, R138) -/

theorem State.rearm_eq (s : State) : s.rearm = (s.withZones (Vector.ofFn fun w =>
    (s.zone w).map fun z => if (s.window w).armed s.selector.situation then z else z.toIdle)).refreshHazard := rfl

/-- A ranking, from any situation: the zones that the present one does not arm become IDLE. -/
theorem ZoneView.Placed.rearm {s t : State} (h : s.zoneView.Placed) (hwindows : t.windows = s.windows)
    (hzones : t.zones = s.zones) : t.rearm.HazardLaw := by
  rw [State.rearm_eq]
  refine hazardLaw_refreshHazard (h.withZones hwindows hzones (fun w => ?_) fun w z hz ha => ?_)
  · rw [look_ofFn, Option.isSome_map, State.zone, hzones]
    rfl
  · rw [look_ofFn] at hz
    obtain ⟨y, hy, rfl⟩ := Option.map_eq_some_iff.mp hz
    split at ha
    · next harmed => exact harmed
    · exact nomatch ha

theorem State.endForce_zones (s : State) (cause : ForceCause) : (s.endForce cause).zones = s.zones := by
  unfold State.endForce
  split <;> rfl

theorem State.endForce_situation (s : State) (cause : ForceCause) :
    (s.endForce cause).selector.situation = s.selector.situation := by
  unfold State.endForce
  split <;> rfl

@[simp] theorem State.endForce_zoneView (s : State) (cause : ForceCause) : (s.endForce cause).zoneView = s.zoneView :=
  zoneView_congr (fun w => by rw [State.window, (selectorOnly_endForce s cause).windows]; rfl)
    (s.endForce_situation cause) (s.endForce_zones cause)

theorem State.HazardLaw.takeSituation {s : State} (h : s.HazardLaw) (new : Situation) : (s.takeSituation new).HazardLaw := by
  unfold State.takeSituation
  dsimp only
  split
  · exact h
  · refine State.HazardLaw.of_view ?_ (State.reform_zoneView _)
    split
    · exact h.placed.rearm (selectorOnly_endForce _ _).windows (State.endForce_zones _ _)
    · exact h.placed.rearm rfl rfl

/-- A selector with the same situation, ranked anew. -/
theorem State.HazardLaw.rerank {s t : State} (h : s.HazardLaw) (e : t.zoneView = s.zoneView) : t.rerank.HazardLaw :=
  (h.of_view e).takeSituation _

theorem State.HazardLaw.vehicleTimeout {s : State} (h : s.HazardLaw) : s.vehicleTimeout.HazardLaw := by
  unfold State.vehicleTimeout
  split
  · exact h.rerank rfl
  · exact h

theorem State.HazardLaw.turnDwellExpires {s : State} (h : s.HazardLaw) : s.turnDwellExpires.HazardLaw := by
  unfold State.turnDwellExpires
  split
  · exact h.rerank rfl
  · exact h

@[simp] theorem State.forceTimerExpires_zoneView (s : State) : s.forceTimerExpires.zoneView = s.zoneView := by
  unfold State.forceTimerExpires
  split
  · exact s.endForce_zoneView _
  · rfl

@[simp] theorem State.viewDwellExpires_zoneView (s : State) : s.viewDwellExpires.zoneView = s.zoneView := by
  unfold State.viewDwellExpires
  split <;> rfl

/-! ## OFF (R127, R178) -/

/-- The zones of one camera made initial are IDLE (R127). -/
theorem ZoneView.Placed.mapZonesOf_initial {s : State} (h : s.zoneView.Placed) (c : Cam) :
    (s.mapZonesOf c fun _ => .initial).zoneView.Placed := by
  refine h.withZones rfl rfl (fun w => ?_) fun w z hz ha => ?_
  · rw [look_ofFn]
    split
    · exact Option.isSome_map
    · rfl
  · rw [look_ofFn] at hz
    split at hz
    · obtain ⟨_, -, rfl⟩ := Option.map_eq_some_iff.mp hz
      exact nomatch ha
    · exact h.armed_of_active hz ha

theorem ZoneView.Placed.goOffUnlessOff {s : State} (h : s.zoneView.Placed) (c : Cam) (cause : LinkCause) :
    (s.goOffUnlessOff c cause).zoneView.Placed := by
  unfold State.goOffUnlessOff State.goOff
  split
  · exact h
  · dsimp only
    rw [State.reform_zoneView, State.setLink_zoneView]
    refine ZoneView.Placed.mapZonesOf_initial ?_ c
    exact h

/-- Several ports go OFF one after another. -/
theorem ZoneView.Placed.foldl_goOffUnlessOff {s : State} (h : s.zoneView.Placed) (cause : LinkCause) (l : List Cam) :
    (l.foldl (fun t c => t.goOffUnlessOff c cause) s).zoneView.Placed := by
  induction l generalizing s with
  | nil => exact h
  | cons c l ih => exact ih (h.goOffUnlessOff c cause)

theorem State.HazardLaw.leaveRun {s : State} (h : s.HazardLaw) (m : OpMode) (cause : LinkCause) :
    (s.leaveRun m cause).HazardLaw := by
  unfold State.leaveRun
  refine hazardLaw_refreshHazard (ZoneView.Placed.foldl_goOffUnlessOff ?_ cause allCams)
  exact h.placed

end Sys2Proof.Machine
end

section
/-! PROOF. Every step keeps the law of the hazard zone list (R122, R123, R128): the requests, the output frame start, the
millisecond and power-on, then the step put together. -/

namespace Sys2Proof.Machine

/-! ## Requests -/

/-- A request's effect keeps the law. -/
def KeepsHazardLaw (f : State → Answer) : Prop := ∀ s, s.HazardLaw → (f s).state.HazardLaw

theorem KeepsHazardLaw.of_view {f : State → Answer} (h : ∀ s, (f s).state.zoneView = s.zoneView) : KeepsHazardLaw f :=
  fun s hs => hs.of_view (h s)

/-- A change that is undone by putting back blocks of which the law reads nothing. -/
theorem State.HazardLaw.of_rest {s t u : State} (hs : s.HazardLaw) (h : u = s)
    (hwindows : u.windows = t.windows := by dsimp only) (hselector : u.selector = t.selector := by dsimp only)
    (hzones : u.zones = t.zones := by dsimp only) : t.HazardLaw :=
  hs.of_view (zoneView_of_rest h hwindows hselector hzones)

/-- A window's pending change is replaced. -/
theorem State.putChange_zoneView (s : State) (w : WindowId) (x : PendingChange) :
    ({ s with windows := put s.windows w { s.window w with change := x } } : State).zoneView = s.zoneView := by
  refine s.windows_zoneView fun v => ?_
  rw [look_put]
  split
  · next hv => rw [hv]
  · rfl

/-- WINDOW SET makes a definition pending, and not yet active (R86). -/
theorem windowSet_zoneView (f : WindowFields) (s : State) : (windowSet f s).state.zoneView = s.zoneView := by
  unfold windowSet
  dsimp only
  split
  · rfl
  · split
    · split
      all_goals
        split
        · exact s.putChange_zoneView ..
        · rfl
    · rfl

/-- WINDOW DROP leaves the active definition (R88). -/
theorem windowDrop_zoneView (id : Nat) (s : State) : (windowDrop id s).state.zoneView = s.zoneView := by
  unfold windowDrop
  split
  · rfl
  · dsimp only
    split
    · exact s.putChange_zoneView ..
    · rfl
    · exact s.putChange_zoneView ..

theorem setParametersStore_zoneView (p : StoreParams) (s : State) :
    (setParametersStore p s).state.zoneView = s.zoneView := by
  have hlimited : (s.limited (clampStore p)).zoneView = s.zoneView := rfl
  have hrest := (limited_settled s (clampStore p)).rest
  rw [setParametersStore_eq, ← hlimited]
  generalize allCams.foldl (State.settleStore fun x _ => x) (s.limited (clampStore p)) = t at hrest
  exact zoneView_of_rest hrest

theorem setParametersClarity_zoneView (f : ClarityFields) (s : State) :
    (setParametersClarity f s).state.zoneView = s.zoneView := by
  obtain h | ⟨c, cl, -, h⟩ := setParametersClarity_eq s f
  · rw [h]
  · rw [h, State.setClarity_zoneView]

theorem portEnable_zoneView (port : Nat) (s : State) : (portEnable port s).state.zoneView = s.zoneView := by
  unfold portEnable
  split
  · rfl
  · simp

theorem linkRestart_zoneView (port : Nat) (s : State) : (linkRestart port s).state.zoneView = s.zoneView := by
  unfold linkRestart
  split
  · rfl
  · split
    · simp
    · rfl

theorem portPreference_zoneView (f : PreferenceFields) (s : State) : (portPreference f s).state.zoneView = s.zoneView := by
  unfold portPreference
  split
  · exact s.takePreference_zoneView ..
  · rfl

/-- A force has no part in arming (R123, R141). -/
theorem forceView_zoneView (f : ForceFields) (s : State) : (forceView f s).state.zoneView = s.zoneView := by
  unfold forceView
  dsimp only
  split
  · split
    · rfl
    · exact .trans (by rfl) (s.endForce_zoneView .replaced)
  · rfl

theorem releaseView_zoneView (x : Unit) (s : State) : (releaseView x s).state.zoneView = s.zoneView := by
  unfold releaseView
  split
  · exact s.endForce_zoneView _
  · rfl

theorem keepsHazardLaw_vehicleState (record : List Byte) : KeepsHazardLaw (vehicleState record) := by
  intro s h
  unfold vehicleState
  split
  · exact h
  · exact h
  · exact h.rerank rfl

theorem keepsHazardLaw_situation (p : SituationParams) : KeepsHazardLaw (setParametersSituation p) := fun _ h => h.rerank rfl

theorem keepsHazardLaw_portDisable (port : Nat) : KeepsHazardLaw (portDisable port) := by
  intro s h
  unfold portDisable
  split
  · exact h
  · next c _ =>
    have hdisabled : (s.setPort c { s.port c with enabled := false }).zoneView.Placed := h.placed
    exact (hazardLaw_refreshHazard (hdisabled.goOffUnlessOff c .disabled)).of_view (State.reform_zoneView _)

/-! ## MODE and RESTART (R176 to R178, R180) -/

theorem State.enterRun_zoneView (s : State) : s.enterRun.zoneView = s.zoneView := by
  unfold State.enterRun
  rw [State.reform_zoneView]
  exact (foldl_zoneView State.leaveOff_zoneView allCams _).trans rfl

theorem keepsHazardLaw_modeConfig (x : Unit) : KeepsHazardLaw (modeConfig x) := by
  intro s h
  unfold modeConfig
  split <;> rw [modeAnswer_state]
  · exact h
  · exact h.leaveRun ..
  · exact h

theorem keepsHazardLaw_modeRun (x : Unit) : KeepsHazardLaw (modeRun x) := by
  intro s h
  unfold modeRun
  split
  · exact h
  all_goals
    split <;> rw [modeAnswer_state]
    · exact h
    · exact h.of_view s.enterRun_zoneView

theorem keepsHazardLaw_modeStandby (x : Unit) : KeepsHazardLaw (modeStandby x) := by
  intro s h
  unfold modeStandby
  split <;> rw [modeAnswer_state]
  · exact h
  · exact h.leaveRun ..
  · exact h

/-- RESTART keeps the active definitions and makes every zone initial (R85, R122). -/
theorem ZoneView.Placed.restarted {s t : State} (h : s.zoneView.Placed)
    (hwindows : t.windows = mapTable Window.restarted s.windows) (hzones : t.zones = s.zones.restarted) :
    t.zoneView.Placed := by
  have hactive : ∀ w, (t.window w).active = (s.window w).active := fun w => by
    rw [State.window, hwindows, look_mapTable]
    rfl
  have hzone : ∀ w, t.zone w = (s.zone w).map fun _ => .initial := fun w => by
    rw [State.zone, hzones, ZoneWatch.restarted, look_mapTable]
    rfl
  refine ⟨fun w => ?_, fun w ha => ?_, ?_⟩
  · have hs := h.zoned w
    simp only [State.zoneView, Option.isSome_map] at hs ⊢
    rw [hzone, Option.isSome_map, hs, hactive]
  · obtain ⟨z, hz, hstate⟩ := zoneView_alarmed_iff.mp ha
    rw [hzone] at hz
    obtain ⟨_, -, rfl⟩ := Option.map_eq_some_iff.mp hz
    exact nomatch hstate
  · have hs := h.flag
    simp only [State.zoneView, hzones, ZoneWatch.restarted] at hs ⊢
    exact hs

theorem keepsHazardLaw_restart (x : Unit) : KeepsHazardLaw (restart x) := by
  intro s h
  unfold restart
  dsimp only
  have hcontrol : (State.zoneView
      { s with control := s.control.restarted, mode := .config, cadence := s.cadence.leaveRun }).Placed := h.placed
  have hoff := hcontrol.foldl_goOffUnlessOff .restarted allCams
  generalize allCams.foldl _ _ = u at hoff ⊢
  exact hazardLaw_refreshHazard (hoff.restarted rfl rfl)

/-! ## Output frame start, power-on and the millisecond -/

/-- The zone watch latches its zones and leaves them (R129). -/
theorem State.frameStart_zoneView (s : State) : s.frameStart.zoneView = s.zoneView := by
  have hrest := s.storeFrameStart_rest
  rw [s.frameStart_eq]
  generalize s.storeFrameStart = r at hrest ⊢
  obtain ⟨choice, hdrawn⟩ := r.drawn_eq
  rw [hdrawn, ← zoneView_of_rest hrest]
  rfl

/-- After power-on no window has a definition, and there is no zone (R122, R179). -/
theorem State.hazardLaw_atPowerOn (levels : PowerInputs) (epoch choices : Nat) (q : List Instr) :
    (State.atPowerOn levels epoch choices q).HazardLaw := by
  have hzone : ∀ w, (State.atPowerOn levels epoch choices q).zone w = none := fun w => look_replicate ..
  have hwindow : ∀ w, (State.atPowerOn levels epoch choices q).window w = .initial := fun w => look_replicate ..
  have halarm : (State.atPowerOn levels epoch choices q).zoneView.inAlarm = [] := by
    simp [ZoneView.inAlarm, State.zoneView, hzone]
  refine (hazardLaw_iff _).mpr ⟨⟨fun w => ?_, fun w ha => ?_, rfl⟩, halarm.symm⟩
  · simp [State.zoneView, hzone, hwindow, Window.initial]
  · simp [State.zoneView, hzone] at ha

/-- Hold timers with less time remaining. -/
theorem zoneView_countdown {s t : State} (hwindows : t.windows = s.windows)
    (hsituation : t.selector.situation = s.selector.situation)
    (hzones : t.zones = { s.zones with zones := mapTable (Option.map Zone.countdown) s.zones.zones }) :
    t.zoneView = s.zoneView := by
  have halarmed : ∀ w, (t.zone w).map Zone.alarmed = (s.zone w).map Zone.alarmed := fun w => by
    rw [State.zone, hzones, look_mapTable, Option.map_map]
    rfl
  simp only [State.zoneView, State.window, halarmed, hwindows, hsituation, hzones]

/-- A millisecond moves the hold timers, and no zone's state. -/
theorem State.tick_zoneView (s : State) : s.tick.zoneView = s.zoneView := zoneView_countdown rfl rfl rfl

/-! ## Every command -/

theorem unlessHeld_keepsHazardLaw {f : State → State} {s t : State} (h : unlessHeld s f = .next t) (hs : s.HazardLaw)
    (hf : (f s).HazardLaw) : t.HazardLaw :=
  unlessHeld_keeps (P := State.HazardLaw) (fun _ hu => hu) (fun _ => hf) h hs

theorem request_keepsHazardLaw {f : State → Answer} {r : Instr} {kind tag : Byte} {s t : State}
    (h : request r kind tag f s = .next t) (hs : s.HazardLaw) (hf : KeepsHazardLaw f) : t.HazardLaw :=
  request_keeps (P := State.HazardLaw) (fun _ _ hu => hu) (fun _ _ hu => hu) hf h hs

/-- A command with a body, taken as a request. -/
theorem requestBody_keepsHazardLaw {α : Type} {f : α → State → Answer} {b : Body α} {r : Instr} {kind tag : Byte}
    {s t : State} (h : request r kind tag (Body.run b f) s = .next t) (hs : s.HazardLaw) (hf : ∀ x, KeepsHazardLaw (f x)) :
    t.HazardLaw := by
  cases b with
  | badLength => exact request_keepsHazardLaw h hs fun _ hu => hu
  | fields x => exact request_keepsHazardLaw h hs (hf x)

theorem exec_keepsHazardLaw {i : Instr} {s t : State} (hs : s.HazardLaw) (h : exec i s = .next t) : t.HazardLaw := by
  cases i with
  | powerOn levels => cases h; exact State.hazardLaw_atPowerOn ..
  | resetAssert => cases h; exact hs
  | unknownRecordArrival c => cases h; exact hs
  | carrierGain c =>
    exact unlessHeld_keepsHazardLaw (f := fun t => t.gainCarrier c) h hs (hs.of_view (s.gainCarrier_zoneView c))
  | carrierLoss c =>
    exact unlessHeld_keepsHazardLaw (f := fun t => t.loseCarrier c) h hs (hs.of_view (s.loseCarrier_zoneView c))
  | announceArrival c r k =>
    exact unlessHeld_keepsHazardLaw (f := fun t => t.announceArrives c r _) h hs (hs.of_view (s.announceArrives_zoneView ..))
  | trainingSegmentArrival c r k =>
    exact unlessHeld_keepsHazardLaw (f := fun t => t.trainSegment c r.index _) h hs (hs.of_view (s.trainSegment_zoneView ..))
  | frameHeaderArrival c r k =>
    exact unlessHeld_keepsHazardLaw (f := fun t => t.headerArrives c r _) h hs (hs.headerArrives ..)
  | segmentArrival c i body k =>
    exact unlessHeld_keepsHazardLaw (f := fun t => t.segmentArrives c i body _) h hs
      (hs.of_view (s.segmentArrives_zoneView ..))
  | frameTrailerArrival c n k =>
    exact unlessHeld_keepsHazardLaw (f := fun t => t.trailerArrives c n _) h hs (hs.trailerArrives ..)
  | announceTimerExpiry c =>
    exact unlessHeld_keepsHazardLaw (f := fun t => t.announceExpires c) h hs (hs.of_view (s.announceExpires_zoneView c))
  | trainTimerExpiry c =>
    exact unlessHeld_keepsHazardLaw (f := fun t => t.trainExpires c) h hs (hs.of_view (s.trainExpires_zoneView c))
  | backChannelRecordSent c =>
    exact unlessHeld_keepsHazardLaw (f := fun t => t.backRecordSent c) h hs (hs.of_view (s.backRecordSent_zoneView c))
  | outputFrameStart => exact unlessHeld_keepsHazardLaw h hs (hs.of_view s.frameStart_zoneView)
  | displaySenseChange level =>
    exact unlessHeld_keepsHazardLaw (f := fun t => { t with display := t.display.sense level }) h hs hs
  | displaySenseTimerExpiry => exact unlessHeld_keepsHazardLaw h hs (hs.of_rest (senseExpires_rest s))
  | holdTimerExpiry w => exact unlessHeld_keepsHazardLaw (f := fun t => t.holdExpires w) h hs (hs.holdExpires w)
  | vehicleTimeoutExpiry => exact unlessHeld_keepsHazardLaw h hs hs.vehicleTimeout
  | turnDwellExpiry => exact unlessHeld_keepsHazardLaw h hs hs.turnDwellExpires
  | forceTimerExpiry => exact unlessHeld_keepsHazardLaw h hs (hs.of_view s.forceTimerExpires_zoneView)
  | viewDwellTimerExpiry => exact unlessHeld_keepsHazardLaw h hs (hs.of_view s.viewDwellExpires_zoneView)
  | onTimeExpiry ch =>
    exact unlessHeld_keepsHazardLaw (f := fun t => t.setChannel ch (t.channel ch).onExpires) h hs
      (hs.of_rest (setChannel_rest s ch _))
  | offTimeExpiry ch =>
    exact unlessHeld_keepsHazardLaw (f := fun t => t.setChannel ch (t.channel ch).offExpires) h hs
      (hs.of_rest (setChannel_rest s ch _))
  | byteGapTimerExpiry =>
    exact unlessHeld_keepsHazardLaw (f := fun t => { t with control := t.control.gapExpires }) h hs hs
  | controlFrameComplete b =>
    exact unlessHeld_keepsHazardLaw (f := fun t => { t with control := t.control.completeWith b }) h hs hs
  | frameSendEnd => exact unlessHeld_keepsHazardLaw (f := fun t => { t with control := t.control.sendEnd }) h hs hs
  | byteReceived b => exact unlessHeld_keepsHazardLaw (f := fun t => { t with control := t.control.receive b }) h hs hs
  | unknownRequest kind tag => exact request_keepsHazardLaw h hs fun s hu => hu.of_rest (unknownRequest_state s kind)
  | identify tag b => exact requestBody_keepsHazardLaw h hs fun _ _ hu => hu
  | status tag b => exact requestBody_keepsHazardLaw h hs fun _ _ hu => hu
  | setParametersLink tag b => exact requestBody_keepsHazardLaw h hs fun _ _ hu => hu
  | setParametersStore tag b => exact requestBody_keepsHazardLaw h hs fun p => .of_view (setParametersStore_zoneView p)
  | setParametersTone tag b => exact requestBody_keepsHazardLaw h hs fun f s hu => hu.of_rest (setParametersTone_rest s f)
  | setParametersToneLimits tag b => exact requestBody_keepsHazardLaw h hs fun _ _ hu => hu
  | setParametersClarity tag b => exact requestBody_keepsHazardLaw h hs fun f => .of_view (setParametersClarity_zoneView f)
  | setParametersClarityLimits tag b => exact requestBody_keepsHazardLaw h hs fun _ _ hu => hu
  | setParametersZone tag b => exact requestBody_keepsHazardLaw h hs fun _ _ hu => hu
  | setParametersSituation tag b => exact requestBody_keepsHazardLaw h hs keepsHazardLaw_situation
  | setParametersCadence tag b =>
    exact requestBody_keepsHazardLaw h hs fun f s hu => hu.of_rest (setParametersCadence_rest s f)
  | portEnable tag b => exact requestBody_keepsHazardLaw h hs fun port => .of_view (portEnable_zoneView port)
  | portDisable tag b => exact requestBody_keepsHazardLaw h hs keepsHazardLaw_portDisable
  | linkRestart tag b => exact requestBody_keepsHazardLaw h hs fun port => .of_view (linkRestart_zoneView port)
  | portPreferenceList tag b => exact requestBody_keepsHazardLaw h hs fun f => .of_view (portPreference_zoneView f)
  | windowSet tag b => exact requestBody_keepsHazardLaw h hs fun f => .of_view (windowSet_zoneView f)
  | windowDrop tag b => exact requestBody_keepsHazardLaw h hs fun id => .of_view (windowDrop_zoneView id)
  | seamSet tag b => exact requestBody_keepsHazardLaw h hs fun f s hu => hu.of_rest (seamSet_rest s f)
  | gridBegin tag b => exact requestBody_keepsHazardLaw h hs fun f s hu => hu.of_rest (gridBegin_rest s f)
  | gridNodes tag b => exact requestBody_keepsHazardLaw h hs fun f s hu => hu.of_rest (gridNodes_rest s f)
  | gridEnd tag b => exact requestBody_keepsHazardLaw h hs fun id s hu => hu.of_rest (gridEnd_rest s id)
  | gridDrop tag b => exact requestBody_keepsHazardLaw h hs fun id s hu => hu.of_rest (gridDrop_rest s id)
  | shapeSet tag b => exact requestBody_keepsHazardLaw h hs fun f s hu => hu.of_rest (shapeSet_rest s f)
  | shapeDrop tag b => exact requestBody_keepsHazardLaw h hs fun id s hu => hu.of_rest (shapeDrop_rest s id)
  | setOverlayList tag b => exact requestBody_keepsHazardLaw h hs fun f s hu => hu.of_rest (setOverlayList_rest s f)
  | viewSet tag b => exact requestBody_keepsHazardLaw h hs fun f s hu => hu.of_rest (viewSet_rest s f)
  | paneSet tag b => exact requestBody_keepsHazardLaw h hs fun f s hu => hu.of_rest (paneSet_rest s f)
  | paneDrop tag b => exact requestBody_keepsHazardLaw h hs fun f s hu => hu.of_rest (paneDrop_rest s f)
  | viewMapSet tag b => exact requestBody_keepsHazardLaw h hs fun f s hu => hu.of_rest (viewMapSet_rest s f)
  | applyTables tag b => exact requestBody_keepsHazardLaw h hs fun x s hu => hu.of_rest (applyTables_rest s x)
  | vehicleState tag record => exact request_keepsHazardLaw h hs (keepsHazardLaw_vehicleState record)
  | forceView tag b => exact requestBody_keepsHazardLaw h hs fun f => .of_view (forceView_zoneView f)
  | releaseView tag b => exact requestBody_keepsHazardLaw h hs fun x => .of_view (releaseView_zoneView x)
  | silence tag b => exact requestBody_keepsHazardLaw h hs fun _ _ hu => hu
  | readCamera tag b => exact requestBody_keepsHazardLaw h hs fun camera s hu => hu.of_rest (readCamera_state s camera)
  | readMeter tag b => exact requestBody_keepsHazardLaw h hs fun id s hu => hu.of_rest (readMeter_state s id)
  | readTable tag b => exact requestBody_keepsHazardLaw h hs fun f s hu => hu.of_rest (readTable_state s f)
  | counterSelect tag b => exact requestBody_keepsHazardLaw h hs fun f s hu => hu.of_rest (counterSelect_rest s f)
  | counterRead tag b => exact requestBody_keepsHazardLaw h hs fun _ _ hu => hu
  | modeConfig tag b => exact requestBody_keepsHazardLaw h hs keepsHazardLaw_modeConfig
  | modeRun tag b => exact requestBody_keepsHazardLaw h hs keepsHazardLaw_modeRun
  | modeStandby tag b => exact requestBody_keepsHazardLaw h hs keepsHazardLaw_modeStandby
  | restart tag b => exact requestBody_keepsHazardLaw h hs keepsHazardLaw_restart

/-- Settles O13, over the commands: a step is a command of the queue or one millisecond, which ends and begins no alarm. -/
theorem stepKeepsHazardLaw : Obligations.StepKeepsHazardLaw := by
  intro s t hs h
  unfold step at h
  split at h
  · cases h
    exact hs.of_view s.tick_zoneView
  · next i rest _ => exact exec_keepsHazardLaw (s := s.withPending rest) hs h

end Sys2Proof.Machine
end

section
/-! PROOF. Hold timer expiry (R126), with the HAZARD report that follows it (R128). -/

namespace Sys2Proof.Machine

/-- The zones with the zone `z` of window `w` IDLE again, before the hazard zone list follows (R126). -/
def State.zoneEnded (s : State) (w : WindowId) (z : Zone) : State := s.withZones (put s.zones.zones w (some z.toIdle))

section
variable {s : State} {w : WindowId} {z : Zone}

theorem State.zoneEnded_zone (v : WindowId) : (s.zoneEnded w z).zone v = if w = v then some z.toIdle else s.zone v :=
  look_put ..

theorem State.holdExpires_due (hz : s.zone w = some z) (hactive : z.state = .active) (hhold : z.hold = some 0) :
    s.holdExpires w = (s.zoneEnded w z).refreshHazard := by
  unfold State.holdExpires
  rw [hz]
  exact if_pos ⟨hactive, hhold⟩

theorem State.holdExpires_notDue (h : ∀ z, s.zone w = some z → z.hold ≠ some 0) : s.holdExpires w = s := by
  unfold State.holdExpires
  split
  · next z hz => exact if_neg fun hdue => h z hz hdue.2
  · rfl

theorem exec_holdTimerExpiry (hs : s.held = false) (w : WindowId) :
    exec (.holdTimerExpiry w) s = .next (s.holdExpires w).drivePins :=
  unlessHeld_live hs fun t => t.holdExpires w

/-- The window whose zone ends its alarm leaves the list; the others stay in it in their order. -/
theorem State.zoneEnded_activeZones :
    activeZones (s.zoneEnded w z).zones.zones = (activeZones s.zones.zones).filter (· ≠ w) := by
  rw [activeZones, activeZones, List.filter_filter]
  refine List.filter_congr fun v _ => ?_
  have hzone : look (s.zoneEnded w z).zones.zones v = if w = v then some z.toIdle else look s.zones.zones v := look_put ..
  rw [hzone]
  by_cases hv : w = v
  · rw [if_pos hv, ← hv]
    simp [Zone.toIdle]
  · rw [if_neg hv]
    simp [Ne.symm hv]

theorem mem_activeZones_of_active (hz : s.zone w = some z) (hactive : z.state = .active) :
    w ∈ activeZones s.zones.zones := by
  refine List.mem_filter.mpr ⟨mem_allWindows w, ?_⟩
  rw [State.zone] at hz
  simp [hz, hactive]

end

/-- Settles O33: the zone IDLE, and the list brought up to date behind it; without an expired timer nothing but the pins is
driven. -/
theorem holdTimerExpiry : Obligations.HoldTimerExpiry := by
  intro s w hs
  refine ⟨fun z hz hactive hhold => ?_, fun h => ?_⟩
  · refine ⟨(s.holdExpires w).drivePins, exec_holdTimerExpiry hs w, ?_⟩
    have hlaw := fun h : s.HazardLaw => h.holdExpires w
    have hrest := holdExpires_rest s w
    rw [State.holdExpires_due hz hactive hhold] at hlaw hrest ⊢
    have hlist : (s.zoneEnded w z).refreshHazard.zones.hazardList = (activeZones s.zones.zones).filter (· ≠ w) := by
      rw [State.refreshHazard_hazardList, State.zoneEnded_activeZones]
    refine ⟨?_, fun v hv => ?_, ?_, ?_, ?_, ?_, fun hlawful => ?_, ?_, ?_⟩
    · rw [State.drivePins_zone, State.refreshHazard_zone, State.zoneEnded_zone, if_pos rfl]
      rfl
    · rw [State.drivePins_zone, State.refreshHazard_zone, State.zoneEnded_zone, if_neg (Ne.symm hv)]
    · exact State.refreshHazard_latchedZones _
    · exact State.refreshHazard_latchedHazard _
    · rw [State.drivePins_zones, State.refreshHazard_hazardList, State.refreshHazard_zones_zones]
    · exact State.refreshHazard_control _
    · obtain ⟨-, -, hafter, hflag⟩ := hlaw hlawful
      obtain ⟨-, -, hbefore, -⟩ := hlawful
      rw [State.drivePins_zones, hflag, ← hafter, hlist, hbefore]
      exact ⟨rfl, rfl, mem_activeZones_of_active hz hactive⟩
    · exact (congrArg (fun v : State => { v with pins := s.pins }) hrest :)
    · have hended : Beside s (s.zoneEnded w z) := .of_eq rfl rfl
      exact hended.trans ((beside_refreshHazard _).trans (.of_eq rfl rfl))
  · rw [exec_holdTimerExpiry hs, State.holdExpires_notDue h]

end Sys2Proof.Machine
end

section
/-! PROOF. A change of situation: what the ranking leaves of the selector, the zones and the reports, and the events that
rank (R123, R128, R137, R138, R142). -/

namespace Sys2Proof.Machine

/-! ## The selector after a ranking (R138, R142) -/

/-- The force that a ranking leaves: at a change of situation one that the new situation outranks ends (R142). -/
def Selector.heldForce (sel : Selector) (new : Situation) : Option Force :=
  if new = sel.situation then sel.force else sel.force.filter fun f => !outranks new f.ceiling

/-- The selector with a new situation and the force that it leaves. -/
def Selector.situated (sel : Selector) (new : Situation) : Selector :=
  { sel with
    situation := new, force := sel.heldForce new
    forceChange := sel.forceChange || sel.force.isSome && (sel.heldForce new).isNone }

/-- The selector with its situation ranked. -/
def Selector.ranked (sel : Selector) (p : SituationParams) : Selector := sel.situated (rankSituation p sel)

/-- The FORCE ENDED report of a ranking that takes the selector from `before` to `after` (R142). -/
def overrideReport (before after : Selector) : List Report :=
  match before.force, after.force with
  | some f, none => [.forceEnded f.view f.ceiling .override after.situation]
  | _, _ => []

theorem overrideReport_of_force {before after : Selector} (h : after.force = before.force) :
    overrideReport before after = [] := by
  unfold overrideReport
  rw [h]
  cases before.force <;> rfl

/-- Where the force stays, only the situation changes. -/
theorem Selector.situated_kept {sel : Selector} {new : Situation} (h : sel.heldForce new = sel.force) :
    sel.situated new = { sel with situation := new } := by
  have hchange : (sel.forceChange || sel.force.isSome && sel.force.isNone) = sel.forceChange := by
    cases sel.force <;> simp
  rw [Selector.situated, h, hchange]

theorem Selector.situated_same (sel : Selector) : sel.situated sel.situation = sel := Selector.situated_kept (if_pos rfl)

/-- Where a force ends, the force change flag is set. -/
theorem Selector.situated_overridden {sel : Selector} {new : Situation} {f : Force} (hf : sel.force = some f)
    (h : sel.heldForce new = none) :
    sel.situated new = { sel with situation := new, force := none, forceChange := true } := by
  rw [Selector.situated, h, hf]
  simp

/-- The ranking reads none of what it changes. -/
theorem rankSituation_ranked (p : SituationParams) (sel : Selector) : rankSituation p (sel.ranked p) = rankSituation p sel :=
  rfl

section
variable (s : State) (new : Situation)

/-- The state with the new situation and its report, before zones and triggers follow. -/
def State.situated : State :=
  { s with
    selector := s.selector.situated new
    control := s.control.queueAll (overrideReport s.selector (s.selector.situated new)) }

theorem State.situated_kept (h : s.selector.heldForce new = s.selector.force) :
    s.situated new = { s with selector := { s.selector with situation := new } } := by
  have hreport : overrideReport s.selector { s.selector with situation := new } = [] := overrideReport_of_force rfl
  rw [State.situated, Selector.situated_kept h, hreport]
  rfl

theorem State.situated_overridden {f : Force} (hf : s.selector.force = some f) (h : s.selector.heldForce new = none) :
    s.situated new = { s with
      selector := { s.selector with situation := new, force := none, forceChange := true }
      control := s.control.queueReport (.forceEnded f.view f.ceiling .override new) } := by
  rw [State.situated, Selector.situated_overridden hf h, overrideReport, hf]
  rfl

theorem State.endForce_some {s : State} {f : Force} (h : s.selector.force = some f) (cause : ForceCause) :
    s.endForce cause = { s with
      selector := { s.selector with force := none, forceChange := true }
      control := s.control.queueReport (.forceEnded f.view f.ceiling cause s.selector.situation) } := by
  unfold State.endForce
  rw [h]
  rfl

theorem State.endForce_none {s : State} (h : s.selector.force = none) (cause : ForceCause) : s.endForce cause = s := by
  unfold State.endForce
  rw [h]

theorem State.takeSituation_same : s.takeSituation s.selector.situation = s := if_pos rfl

theorem State.takeSituation_changed {s : State} {new : Situation} (h : new ≠ s.selector.situation) :
    s.takeSituation new = (s.situated new).rearm.reform := by
  have hheld : s.selector.heldForce new = s.selector.force.filter fun f => !outranks new f.ceiling := if_neg h
  have hforced : (if s.selector.force.any (fun f => outranks new f.ceiling) then
        State.endForce { s with selector := { s.selector with situation := new } } .override
      else { s with selector := { s.selector with situation := new } }) = s.situated new := by
    cases hforce : s.selector.force with
    | none => exact (s.situated_kept new (by rw [hheld, hforce]; rfl)).symm
    | some f =>
      cases hrank : outranks new f.ceiling with
      | false =>
        rw [if_neg (by simp [hrank])]
        exact (s.situated_kept new (by rw [hheld, hforce]; simp [hrank])).symm
      | true =>
        have hended : s.selector.heldForce new = none := by rw [hheld, hforce]; simp [hrank]
        rw [if_pos (by simp [hrank]), s.situated_overridden new hforce hended]
        exact State.endForce_some (s := { s with selector := { s.selector with situation := new } }) hforce _
  unfold State.takeSituation
  rw [if_neg h, ← hforced]

/-- The zones, those that the situation does not arm IDLE (R123). -/
def State.armedZones : Vector (Option Zone) 16 := Vector.ofFn fun w =>
  (s.zone w).map fun z => if (s.window w).armed s.selector.situation then z else z.toIdle

theorem State.rearm_armedZones : s.rearm = (s.withZones s.armedZones).refreshHazard := rfl

@[simp] theorem State.rearm_selector : s.rearm.selector = s.selector := by
  rw [State.rearm_armedZones, State.refreshHazard_selector]
  rfl

@[simp] theorem State.rearm_zone (w : WindowId) : s.rearm.zone w =
    (s.zone w).map fun z => if (s.window w).armed s.selector.situation then z else z.toIdle := by
  rw [State.rearm_armedZones, State.refreshHazard_zone]
  exact look_ofFn ..

theorem State.rearm_control : s.rearm.control = s.control.queueAll (hazardReport s s.rearm) := by
  rw [State.rearm_armedZones, State.refreshHazard_control]
  exact congrArg _ (hazardReport_congr rfl rfl fun _ => rfl)

theorem State.takeSituation_selector : (s.takeSituation new).selector = s.selector.situated new := by
  by_cases h : new = s.selector.situation
  · rw [h, State.takeSituation_same, Selector.situated_same]
  · rw [State.takeSituation_changed h, State.reform_selector, State.rearm_selector]
    rfl

theorem State.takeSituation_zone (w : WindowId) : (s.takeSituation new).zone w =
    if new = s.selector.situation then s.zone w
    else (s.zone w).map fun z => if (s.window w).armed new then z else z.toIdle := by
  by_cases h : new = s.selector.situation
  · rw [if_pos h, h, State.takeSituation_same]
  · rw [if_neg h, State.takeSituation_changed h, State.reform_zone, State.rearm_zone]
    rfl

theorem State.takeSituation_control : (s.takeSituation new).control = s.control.queueAll
    (overrideReport s.selector (s.selector.situated new) ++ hazardReport s (s.takeSituation new)) := by
  by_cases h : new = s.selector.situation
  · have hhazard : hazardReport s s = [] := if_pos rfl
    rw [h, State.takeSituation_same, Selector.situated_same, overrideReport_of_force rfl, hhazard]
    rfl
  · have hhazard : hazardReport s (s.situated new).rearm.reform = hazardReport (s.situated new) (s.situated new).rearm :=
      hazardReport_congr rfl (congrArg ZoneWatch.hazardList (State.reform_zones _))
        fun w => congrArg Window.active (State.reform_window _ w)
    rw [State.takeSituation_changed h, State.reform_control, State.rearm_control, hhazard, Control.queueAll_append]
    rfl

end

/-! ## What the events of the selector leave -/

namespace SelectorFrame
variable {s t u : State}

theorem trans (a : SelectorFrame s t) (b : SelectorFrame t u) : SelectorFrame s u where
  toBeside := a.toBeside.trans b.toBeside
  latches := by
    obtain ⟨hhazard, hzones⟩ := a.latches
    rw [← hhazard, ← hzones]
    exact b.latches
  kept := by
    obtain ⟨hshown, hdwell, hlatch⟩ := a.kept
    rw [← hshown, ← hdwell, ← hlatch]
    exact b.kept
  rest := by
    have ha := a.rest
    have hb := b.rest
    rw [← ha, ← hb]

/-- The output pins are none of what the frame keeps. -/
theorem drivePins (h : SelectorFrame s t) : SelectorFrame s t.drivePins :=
  h.trans ⟨.of_eq rfl rfl, ⟨rfl, rfl⟩, ⟨rfl, rfl, rfl⟩, rfl⟩

/-- Other reports and replies. -/
theorem withControl (h : SelectorFrame s t) {k : Control} (hrate : k.rate = s.control.rate) (hrx : k.rx = s.control.rx) :
    SelectorFrame s { t with control := k } :=
  h.trans ⟨⟨hrate.trans h.rate.symm, hrx.trans h.rx.symm, rfl, rfl, rfl⟩, ⟨rfl, rfl⟩, ⟨rfl, rfl, rfl⟩, rfl⟩

end SelectorFrame

theorem selectorFrame_reform (s : State) : SelectorFrame s s.reform :=
  ⟨beside_reform s, ⟨rfl, rfl⟩, ⟨rfl, rfl, rfl⟩, rfl⟩

theorem selectorFrame_refreshHazard (s : State) : SelectorFrame s s.refreshHazard where
  toBeside := beside_refreshHazard s
  latches := ⟨s.refreshHazard_latchedHazard, s.refreshHazard_latchedZones⟩
  kept := by
    rw [State.refreshHazard_selector]
    exact ⟨rfl, rfl, rfl⟩
  rest := (congrArg (fun v : State => { v with
    params := s.params, selector := s.selector, zones := s.zones, cadence := s.cadence, control := s.control
    pins := s.pins }) s.refreshHazard_rest :)

theorem selectorFrame_withZones (s : State) (x : Vector (Option Zone) 16) : SelectorFrame s (s.withZones x) :=
  ⟨.of_eq rfl rfl, ⟨rfl, rfl⟩, ⟨rfl, rfl, rfl⟩, rfl⟩

theorem selectorFrame_rearm (s : State) : SelectorFrame s s.rearm :=
  (selectorFrame_withZones s s.armedZones).trans (selectorFrame_refreshHazard _)

theorem selectorFrame_takeSituation (s : State) (new : Situation) : SelectorFrame s (s.takeSituation new) := by
  by_cases h : new = s.selector.situation
  · rw [h, State.takeSituation_same]
    exact ⟨.rfl, ⟨rfl, rfl⟩, ⟨rfl, rfl, rfl⟩, rfl⟩
  · have hsituated : SelectorFrame s (s.situated new) :=
      ⟨⟨Control.queueAll_rate .., Control.queueAll_rx .., rfl, rfl, rfl⟩, ⟨rfl, rfl⟩, ⟨rfl, rfl, rfl⟩, rfl⟩
    rw [State.takeSituation_changed h]
    exact (hsituated.trans (selectorFrame_rearm _)).trans (selectorFrame_reform _)

/-! ## Events that rank -/

/-- The selector `x` differs from `sel` in what the vehicle records make of it: the fields, the data flag, the creep flag and
the two timers beside them. -/
structure Selector.Observes (sel x : Selector) : Prop where
  situation : x.situation = sel.situation
  force : x.force = sel.force
  forceChange : x.forceChange = sel.forceChange
  kept : x.shown = sel.shown ∧ x.dwell = sel.dwell ∧ x.latch = sel.latch

/-- An event whose outcome on the state is known. -/
theorem unlessHeld_eq {s t : State} (hs : s.held = false) {f : State → State} (h : f s = t) :
    unlessHeld s f = .next t.drivePins := by
  rw [unlessHeld_live hs, h]

/-- The state with parameters, selector and control link replaced. -/
def State.observed (s : State) (q : Params) (x : Selector) (k : Control) : State :=
  { s with params := q, selector := x, control := k }

/-- What an event leaves that makes the selector `x`, ranks the situation by the parameters `p`, and has the control link `k`
before the reports. -/
structure Ranked (s t : State) (p : SituationParams) (x : Selector) (k : Control) : Prop where
  selector : t.selector = x.ranked p
  follows : SituationFollowed s t k
  frame : SelectorFrame s t

section
variable {s : State} {q : Params} {x : Selector}

theorem Ranked.situation {t : State} {p : SituationParams} {k : Control} (h : Ranked s t p x k) :
    t.selector.situation = rankSituation p t.selector := by
  rw [h.selector, rankSituation_ranked]
  rfl

/-- The reports of a ranking from the state `s` into the state `t`: a force that ends, then the hazard zone list (R128,
R142, log 11). -/
def rankReports (s t : State) : List Report := overrideReport s.selector t.selector ++ hazardReport s t

theorem reports_observed (hx : s.selector.Observes x) (k : Control) : (s.observed q x k).rerank.control =
    k.queueAll (rankReports s (s.observed q x k).rerank) := by
  have hreport : ∀ after, overrideReport x after = overrideReport s.selector after := fun after => by
    rw [overrideReport, hx.force, overrideReport]
  rw [State.rerank, State.takeSituation_control, rankReports, State.takeSituation_selector]
  exact congrArg (fun rs => k.queueAll (rs ++ _)) (hreport _)

theorem selectorFrame_observed (hx : s.selector.Observes x) {k : Control} (hrate : k.rate = s.control.rate)
    (hrx : k.rx = s.control.rx) : SelectorFrame s (s.observed q x k) :=
  ⟨⟨hrate, hrx, rfl, rfl, rfl⟩, ⟨rfl, rfl⟩, hx.kept, rfl⟩

/-- The reports of a ranking go behind whatever the control link holds. -/
theorem ranked_observed (hx : s.selector.Observes x) {k k' : Control} (hk : k.rate = s.control.rate)
    (hkx : k.rx = s.control.rx) (hrate : k'.rate = s.control.rate) (hrx : k'.rx = s.control.rx) :
    Ranked s (State.drivePins { (s.observed q x k).rerank with
      control := k'.queueAll (rankReports s (s.observed q x k).rerank) }) q.situation x k' where
  selector := State.takeSituation_selector ..
  follows := by
    have hselector : (s.observed q x k).rerank.selector = x.ranked q.situation := State.takeSituation_selector ..
    have hheld : x.heldForce (rankSituation q.situation x) = s.selector.heldForce (rankSituation q.situation x) := by
      rw [Selector.heldForce, hx.situation, hx.force, Selector.heldForce]
    refine ⟨?_, ?_, fun w => ?_, rfl⟩
    · rw [State.drivePins_selector, hselector]
      exact hheld
    · rw [State.drivePins_selector, hselector, ← hx.force, ← hx.forceChange]
      rfl
    · rw [State.drivePins_zone, State.drivePins_selector, hselector, ← hx.situation]
      exact State.takeSituation_zone ..
  frame := ((selectorFrame_observed hx hk hkx).trans (selectorFrame_takeSituation ..)).withControl
    ((Control.queueAll_rate ..).trans hrate) ((Control.queueAll_rx ..).trans hrx) |>.drivePins

/-- A request that changes the selector to `x` and ranks: its reports follow its reply (R139, R165, R167). -/
theorem request_ranks {r : Instr} (h : Takes s r) {kind tag : Byte} {f : State → Answer} {st : Status} {data : ReplyData}
    (hx : s.selector.Observes x) (hf : ∀ k, f { s with control := k } = ⟨st, data, (s.observed q x k).rerank⟩) :
    ∃ t, request r kind tag f s = .next t ∧ t.params = q
      ∧ Ranked s t q.situation x (s.control.replied kind tag st data) := by
  obtain ⟨k, hrate, hrx, hexec⟩ := request_reports h hf (kind := kind) (tag := tag) fun k => reports_observed hx k
  exact ⟨_, hexec, (selectorOnly_rerank (s.observed q x k)).params, ranked_observed hx hrate hrx
    (Control.replied_rate ..) (Control.replied_rx ..)⟩

/-- An event that changes the selector to `x` and ranks. -/
theorem unlessHeld_ranks (hs : s.held = false) {f : State → State} (hx : s.selector.Observes x)
    (hf : f s = (s.observed s.params x s.control).rerank) :
    ∃ t, unlessHeld s f = .next t ∧ t.params = s.params ∧ Ranked s t s.params.situation x s.control := by
  have hranked := ranked_observed (q := s.params) hx (k := s.control) rfl rfl (k' := s.control) rfl rfl
  rw [← reports_observed hx, ← hf] at hranked
  refine ⟨_, unlessHeld_live hs f, ?_, hranked⟩
  rw [hf]
  exact (selectorOnly_rerank (s.observed s.params x s.control)).params

end

end Sys2Proof.Machine
end

section
/-! PROOF. Vehicle records, the timers of the selector and its parameters (R132 to R139, R144). -/

namespace Sys2Proof.Machine

/-! ## The table of the situations (R137) -/

/-- No situation of a lower code than `x` is in `P`. -/
def NoneBelow (P : Situation → Prop) (x : Situation) : Prop :=
  ∀ y, (situationCode y).val < (situationCode x).val → ¬P y

theorem noneBelow_noData (P : Situation → Prop) : NoneBelow P .noData := fun _ hy => nomatch hy

theorem situation_of_code (x : Situation) :
    [.noData, .reverse, .lift, .stepRide, .kerbTurn, .parked, .creep, .cruise][(situationCode x).val]? = some x := by
  cases x <;> rfl

theorem situationCode_inj {x y : Situation} (h : (situationCode x).val = (situationCode y).val) : x = y :=
  Option.some.inj ((situation_of_code x).symm.trans (h ▸ situation_of_code y))

/-- `x` is the situation of the lowest code in `P`. -/
def IsFirst (P : Situation → Prop) (x : Situation) : Prop := P x ∧ NoneBelow P x

/-- A line of the table: its situation where its condition holds, and otherwise what the later lines say. -/
theorem IsFirst.line {P : Situation → Prop} {x y z : Situation} {c : Prop} [Decidable c] (hc : c ↔ P x)
    (hx : NoneBelow P x) (hlater : NoneBelow P y → IsFirst P z)
    (hnext : (situationCode y).val = (situationCode x).val + 1 := by rfl) : IsFirst P (if c then x else z) := by
  by_cases hmet : c
  · rw [if_pos hmet]
    exact ⟨hc.mp hmet, hx⟩
  · rw [if_neg hmet]
    refine hlater fun w hw => ?_
    obtain hlt | heq := Nat.lt_or_eq_of_le (Nat.le_of_lt_succ (hnext ▸ hw))
    · exact hx w hlt
    · exact situationCode_inj heq ▸ fun hp => hmet (hc.mpr hp)

theorem isMoving_iff (v : Vehicle) : isMoving v = true ↔ v.speed ≠ some 0 := by
  unfold isMoving
  cases v.speed with
  | none => simp
  | some k => simp [Nat.pos_iff_ne_zero]

/-- The condition of each line of the table. -/
def Selector.Meets (p : SituationParams) (sel : Selector) (x : Situation) : Prop :=
  match x with
  | .noData => sel.fresh = false
  | .reverse => sel.vehicle.gear = some .reverse
  | .lift => sel.vehicle.lift = some .active ∧ ∃ k, sel.vehicle.speed = some k ∧ k ≤ p.liftSpeed
  | .stepRide => sel.vehicle.step = some .occupied ∧ sel.vehicle.speed ≠ some 0
  | .kerbTurn =>
    (sel.vehicle.kerb = some .on ∨ sel.turnDwell ≠ none) ∧ ∀ k, sel.vehicle.speed = some k → k ≤ p.turnSpeed
  | .parked => sel.vehicle.gear = some .park
  | .creep => sel.creep = true
  | .cruise => True

section
variable (p : SituationParams) (sel : Selector)

theorem meets_lift_iff : sel.Meets p .lift ↔
    sel.vehicle.lift = some .active ∧ sel.vehicle.speed.any (fun k => k ≤ p.liftSpeed) = true := by
  simp [Selector.Meets, Option.any_eq_true]

theorem meets_stepRide_iff : sel.Meets p .stepRide ↔
    sel.vehicle.step = some .occupied ∧ isMoving sel.vehicle = true := by
  rw [isMoving_iff]
  rfl

theorem meets_kerbTurn_iff : sel.Meets p .kerbTurn ↔ (sel.vehicle.kerb = some .on ∨ sel.turnDwell.isSome = true)
    ∧ sel.vehicle.speed.all (fun k => k ≤ p.turnSpeed) = true := by
  simp [Selector.Meets, Option.isSome_iff_ne_none, Option.all_eq_true]

theorem rankSituation_first : IsFirst (sel.Meets p) (rankSituation p sel) := by
  have hfresh : (!sel.fresh) = true ↔ sel.Meets p .noData := by simp [Selector.Meets]
  exact .line hfresh (noneBelow_noData _) fun h => .line .rfl h fun h => .line (meets_lift_iff p sel).symm h fun h =>
    .line (meets_stepRide_iff p sel).symm h fun h => .line (meets_kerbTurn_iff p sel).symm h fun h => .line .rfl h fun h =>
    .line .rfl h fun h => ⟨trivial, h⟩

end

/-! ## Vehicle records (R132, R133) -/

/-- A record replaces what the ranking reads. -/
theorem observes_takeRecord (sel : Selector) (p : SituationParams) (r : Vehicle) : sel.Observes (sel.takeRecord p r) :=
  ⟨rfl, rfl, rfl, rfl, rfl, rfl⟩

theorem vehicleState_taken {record : List Byte} {r : Vehicle} {clamped : Bool} (h : readVehicle record = .taken r clamped)
    (s : State) (k : Control) :
    let x := s.selector.takeRecord s.params.situation r
    let after := x.ranked s.params.situation
    vehicleState record { s with control := k } = ⟨if clamped then .okClamped else .ok,
      .vehicle after.situation (requestedView after s.views.live), (s.observed s.params x k).rerank⟩ := by
  intro x after
  have harrives : State.vehicleArrives { s with control := k } r = (s.observed s.params x k).rerank := rfl
  have hselector : (s.observed s.params x k).rerank.selector = after := State.takeSituation_selector ..
  have hviews : (s.observed s.params x k).rerank.views = s.views := (selectorOnly_rerank _).views
  unfold vehicleState
  rw [h]
  dsimp only
  rw [harrives, hselector, hviews]
  rfl

theorem vehicleState_badValue {record : List Byte} (h : readVehicle record = .badValue) (s : State) :
    vehicleState record s = refuse .badValue s := by
  unfold vehicleState
  rw [h]

theorem vehicleState_badLength {record : List Byte} (h : readVehicle record = .badLength) (s : State) :
    vehicleState record s = refuse .badLength s := by
  unfold vehicleState
  rw [h]

/-- Settles O48: the record makes the selector, the ranking follows, and the table has the meaning of R137. -/
theorem vehicleRecordIsTaken : Obligations.VehicleRecordIsTaken := by
  refine ⟨fun s tag record r clamped ht hread => ?_, fun s tag record ht => ⟨fun hread => ?_, fun hread => ?_⟩,
    rankSituation_first⟩
  · obtain ⟨t, hexec, hparams, hranked⟩ := request_ranks ht (kind := 0x14) (tag := tag)
      (observes_takeRecord s.selector s.params.situation r) (vehicleState_taken hread s)
    have hfollows := hranked.follows
    rw [← hranked.selector] at hfollows
    refine ⟨t, hexec, ?_, ?_, ?_, ?_, ?_, hranked.situation, hfollows, hparams, hranked.frame⟩ <;>
      rw [hranked.selector] <;> rfl
  · exact request_refused ht fun k => vehicleState_badValue hread _
  · exact request_refused ht fun k => vehicleState_badLength hread _

/-! ## The selector's timers (R134, R136, R144) -/

theorem Selector.heldForce_noData (sel : Selector) : sel.heldForce .noData = sel.force := by
  unfold Selector.heldForce
  split
  · rfl
  · cases sel.force <;> simp [outranks, situationCode]

theorem State.vehicleTimeout_due {s : State} (h : s.selector.timeout = some 0) :
    s.vehicleTimeout = (s.observed s.params s.selector.goStale s.control).rerank := if_pos h

theorem State.vehicleTimeout_notDue {s : State} (h : s.selector.timeout ≠ some 0) : s.vehicleTimeout = s := if_neg h

theorem State.turnDwellExpires_due {s : State} (h : s.selector.turnDwell = some 0) : s.turnDwellExpires =
    (s.observed s.params { s.selector with turnDwell := none } s.control).rerank := if_pos h

theorem State.turnDwellExpires_notDue {s : State} (h : s.selector.turnDwell ≠ some 0) : s.turnDwellExpires = s := if_neg h

theorem State.viewDwellExpires_due {s : State} (h : s.selector.dwell = some 0) :
    s.viewDwellExpires = { s with selector := { s.selector with dwell := none } } := if_pos h

theorem State.viewDwellExpires_notDue {s : State} (h : s.selector.dwell ≠ some 0) : s.viewDwellExpires = s := if_neg h

/-! ## The situation group (R139, R170) -/

theorem clampSituation_eq (p : SituationParams) : clampSituation p =
    (let enter := min 30 (max 0 p.creepEnter)
    let leave := min 40 (max 1 p.creepLeave)
    ⟨min 2000 (max 100 p.vehTimeout), min 10000 (max 0 p.turnDwell), min 5000 (max 0 p.viewMinDwell),
      min 15 (max 0 p.liftSpeed), min 60 (max 0 p.turnSpeed), enter, if leave ≤ enter then enter + 1 else leave⟩) := rfl

theorem clampSituation_creep (p : SituationParams) : (clampSituation p).creepEnter < (clampSituation p).creepLeave := by
  rw [clampSituation_eq]
  dsimp only
  split <;> omega

/-- The selector with the creep flag judged by new parameters (R139). -/
def Selector.rejudged (sel : Selector) (q : SituationParams) : Selector :=
  { sel with creep := judgeCreep q sel.vehicle.speed sel.creep }

theorem setParametersSituation_eq (p : SituationParams) (s : State) (k : Control) :
    setParametersSituation p { s with control := k } =
      ⟨if clampSituation p = p then .ok else .okClamped, .situation (clampSituation p),
        (s.observed { s.params with situation := clampSituation p } (s.selector.rejudged (clampSituation p))
          k).rerank⟩ := by
  rw [← statusOf_ne]
  rfl

/-- Settles O50: each timer by whether it has run out, and the stored parameters with the ranking behind them. -/
theorem selectorTimersAndParameters : Obligations.SelectorTimersAndParameters := by
  refine ⟨fun s hs => ⟨fun hdue => ?_, fun hdue => ?_, fun hdue => ?_, fun hrun => ?_, fun hrun => ?_, fun hrun => ?_⟩,
    fun s tag p q ht hq => ?_⟩
  · obtain ⟨t, hexec, hparams, hranked⟩ := unlessHeld_ranks hs (f := State.vehicleTimeout) (x := s.selector.goStale)
      ⟨rfl, rfl, rfl, rfl, rfl, rfl⟩ (State.vehicleTimeout_due hdue)
    have hforce : t.selector.force = s.selector.force := by
      rw [hranked.selector]
      exact s.selector.goStale.heldForce_noData
    refine ⟨t, hexec, ?_, ?_, ?_, ?_, ?_, ?_, hforce, hranked.follows, hparams, hranked.frame⟩ <;>
      rw [hranked.selector] <;> rfl
  · obtain ⟨t, hexec, hparams, hranked⟩ := unlessHeld_ranks hs (f := State.turnDwellExpires)
      (x := { s.selector with turnDwell := none }) ⟨rfl, rfl, rfl, rfl, rfl, rfl⟩ (State.turnDwellExpires_due hdue)
    refine ⟨t, hexec, ?_, ?_, hranked.situation, ?_, ?_, ?_, hranked.follows, hparams, hranked.frame⟩ <;>
      rw [hranked.selector] <;> rfl
  · exact unlessHeld_eq hs (State.viewDwellExpires_due hdue)
  · exact unlessHeld_eq hs (State.vehicleTimeout_notDue hrun)
  · exact unlessHeld_eq hs (State.turnDwellExpires_notDue hrun)
  · exact unlessHeld_eq hs (State.viewDwellExpires_notDue hrun)
  · obtain rfl : q = clampSituation p := hq
    obtain ⟨t, hexec, hparams, hranked⟩ := request_ranks ht (kind := 0x03) (tag := tag)
      (x := s.selector.rejudged (clampSituation p)) ⟨rfl, rfl, rfl, rfl, rfl, rfl⟩ (setParametersSituation_eq p s)
    refine ⟨t, hexec, hparams, clampSituation_creep p, ?_, hranked.situation, ?_, ?_, ?_, ?_, hranked.follows,
      hranked.frame⟩ <;> rw [hranked.selector] <;> rfl

end Sys2Proof.Machine
end

section
/-! PROOF. Forces: FORCE VIEW, RELEASE VIEW and the force timer (R141, R142). -/

namespace Sys2Proof.Machine

/-- The FORCE ENDED report of a force that ends, none without a force (R142). -/
def Selector.endReport (sel : Selector) (cause : ForceCause) : List Report :=
  sel.force.toList.map fun f => .forceEnded f.view f.ceiling cause sel.situation

theorem Selector.endReport_none (sel : Selector) (h : sel.force = none) (cause : ForceCause) : sel.endReport cause = [] := by
  rw [Selector.endReport, h]
  rfl

theorem Selector.endReport_some (sel : Selector) {f : Force} (h : sel.force = some f) (cause : ForceCause) :
    sel.endReport cause = [.forceEnded f.view f.ceiling cause sel.situation] := by
  rw [Selector.endReport, h]
  rfl

/-- A request that changes the selector and queues reports. -/
theorem request_selects {s : State} {r : Instr} (h : Takes s r) {kind tag : Byte} {f : State → Answer} {st : Status}
    {x : Selector} {rs : List Report}
    (hf : ∀ k, f { s with control := k } = ⟨st, .none, { s with selector := x, control := k.queueAll rs }⟩) :
    request r kind tag f s = .next (State.drivePins { s with
      selector := x, control := (s.control.replied kind tag st .none).queueAll rs }) := by
  obtain ⟨k, -, -, hexec⟩ := request_reports h hf (kind := kind) (tag := tag) (rs := fun _ => rs) fun _ => rfl
  exact hexec

/-! ## FORCE VIEW (R141) -/

theorem outranks_iff {sit : Situation} {ceiling : Fin 8} : outranks sit ceiling = true ↔
    1 ≤ (situationCode sit).val ∧ (situationCode sit).val ≤ ceiling.val := by
  simp [outranks]

/-- The selector with the force that FORCE VIEW asks for. -/
def Selector.forced (sel : Selector) (v : ViewId) (ceiling : Fin 8) (seconds : Nat) : Selector :=
  { sel with
    force := some ⟨v, ceiling, if seconds = 0 then none else some (1000 * seconds)⟩, forceChange := true }

theorem forceView_badValue {f : ForceFields} (h : 8 ≤ f.view ∨ 8 ≤ f.ceiling) (s : State) :
    forceView f s = refuse .badValue s := by
  unfold forceView
  split
  · next v c hv hc =>
    rw [index?_eq_some] at hv hc
    omega
  · rfl

section
variable {f : ForceFields} {v ceiling : Fin 8} (hv : f.view = v.val) (hc : f.ceiling = ceiling.val)
include hv hc

theorem forceView_badState {s : State} (h : outranks s.selector.situation ceiling = true) :
    forceView f s = refuse .badState s := by
  unfold forceView
  rw [hv, hc, index?_val, index?_val]
  exact if_pos h

theorem forceView_taken {s : State} (h : outranks s.selector.situation ceiling ≠ true) (k : Control) :
    forceView f { s with control := k } = ⟨if f.timeout ≤ 600 then .ok else .okClamped, .none,
      { s with
        selector := s.selector.forced v ceiling (min 600 f.timeout)
        control := k.queueAll (s.selector.endReport .replaced) }⟩ := by
  have hstatus : statusOf (decide (600 < f.timeout)) = if f.timeout ≤ 600 then .ok else .okClamped := by
    by_cases hle : f.timeout ≤ 600 <;> simp [statusOf, hle]
  unfold forceView
  rw [hv, hc, index?_val, index?_val]
  dsimp only
  rw [if_neg h, hstatus]
  cases hforce : s.selector.force with
  | none =>
    rw [State.endForce_none (s := { s with control := k }) hforce, s.selector.endReport_none hforce]
    rfl
  | some old =>
    rw [State.endForce_some (s := { s with control := k }) hforce, s.selector.endReport_some hforce]
    rfl

end

/-! ## The end of a force (R142) -/

theorem releaseView_taken {s : State} {f : Force} (h : s.selector.force = some f) (k : Control) :
    releaseView () { s with control := k } = ⟨.ok, .none, { s with
      selector := { s.selector with force := none, forceChange := true }
      control := k.queueAll [.forceEnded f.view f.ceiling .released s.selector.situation] }⟩ := by
  unfold releaseView
  rw [if_pos (by simp [h]), State.endForce_some (s := { s with control := k }) h]
  rfl

theorem releaseView_notFound {s : State} (h : s.selector.force = none) : releaseView () s = refuse .notFound s :=
  if_neg (by simp [h])

theorem State.forceTimerExpires_due {s : State} {f : Force} (h : s.selector.force = some f) (hdue : f.timer = some 0) :
    s.forceTimerExpires = { s with
      selector := { s.selector with force := none, forceChange := true }
      control := s.control.queueReport (.forceEnded f.view f.ceiling .timeout s.selector.situation) } := by
  unfold State.forceTimerExpires
  rw [if_pos (by simp [h, hdue]), State.endForce_some h]

theorem State.forceTimerExpires_notDue {s : State} (h : ∀ f, s.selector.force = some f → f.timer ≠ some 0) :
    s.forceTimerExpires = s := by
  refine if_neg fun hdue => ?_
  obtain ⟨f, hf, htimer⟩ := (Option.any_eq_true ..).mp hdue
  exact h f hf (of_decide_eq_true htimer)

/-- Settles O51: FORCE VIEW by its checks, and the ways a force ends. -/
theorem forcesStartAndEnd : Obligations.ForcesStartAndEnd := by
  refine ⟨fun s tag f ht => ⟨fun hrange => ?_, fun v ceiling hv hc => ?_⟩,
    fun s tag => ⟨fun f ht hf => ?_, fun ht hf => ?_, fun f hs hf hdue => ?_, fun hs hrun => ?_⟩⟩
  · exact request_refused ht fun k => forceView_badValue hrange _
  · by_cases hrank : outranks s.selector.situation ceiling = true
    · dsimp only
      rw [if_pos (outranks_iff.mp hrank)]
      exact request_refused ht fun k => forceView_badState hv hc hrank
    · have hexec := request_selects ht (kind := 0x15) (tag := tag) (forceView_taken hv hc hrank)
      dsimp only
      rw [if_neg (outranks_iff.not.mp hrank)]
      cases hforce : s.selector.force with
      | none =>
        rw [s.selector.endReport_none hforce] at hexec
        exact hexec
      | some old =>
        rw [s.selector.endReport_some hforce] at hexec
        exact hexec
  · exact request_selects ht (releaseView_taken hf)
  · exact request_refused ht fun k => releaseView_notFound hf
  · exact unlessHeld_eq hs (State.forceTimerExpires_due hf hdue)
  · exact unlessHeld_eq hs (State.forceTimerExpires_notDue hrun)

end Sys2Proof.Machine
end

section
/-! PROOF. The bytes of a vehicle state record (R132, R169). -/

namespace Sys2Proof.Machine

/-! ## Codes (R169) -/

/-- The code of a gear. -/
def gearByte : Gear → Byte
  | .forward => 0
  | .neutral => 1
  | .reverse => 2
  | .park => 3

/-- The code of a kerb indicator. -/
def kerbByte : Kerb → Byte
  | .off => 0
  | .on => 1

/-- The code of a lift. -/
def liftByte : Lift → Byte
  | .idle => 0
  | .active => 1

/-- The code of a step. -/
def stepByte : Footstep → Byte
  | .empty => 0
  | .occupied => 1

theorem gearOf?_gearByte (g : Gear) : gearOf? (gearByte g) = some g := by cases g <;> rfl

theorem kerbOf?_kerbByte (k : Kerb) : kerbOf? (kerbByte k) = some k := by cases k <;> rfl

theorem liftOf?_liftByte (l : Lift) : liftOf? (liftByte l) = some l := by cases l <;> rfl

theorem stepOf?_stepByte (f : Footstep) : stepOf? (stepByte f) = some f := by cases f <;> rfl

section
variable {b : Byte}

theorem gearOf?_eq_none (h : 4 ≤ b.toNat) : gearOf? b = none := by
  obtain ⟨n, hn⟩ := Nat.exists_eq_add_of_le' h
  rw [gearOf?, hn]
  rfl

theorem kerbOf?_eq_none (h : 2 ≤ b.toNat) : kerbOf? b = none := by
  obtain ⟨n, hn⟩ := Nat.exists_eq_add_of_le' h
  rw [kerbOf?, hn]
  rfl

theorem liftOf?_eq_none (h : 2 ≤ b.toNat) : liftOf? b = none := by
  obtain ⟨n, hn⟩ := Nat.exists_eq_add_of_le' h
  rw [liftOf?, hn]
  rfl

theorem stepOf?_eq_none (h : 2 ≤ b.toNat) : stepOf? b = none := by
  obtain ⟨n, hn⟩ := Nat.exists_eq_add_of_le' h
  rw [stepOf?, hn]
  rfl

end

/-! ## The fields of a record -/

/-- The reading of a record from the bytes of its fields. -/
def readFields (speed gear kerb lift step : Option Byte) : VehicleReading :=
  match decodeField gearOf? gear, decodeField kerbOf? kerb, decodeField liftOf? lift, decodeField stepOf? step with
  | some g, some k, some l, some st =>
    .taken ⟨speed.map fun b => min b.toNat 250, g, k, l, st⟩ (speed.any fun b => 250 < b.toNat)
  | _, _, _, _ => .badValue

/-- Fields of which each holds a code, or is absent. -/
theorem readFields_codes (speed : Option Byte) (g : Option Gear) (k : Option Kerb) (l : Option Lift) (f : Option Footstep) :
    readFields speed (g.map gearByte) (k.map kerbByte) (l.map liftByte) (f.map stepByte) =
      .taken ⟨speed.map fun b => min b.toNat 250, g, k, l, f⟩ (speed.any fun b => 250 < b.toNat) := by
  unfold readFields
  rw [decodeField_map fun g _ => gearOf?_gearByte g, decodeField_map fun k _ => kerbOf?_kerbByte k,
    decodeField_map fun l _ => liftOf?_liftByte l, decodeField_map fun f _ => stepOf?_stepByte f]

/-- A code that is none of its field's (R169). -/
theorem readFields_badValue {speed gear kerb lift step : Option Byte}
    (h : decodeField gearOf? gear = none ∨ decodeField kerbOf? kerb = none ∨ decodeField liftOf? lift = none
      ∨ decodeField stepOf? step = none) : readFields speed gear kerb lift step = .badValue := by
  unfold readFields
  split
  · next hg hk hl hf => simp [hg, hk, hl, hf] at h
  · rfl

/-! ## The record by its presence byte -/

theorem readVehicle_presence {presence : Byte} (h : 32 ≤ presence.toNat) (rest : List Byte) :
    readVehicle (presence :: rest) = .badValue := if_pos h

theorem fieldCount_eq (presence : Byte) :
    fieldCount presence = ([0, 1, 2, 3, 4].filter fun i => presence.getLsbD i).length := List.countP_eq_length_filter

theorem readVehicle_length {presence : Byte} {rest : List Byte} (h : presence.toNat < 32)
    (hlength : rest.length ≠ fieldCount presence) : readVehicle (presence :: rest) = .badLength := by
  have hbits : ¬32 ≤ presence.toNat := by omega
  exact (if_neg hbits).trans (if_pos hlength)

section
variable (a b c d e : Byte)

theorem readVehicle_all : readVehicle [0x1F, a, b, c, d, e] = readFields (some a) (some b) (some c) (some d) (some e) := rfl

theorem readVehicle_speed : readVehicle [0x01, a] = readFields (some a) none none none none := rfl

theorem readVehicle_gear : readVehicle [0x02, b] = readFields none (some b) none none none := rfl

theorem readVehicle_kerb : readVehicle [0x04, c] = readFields none none (some c) none none := rfl

theorem readVehicle_lift : readVehicle [0x08, d] = readFields none none none (some d) none := rfl

theorem readVehicle_kerbLift : readVehicle [0x0C, c, d] = readFields none none (some c) (some d) none := rfl

theorem readVehicle_step : readVehicle [0x10, e] = readFields none none none none (some e) := rfl

theorem readVehicle_none : readVehicle [0x00] = readFields none none none none none := rfl

end

/-- Settles O49: each record is the reading of the fields that its presence byte names. -/
theorem vehicleRecordLayout : Obligations.VehicleRecordLayout := by
  intro speed gear kerb lift foot
  refine ⟨?_, ?_, ?_, ?_, ?_, ?_, fun b => ⟨fun hb => ?_, fun hb => ⟨?_, ?_, ?_⟩⟩, rfl, fun presence rest =>
    ⟨fun hbits => readVehicle_presence hbits rest, fun hbits hlength => ?_⟩⟩
  · exact (readVehicle_all ..).trans (readFields_codes (some speed) (some gear) (some kerb) (some lift) (some foot))
  · exact (readVehicle_speed ..).trans (readFields_codes (some speed) none none none none)
  · exact (readVehicle_gear ..).trans (readFields_codes none (some gear) none none none)
  · exact (readVehicle_kerbLift ..).trans (readFields_codes none none (some kerb) (some lift) none)
  · exact (readVehicle_step ..).trans (readFields_codes none none none none (some foot))
  · exact readVehicle_none.trans (readFields_codes none none none none none)
  · have hcode := decodeField_eq_none ⟨b, rfl, gearOf?_eq_none hb⟩
    exact (readVehicle_gear b).trans (readFields_badValue (.inl hcode))
  · have hcode := decodeField_eq_none ⟨b, rfl, kerbOf?_eq_none hb⟩
    exact (readVehicle_kerb b).trans (readFields_badValue (.inr (.inl hcode)))
  · have hcode := decodeField_eq_none ⟨b, rfl, liftOf?_eq_none hb⟩
    exact (readVehicle_lift b).trans (readFields_badValue (.inr (.inr (.inl hcode))))
  · have hcode := decodeField_eq_none ⟨b, rfl, stepOf?_eq_none hb⟩
    exact (readVehicle_step b).trans (readFields_badValue (.inr (.inr (.inr hcode))))
  · rw [← fieldCount_eq] at hlength
    exact readVehicle_length hbits hlength

end Sys2Proof.Machine
end

section
/-! PROOF. What the laws of the cadence generator read (R155, R157, R158), as one value, and which changes of a state keep the
two laws: combined triggers that are as their inputs give them, and a silenced BUZZ channel that is DONE. -/

namespace Sys2Proof.Machine

/-! ## The combined trigger (R155, R159) -/

/-- A trigger that the mask selects holds. -/
theorem combinedTrigger_iff (s : State) (mask : TriggerMask) : combinedTrigger s mask = true ↔ s.mode = .run
    ∧ (mask.hazard = true ∧ s.zones.hazard = true
      ∨ mask.cameraDown = true ∧ (∃ c, (s.port c).enabled = true
          ∧ ((s.store c).health = .absent ∨ (s.store c).health = .frozen))
      ∨ mask.obscured = true ∧ (∃ c, (s.clarity c).state = .obscured)
      ∨ mask.noData = true ∧ s.selector.situation = .noData) := by
  have hdown : cameraDown s.ports s.stores = true ↔ ∃ c, (s.port c).enabled = true
      ∧ ((s.store c).health = .absent ∨ (s.store c).health = .frozen) := by
    simp [cameraDown, State.port, State.store, mem_allCams]
  have hobscured : anyObscured s.clarities = true ↔ ∃ c, (s.clarity c).state = .obscured := by
    simp [anyObscured, State.clarity, mem_allCams]
  simp only [combinedTrigger, Bool.and_eq_true, Bool.or_eq_true, decide_eq_true_iff, hdown, hobscured, or_assoc]

/-- Outside RUN no trigger holds (R159). -/
theorem combinedTrigger_of_mode {s : State} (h : s.mode ≠ .run) (mask : TriggerMask) : combinedTrigger s mask = false :=
  Bool.eq_false_iff.mpr fun ht => h ((combinedTrigger_iff s mask).mp ht).1

/-- What the combined triggers are formed of, and the two channels. -/
structure CadenceView where
  mode : OpMode
  hazard : Bool
  situation : Situation
  enabled : Cam → Bool
  health : Cam → Health
  clarity : Cam → ClarityState
  blink : Channel
  buzz : Channel

def State.cadenceView (s : State) : CadenceView where
  mode := s.mode
  hazard := s.zones.hazard
  situation := s.selector.situation
  enabled c := (s.port c).enabled
  health c := (s.store c).health
  clarity c := (s.clarity c).state
  blink := s.cadence.blink
  buzz := s.cadence.buzz

theorem combinedTrigger_congr {s t : State} (h : t.cadenceView = s.cadenceView) (mask : TriggerMask) :
    combinedTrigger t mask = combinedTrigger s mask := by
  simp only [State.cadenceView, CadenceView.mk.injEq, funext_iff] at h
  obtain ⟨hmode, hhazard, hsituation, henabled, hhealth, hclarity, -⟩ := h
  rw [Bool.eq_iff_iff, combinedTrigger_iff, combinedTrigger_iff]
  simp only [hmode, hhazard, hsituation, henabled, hhealth, hclarity]

/-! ## A silenced channel (R157) -/

/-- A channel that has been silenced is DONE. -/
def Channel.SilenceLaw (ch : Channel) : Prop := ch.silenced = true → ch.state = .done

/-- A silenced BUZZ channel is DONE: the part of the buzzer's law that no pin shows. -/
def State.SilenceLaw (s : State) : Prop := s.cadence.buzz.SilenceLaw

namespace Channel.SilenceLaw

section
variable {ch : Channel}

theorem silenced_eq_false (h : ch.SilenceLaw) (hs : ch.state ≠ .done) : ch.silenced = false :=
  Bool.eq_false_iff.mpr fun hq => hs (h hq)

theorem of_silenced (h : ch.silenced = false) : ch.SilenceLaw := fun hs => absurd (h.symm.trans hs) Bool.false_ne_true

theorem retrigger (h : ch.SilenceLaw) (b : Bool) : (ch.retrigger b).SilenceLaw := by
  unfold Channel.retrigger
  split
  · exact h
  · next hchange =>
    split
    · next hidle => exact of_silenced (h.silenced_eq_false (by simp [hidle]))
    · exact of_silenced rfl
    · exact of_silenced rfl
    · exact h

theorem onExpires (h : ch.SilenceLaw) : ch.onExpires.SilenceLaw := by
  unfold Channel.onExpires
  split
  · next hon =>
    have hq := h.silenced_eq_false (by simp [hon.1])
    split
    · exact of_silenced rfl
    · split <;> exact of_silenced hq
  · exact h

theorem offExpires (h : ch.SilenceLaw) : ch.offExpires.SilenceLaw := by
  unfold Channel.offExpires
  split
  · next hoff => exact of_silenced (h.silenced_eq_false (by simp [hoff.1]))
  · exact h

theorem silence (h : ch.SilenceLaw) : ch.silence.SilenceLaw := by
  unfold Channel.silence
  split
  · split
    · exact fun _ => rfl
    · exact of_silenced rfl
  · exact fun _ => rfl
  · exact h
  · exact h

end

end Channel.SilenceLaw

/-! ## Changes that keep the laws -/

/-- Each of the two laws that holds in `s` holds in `t`. -/
structure CadenceKept (s t : State) : Prop where
  trigger : s.TriggerLaw → t.TriggerLaw
  silence : s.SilenceLaw → t.SilenceLaw

namespace CadenceKept

theorem refl (s : State) : CadenceKept s s := ⟨id, id⟩

theorem trans {s t u : State} (a : CadenceKept s t) (b : CadenceKept t u) : CadenceKept s u :=
  ⟨b.trigger ∘ a.trigger, b.silence ∘ a.silence⟩

theorem foldl {α : Type} {f : State → α → State} (h : ∀ t a, CadenceKept t (f t a)) (l : List α) (s : State) :
    CadenceKept s (l.foldl f s) := by
  induction l generalizing s with
  | nil => exact refl s
  | cons a l ih => exact (h s a).trans (ih (f s a))

theorem of_view {s t : State} (h : t.cadenceView = s.cadenceView) : CadenceKept s t := by
  have hblink : t.cadence.blink = s.cadence.blink := (congrArg CadenceView.blink h :)
  have hbuzz : t.cadence.buzz = s.cadence.buzz := (congrArg CadenceView.buzz h :)
  refine ⟨fun hs => ?_, fun hs => ?_⟩
  · unfold State.TriggerLaw at hs ⊢
    rwa [hblink, hbuzz, combinedTrigger_congr h, combinedTrigger_congr h]
  · unfold State.SilenceLaw at hs ⊢
    rwa [hbuzz]

/-- A change that is undone by putting back blocks of which the laws read nothing. -/
theorem of_rest {s t u : State} (h : u = s) (hu : u.cadenceView = t.cadenceView := by rfl) : CadenceKept s t :=
  of_view (hu.symm.trans (congrArg State.cadenceView h))

/-- Combined triggers re-formed are as their inputs give them, whatever came before. -/
theorem reform {s t : State} (h : s.SilenceLaw → t.SilenceLaw) : CadenceKept s t.reform :=
  ⟨fun _ => triggerLaw_reform t, fun hs => (h hs).retrigger _⟩

/-- A channel that keeps mask and trigger. -/
theorem setChannel {s : State} {id : ChannelId} {ch : Channel} (hmask : ch.mask = (s.channel id).mask)
    (htrigger : ch.trigger = (s.channel id).trigger) (hsilence : (s.channel id).SilenceLaw → ch.SilenceLaw) :
    CadenceKept s (s.setChannel id ch) := by
  cases id with
  | blink =>
    refine ⟨fun ⟨hblink, hbuzz⟩ => ⟨?_, hbuzz⟩, fun hs => hs⟩
    exact htrigger.trans (hblink.trans (congrArg (combinedTrigger s) hmask.symm))
  | buzz =>
    refine ⟨fun ⟨hblink, hbuzz⟩ => ⟨hblink, ?_⟩, hsilence⟩
    exact htrigger.trans (hbuzz.trans (congrArg (combinedTrigger s) hmask.symm))

/-- A channel whose trigger is as its mask gives it. -/
theorem setChannel_retrigger {s : State} {id : ChannelId} {ch : Channel}
    (hsilence : (s.channel id).SilenceLaw → ch.SilenceLaw) :
    CadenceKept s (s.setChannel id (ch.retrigger (combinedTrigger s ch.mask))) := by
  have htrigger : (ch.retrigger (combinedTrigger s ch.mask)).trigger
      = combinedTrigger s (ch.retrigger (combinedTrigger s ch.mask)).mask := by
    rw [Channel.retrigger_trigger, Channel.retrigger_mask]
  cases id with
  | blink => exact ⟨fun ⟨_, hbuzz⟩ => ⟨htrigger, hbuzz⟩, fun hs => hs⟩
  | buzz => exact ⟨fun ⟨hblink, _⟩ => ⟨hblink, htrigger⟩, fun hs => (hsilence hs).retrigger _⟩

/-! ### One entry of a block -/

section
variable {s : State} {c : Cam}

theorem setPort {p : Port} (h : p.enabled = (s.port c).enabled) : CadenceKept s (s.setPort c p) := by
  refine of_view ?_
  have hports : ∀ d, ((s.setPort c p).port d).enabled = (s.port d).enabled := fun d => by
    rw [State.port, State.setPort, look_put]
    split
    · next hd => rw [← hd, h]
    · rfl
  simp only [State.cadenceView, hports]
  rfl

theorem setStore {x : CamStore} (h : x.health = (s.store c).health) : CadenceKept s (s.setStore c x) := by
  refine of_view ?_
  have hstores : ∀ d, ((s.setStore c x).store d).health = (s.store d).health := fun d => by
    rw [State.store, State.setStore, look_put]
    split
    · next hd => rw [← hd, h]
    · rfl
  simp only [State.cadenceView, hstores]
  rfl

theorem setClarity {x : Clarity} (h : x.state = (s.clarity c).state) : CadenceKept s (s.setClarity c x) := by
  refine of_view ?_
  have hclarities : ∀ d, ((s.setClarity c x).clarity d).state = (s.clarity d).state := fun d => by
    rw [State.clarity, State.setClarity, look_put]
    split
    · next hd => rw [← hd, h]
    · rfl
  simp only [State.cadenceView, hclarities]
  rfl

/-- A health that changes re-forms the triggers (R37, R155). -/
theorem rederive : CadenceKept s (s.rederive c) := by
  unfold State.rederive
  dsimp only
  split
  · exact refl s
  · exact reform id

/-- A hazard list that changes re-forms the triggers (R128, R155). -/
theorem refreshHazard : CadenceKept s s.refreshHazard := by
  unfold State.refreshHazard
  dsimp only
  split
  · exact refl s
  · exact reform id

/-- A clarity state that changes re-forms the triggers (R121, R155). -/
theorem judgeClarity (cl : Clarity) : CadenceKept s (s.judgeClarity c cl) :=
  reform fun hs => (rederive (s := s.setClarity c cl)).silence hs

theorem count (e : StatEvent) : CadenceKept s (s.count e c) := of_view rfl

end

end CadenceKept

end Sys2Proof.Machine
end

section
/-! PROOF. Every event of a camera link keeps the laws of the cadence generator (R6, R8 to R27): what the triggers read changes
only where the event re-forms them. -/

namespace Sys2Proof.Machine

/-! ## ENABLED ports (R17) -/

@[simp] theorem Port.issue_enabled (p : Port) (r : BackRecord) : (p.issue r).enabled = p.enabled := by rw [Port.issue_eq]

@[simp] theorem Port.abandon_enabled (p : Port) : p.abandon.enabled = p.enabled := rfl

@[simp] theorem Port.begun_enabled (p : Port) (m : CamMode) (ms : Nat) : (p.begun m ms).enabled = p.enabled :=
  Port.issue_enabled ..

@[simp] theorem Port.offer_enabled (p : Port) (m : CamMode) (ms : Nat) : (p.offer m ms).enabled = p.enabled :=
  Port.issue_enabled ..

@[simp] theorem Port.requestExposure_enabled (p : Port) (r : Option BackRecord) :
    (p.requestExposure r).enabled = p.enabled :=
  (congrArg Port.enabled (p.requestExposure_rest r) :)

namespace CadenceKept

section
variable {s : State} {c : Cam}

/-! ## Link state changes (R8, R12, R17) -/

theorem queueReport (r : Report) : CadenceKept s (s.queueReport r) := of_view rfl

theorem setTone (x : Tone) : CadenceKept s (s.setTone c x) := of_view rfl

/-- Windows and zones, the hazard flag and its list apart. -/
theorem setMeasures (w : Vector Window 16) (z : Vector (Option Zone) 16) :
    CadenceKept s { s with windows := w, zones := { s.zones with zones := z } } :=
  of_view rfl

theorem leaveStreaming : CadenceKept s (s.leaveStreaming c) := by
  have hrest := linkOnly_leaveStreaming s c
  refine of_view ?_
  simp only [State.cadenceView, State.leaveStreaming_hazard, State.leaveStreaming_port, State.leaveStreaming_store,
    State.leaveStreaming_clarity, State.leaveStreaming_cadence, hrest.mode, hrest.selector]

theorem setLink (l : LinkState) (cause : LinkCause) : CadenceKept s (s.setLink c l cause) := by
  have hleft : CadenceKept s (if (s.port c).link = .streaming ∧ l ≠ .streaming then s.leaveStreaming c else s) := by
    split
    · exact leaveStreaming
    · exact refl s
  unfold State.setLink
  dsimp only
  generalize (if (s.port c).link = .streaming ∧ l ≠ .streaming then s.leaveStreaming c else s) = t at hleft ⊢
  have hlink : CadenceKept t (t.setPort c { t.port c with link := l }) := setPort (by rfl)
  exact ((hleft.trans hlink).trans (queueReport _)).trans rederive

/-- A port that goes OFF has its triggers re-formed once it is there (R120, R155). -/
theorem goOffUnlessOff (cause : LinkCause) : CadenceKept s (s.goOffUnlessOff c cause) := by
  unfold State.goOffUnlessOff State.goOff
  split
  · exact refl s
  · exact reform fun hs => (setLink .off cause).silence hs

theorem leaveOff : CadenceKept s (s.leaveOff c) := by
  unfold State.leaveOff
  dsimp only
  split
  · split
    · exact (setPort (by rfl)).trans (setLink ..)
    · exact setLink ..
  · exact refl s

theorem setPort_offeredStore {m : CamMode} {p : Port} (h : p.enabled = (s.port c).enabled) :
    CadenceKept s ((s.setStore c (s.offeredStore c m)).setPort c p) :=
  (setStore (s.offeredStore_health c m)).trans (setPort h)

theorem offer (m : CamMode) : CadenceKept s (s.offer c m) := by
  rw [State.offer_eq]
  exact setPort_offeredStore (Port.offer_enabled ..)

theorem beginSequence (m : CamMode) : CadenceKept s (s.beginSequence c m) := by
  rw [State.beginSequence_eq]
  exact setPort_offeredStore (Port.begun_enabled ..)

theorem enterRefused (cause : LinkCause) : CadenceKept s (s.enterRefused c cause) := (setPort (by rfl)).trans (setLink ..)

/-! ## Carrier, ANNOUNCE, training, back channel, preference (R6, R9 to R16) -/

theorem gainCarrier : CadenceKept s (s.gainCarrier c) := by
  unfold State.gainCarrier
  dsimp only
  split
  · exact (setPort (by rfl)).trans (setLink ..)
  · exact setPort (by rfl)

theorem loseCarrier : CadenceKept s (s.loseCarrier c) := by
  unfold State.loseCarrier
  dsimp only
  split
  case h_1 | h_2 => exact (setPort (by rfl)).trans (setLink ..)
  case h_3 | h_4 => exact ((setPort (by rfl)).trans (count ..)).trans (setLink ..)
  all_goals exact setPort (by rfl)

theorem announceArrives (r : AnnounceRecord) (good : Bool) : CadenceKept s (s.announceArrives c r good) := by
  unfold State.announceArrives
  dsimp only
  split
  · unfold State.takeAnnounce
    dsimp only
    split
    · exact (setPort (by rfl)).trans (enterRefused ..)
    · have hbegun : ∀ (p : Port) m, p.enabled = (s.port c).enabled → CadenceKept s ((s.setPort c p).beginSequence c m) :=
        fun _ m hp => (setPort hp).trans (beginSequence m)
      split
      · exact hbegun _ _ (by rfl)
      · exact (hbegun _ _ (by rfl)).trans (setLink ..)
  · exact refl s

theorem announceExpires : CadenceKept s (s.announceExpires c) := by
  unfold State.announceExpires
  dsimp only
  split
  · split
    · exact setPort (by simp)
    · exact (setPort (by rfl)).trans (enterRefused ..)
  · exact refl s

theorem judgeAttempt : CadenceKept s (s.judgeAttempt c) := by
  unfold State.judgeAttempt
  dsimp only
  split
  · exact ((setPort (by simp)).trans (setStore (by rfl))).trans (setLink ..)
  · have hretry : CadenceKept s ((s.setPort c (Port.issue { s.port c with trainTimer := none } .retry)).count .retrain c) :=
      (setPort (by simp)).trans (count ..)
    split
    · split
      · exact hretry
      · exact (hretry.trans (offer ..)).trans (setPort (by rfl))
    · exact hretry.trans (enterRefused ..)

theorem trainSegment (i : Nat) (good : Bool) : CadenceKept s (s.trainSegment c i good) := by
  unfold State.trainSegment
  dsimp only
  split
  · exact refl s
  · split
    · exact setPort (by rfl)
    · split
      · exact (setPort (by rfl)).trans judgeAttempt
      · exact setPort (by rfl)

theorem trainExpires : CadenceKept s (s.trainExpires c) := by
  unfold State.trainExpires
  dsimp only
  split
  · exact (setPort (by rfl)).trans judgeAttempt
  · exact refl s

theorem backRecordSent : CadenceKept s (s.backRecordSent c) := by
  unfold State.backRecordSent
  dsimp only
  split
  · exact refl s
  · exact setPort (by rfl)

theorem takePreference (ms : List CamMode) : CadenceKept s (s.takePreference c ms) := by
  unfold State.takePreference
  dsimp only
  split
  · split
    · exact (setPort (by rfl)).trans (enterRefused ..)
    · split
      · exact ((setPort (by rfl)).trans (beginSequence ..)).trans (setLink ..)
      · exact (setPort (by rfl)).trans (beginSequence ..)
  · exact setPort (by rfl)

/-! ## Frames (R18 to R23) -/

theorem frameEnds : CadenceKept s (s.frameEnds c) := by
  have hrest : ∀ (t : State) k w, CadenceKept t { t with control := k, windows := w } := fun _ _ _ => of_view (by rfl)
  exact (setPort (by rfl)).trans (hrest _ _ _)

theorem toneClose : CadenceKept s (s.toneClose c) := by
  have hseams : CadenceKept s { s with seams := mapTable (s.seamClose c) s.seams } := of_view (by rfl)
  exact (hseams.trans (setTone _)).trans (setPort (by rw [Port.requestExposure_enabled]; rfl))

theorem storeClose : CadenceKept s (s.storeClose c) := by
  have hclosed : CadenceKept s (s.setStore c (s.closedStore c)) := setStore (CamStore.close_health ..)
  rw [State.storeClose_eq]
  exact hclosed.trans rederive

/-- The clarity monitor re-forms the triggers where its state changes, and otherwise leaves what they read (R37, R121). -/
theorem storeAndClarityClose : CadenceKept s (s.storeAndClarityClose c) := by
  unfold State.storeAndClarityClose
  dsimp only
  split
  · next hstate => exact (setClarity hstate).trans storeClose
  · have hchoice : CadenceKept s { s with choices := s.choices + 1 } := of_view (by rfl)
    split
    · exact (hchoice.trans storeClose).trans (judgeClarity _)
    · exact (hchoice.trans (judgeClarity _)).trans storeClose

theorem zoneClose : CadenceKept s (s.zoneClose c) := by
  rw [State.zoneClose_eq]
  exact (setMeasures s.windows _).trans refreshHazard

theorem judgeFrame : CadenceKept s (s.judgeFrame c) := by
  unfold State.judgeFrame
  dsimp only
  split
  · exact setPort (by rfl)
  · split
    · exact setPort (by rfl)
    · split
      · exact (((setPort (by rfl)).trans (count ..)).trans (beginSequence ..)).trans (setLink ..)
      · exact (setPort (by rfl)).trans (queueReport _)

theorem frameClose : CadenceKept s (s.frameClose c) := by
  rw [State.frameClose_eq, State.closed]
  exact (((frameEnds.trans toneClose).trans storeAndClarityClose).trans zoneClose).trans judgeFrame

theorem trailerArrives (n : Byte) (good : Bool) : CadenceKept s (s.trailerArrives c n good) := by
  unfold State.trailerArrives
  dsimp only
  split
  · exact refl s
  · split
    · exact count ..
    · split
      · exact refl s
      · split
        · exact frameClose
        · exact (count ..).trans frameClose

theorem segmentArrives (i : Nat) (body : SegmentBody) (good : Bool) : CadenceKept s (s.segmentArrives c i body good) := by
  unfold State.segmentArrives
  dsimp only
  split
  · exact refl s
  · split
    · exact count ..
    · exact refl s
    · split
      · exact count ..
      · have hwritten : CadenceKept s (s.setStore c ((s.store c).write i body)) := setStore (by rfl)
        have hrest : ∀ (t : State) w k, CadenceKept t { t with windows := w, control := k } := fun _ _ _ => of_view (by rfl)
        exact (hwritten.trans (hrest _ _ _)).trans (setPort (by rfl))

/-! ## Headers (R18, R89, R90) -/

theorem applyChanges : CadenceKept s (s.applyChanges c) := by
  have hchanged : CadenceKept s (s.changed c) := by
    unfold State.changed
    exact setMeasures ..
  rw [State.applyChanges_eq]
  refine (hchanged.trans (.foldl (fun t k => ?_) allCams _)).trans refreshHazard
  split
  · exact judgeClarity _
  · exact refl t

theorem headerTaken {p : Port} (h : p.enabled = (s.port c).enabled) {ws : Vector Window 16} {k : Control} :
    CadenceKept s (s.headerTaken c p ws k) :=
  (setPort h).trans (of_view (by rfl))

theorem takeHeader (h : HeaderRecord) : CadenceKept s (s.takeHeader c h) := by
  have hclose : CadenceKept s (if (s.port c).phase = .opened then (s.count .frameTruncated c).frameClose c else s) := by
    split
    · exact (count ..).trans frameClose
    · exact refl s
  have hopen : ∀ (u : State) m, CadenceKept u (u.openFrame c h m) := fun u m => u.openFrame_eq c h m ▸ headerTaken (by rfl)
  have hignore : ∀ u : State, CadenceKept u (u.ignoreFrame c) := fun u => u.ignoreFrame_eq c ▸ headerTaken (by rfl)
  unfold State.takeHeader
  dsimp only
  generalize (if (s.port c).phase = .opened then (s.count .frameTruncated c).frameClose c else s) = t at hclose ⊢
  split
  · exact hclose
  · refine hclose.trans ((applyChanges (c := c)).trans ?_)
    split
    · split
      · exact hopen ..
      · exact hignore _
    · exact hignore _

theorem headerArrives (h : HeaderRecord) (good : Bool) : CadenceKept s (s.headerArrives c h good) := by
  unfold State.headerArrives
  split
  · exact refl s
  · split
    · exact takeHeader h
    · exact count ..

end

end CadenceKept

end Sys2Proof.Machine
end

section
/-! PROOF. The situation selector, the requests, the output frame start, power-on and the millisecond keep the laws of the cadence
generator, and so does every command (R123, R138, R154, R157, R159, R177 to R180). -/

namespace Sys2Proof.Machine

namespace CadenceKept

/-! ## The situation selector (R134 to R142) -/

section
variable {s : State}

/-- A selector in the same situation. -/
theorem setSelector {sel : Selector} (h : sel.situation = s.selector.situation) :
    CadenceKept s { s with selector := sel } := by
  refine of_view ?_
  simp only [State.cadenceView, h]
  rfl

theorem endForce (cause : ForceCause) : CadenceKept s (s.endForce cause) := by
  unfold State.endForce
  split
  · exact refl s
  · exact (setSelector (by rfl)).trans (queueReport _)

theorem rearm : CadenceKept s s.rearm := by
  rw [State.rearm_eq]
  exact (setMeasures s.windows _).trans refreshHazard

/-- A change of situation re-forms the triggers once the zones follow it (R138). -/
theorem takeSituation (new : Situation) : CadenceKept s (s.takeSituation new) := by
  unfold State.takeSituation
  dsimp only
  split
  · exact refl s
  · refine reform fun hs => rearm.silence ?_
    split
    · exact (endForce .override).silence hs
    · exact hs

theorem rerank : CadenceKept s s.rerank := takeSituation _

theorem vehicleTimeout : CadenceKept s s.vehicleTimeout := by
  unfold State.vehicleTimeout
  split
  · exact (setSelector (by rfl)).trans rerank
  · exact refl s

theorem turnDwellExpires : CadenceKept s s.turnDwellExpires := by
  unfold State.turnDwellExpires
  split
  · exact (setSelector (by rfl)).trans rerank
  · exact refl s

theorem forceTimerExpires : CadenceKept s s.forceTimerExpires := by
  unfold State.forceTimerExpires
  split
  · exact endForce _
  · exact refl s

theorem viewDwellExpires : CadenceKept s s.viewDwellExpires := by
  unfold State.viewDwellExpires
  split
  · exact setSelector (by rfl)
  · exact refl s

/-! ## Zones and cadence timers (R126, R156) -/

theorem holdExpires (w : WindowId) : CadenceKept s (s.holdExpires w) := by
  unfold State.holdExpires
  split
  · split
    · exact (setMeasures s.windows _).trans refreshHazard
    · exact refl s
  · exact refl s

theorem onTimeExpires (id : ChannelId) : CadenceKept s (s.setChannel id (s.channel id).onExpires) := by
  refine setChannel ?_ ?_ fun h => h.onExpires
  all_goals
    unfold Channel.onExpires
    split
    · split
      · rfl
      · split <;> rfl
    · rfl

theorem offTimeExpires (id : ChannelId) : CadenceKept s (s.setChannel id (s.channel id).offExpires) := by
  refine setChannel ?_ ?_ fun h => h.offExpires
  all_goals
    unfold Channel.offExpires
    split <;> rfl

end

end CadenceKept

/-! ## Requests -/

/-- A request's effect keeps the laws. -/
def KeepsCadence (f : State → Answer) : Prop := ∀ s, CadenceKept s (f s).state

theorem keepsCadence_silence (x : Unit) : KeepsCadence (silence x) := by
  refine fun s => .setChannel (id := .buzz) ?_ ?_ fun h => h.silence
  all_goals
    unfold Channel.silence
    split
    · split <;> rfl
    all_goals rfl

theorem keepsCadence_cadence (f : CadenceFields) : KeepsCadence (setParametersCadence f) := by
  intro s
  unfold setParametersCadence
  split
  · exact .refl s
  · exact .setChannel_retrigger fun h => h

theorem keepsCadence_store (p : StoreParams) : KeepsCadence (setParametersStore p) := by
  intro s
  have hlimited : CadenceKept s (s.limited (clampStore p)) := by
    refine .of_view ?_
    simp only [State.cadenceView, State.limited_store]
    rfl
  rw [setParametersStore_eq]
  dsimp only
  refine hlimited.trans (.foldl (fun t c => ?_) allCams _)
  rw [settleStore_keep]
  exact .rederive

theorem keepsCadence_clarity (f : ClarityFields) : KeepsCadence (setParametersClarity f) := by
  intro s
  obtain h | ⟨c, cl, hstate, h⟩ := setParametersClarity_eq s f
  · rw [h]
    exact .refl s
  · rw [h]
    exact .setClarity hstate

theorem keepsCadence_situation (p : SituationParams) : KeepsCadence (setParametersSituation p) := fun s => by
  have hparams : CadenceKept s { s with params := { s.params with situation := clampSituation p } } := .of_view rfl
  exact (hparams.trans (.setSelector (by rfl))).trans .rerank

theorem keepsCadence_vehicleState (record : List Byte) : KeepsCadence (vehicleState record) := by
  intro s
  unfold vehicleState
  split
  · exact .refl s
  · exact .refl s
  · exact .trans (.setSelector (by rfl)) .rerank

theorem keepsCadence_forceView (f : ForceFields) : KeepsCadence (forceView f) := by
  intro s
  unfold forceView
  split
  · split
    · exact .refl s
    · exact .trans (.endForce .replaced) (.setSelector (by rfl))
  · exact .refl s

theorem keepsCadence_releaseView (x : Unit) : KeepsCadence (releaseView x) := by
  intro s
  unfold releaseView
  split
  · exact .endForce _
  · exact .refl s

/-- The port that is ENABLED may be an input at once; the triggers are re-formed at the end (R17, R155). -/
theorem keepsCadence_portEnable (port : Nat) : KeepsCadence (portEnable port) := by
  intro s
  unfold portEnable
  split
  · exact .refl s
  · exact .reform fun hs => CadenceKept.leaveOff.silence hs

theorem keepsCadence_portDisable (port : Nat) : KeepsCadence (portDisable port) := by
  intro s
  unfold portDisable
  split
  · exact .refl s
  · exact .reform fun hs => ((CadenceKept.goOffUnlessOff .disabled).trans .refreshHazard).silence hs

theorem keepsCadence_linkRestart (port : Nat) : KeepsCadence (linkRestart port) := by
  intro s
  unfold linkRestart
  split
  · exact .refl s
  · split
    · dsimp only
      exact .trans (.setPort (by rfl)) (.setLink ..)
    · exact .refl s

theorem keepsCadence_portPreference (f : PreferenceFields) : KeepsCadence (portPreference f) := by
  intro s
  unfold portPreference
  split
  · exact .takePreference _
  · exact .refl s

/-! ## MODE and RESTART (R159, R176 to R178, R180) -/

/-- Two states outside RUN with the same channels (R159). -/
theorem CadenceKept.of_mode {s t : State} (hs : s.mode ≠ .run) (ht : t.mode ≠ .run)
    (hcadence : t.cadence = s.cadence := by rfl) : CadenceKept s t := by
  refine ⟨fun h => ?_, fun h => ?_⟩
  · unfold State.TriggerLaw at h ⊢
    rw [combinedTrigger_of_mode hs, combinedTrigger_of_mode hs] at h
    rwa [hcadence, combinedTrigger_of_mode ht, combinedTrigger_of_mode ht]
  · unfold State.SilenceLaw at h ⊢
    rwa [hcadence]

/-- With the mode another than RUN, both channels go to IDLE without a trigger (R159). -/
theorem CadenceKept.of_leaveRun {s t : State} (ht : t.mode ≠ .run) (hcadence : t.cadence = s.cadence.leaveRun) :
    CadenceKept s t := by
  refine ⟨fun _ => ?_, fun _ => ?_⟩
  · unfold State.TriggerLaw
    rw [hcadence, combinedTrigger_of_mode ht, combinedTrigger_of_mode ht]
    exact ⟨rfl, rfl⟩
  · unfold State.SilenceLaw
    rw [hcadence]
    exact .of_silenced rfl

theorem CadenceKept.leaveRun (s : State) {m : OpMode} (hm : m ≠ .run) (cause : LinkCause) :
    CadenceKept s (s.leaveRun m cause) := by
  have hleft : CadenceKept s { s with mode := m, cadence := s.cadence.leaveRun } := .of_leaveRun hm rfl
  unfold State.leaveRun
  exact (hleft.trans (.foldl (fun _ _ => .goOffUnlessOff cause) allCams _)).trans .refreshHazard

theorem CadenceKept.enterRun (s : State) : CadenceKept s s.enterRun :=
  .reform (CadenceKept.foldl (f := State.leaveOff) (fun _ _ => .leaveOff) allCams { s with mode := .run }).silence

theorem keepsCadence_modeConfig (x : Unit) : KeepsCadence (modeConfig x) := by
  intro s
  unfold modeConfig
  split <;> rw [modeAnswer_state]
  · exact .refl s
  · exact .leaveRun s (by decide) _
  · next hstandby => exact .of_mode (by simp [hstandby]) (by nofun)

theorem keepsCadence_modeRun (x : Unit) : KeepsCadence (modeRun x) := by
  intro s
  unfold modeRun
  split
  · exact .refl s
  all_goals
    split <;> rw [modeAnswer_state]
    · exact .refl s
    · exact .enterRun s

theorem keepsCadence_modeStandby (x : Unit) : KeepsCadence (modeStandby x) := by
  intro s
  unfold modeStandby
  split <;> rw [modeAnswer_state]
  · exact .refl s
  · exact .leaveRun s (by decide) _
  · exact .refl s

theorem keepsCadence_restart (x : Unit) : KeepsCadence (restart x) := by
  intro s
  unfold restart
  dsimp only
  generalize hu : ({ s with control := s.control.restarted, mode := .config, cadence := s.cadence.leaveRun } : State) = u
  have hmode : u.mode ≠ .run := by rw [← hu]; nofun
  have hleft : CadenceKept s u := .of_leaveRun hmode (hu ▸ rfl)
  have hoff : CadenceKept u _ := .foldl (fun _ c => .goOffUnlessOff (c := c) .restarted) allCams u
  have hrest : LinkOnly u _ := .foldl (fun t c => linkOnly_goOffUnlessOff t c .restarted) allCams u
  generalize allCams.foldl _ u = v at hoff hrest ⊢
  rw [← hrest.mode] at hmode
  have hrestarted : ∀ t : State, t.mode = v.mode → t.cadence = v.cadence → CadenceKept v t :=
    fun t ht hcadence => .of_mode hmode (ht ▸ hmode) hcadence
  exact ((hleft.trans hoff).trans (hrestarted _ (by rfl) (by rfl))).trans .refreshHazard

/-! ## Output frame start, power-on and the millisecond (R34, R40, R159, R179) -/

theorem CadenceKept.storeFrameStart (s : State) : CadenceKept s s.storeFrameStart := by
  have hraised : CadenceKept s s.raised :=
    .foldl (fun _ _ => .trans (.setStore (CamStore.raiseFreeze_health ..)) .rederive) allCams s
  rw [State.storeFrameStart_eq]
  generalize s.raised = r at hraised ⊢
  have hlatched : ∀ c, (State.store { r with
      stores := Vector.ofFn fun c => (r.store c).takeLatch (r.port c).mode } c).health = (r.store c).health := fun c => by
    rw [State.store, look_ofFn]
    rfl
  refine hraised.trans (.of_view ?_)
  simp only [State.cadenceView, hlatched]
  rfl

/-- What is drawn is latched beside the inputs of the triggers and the channels (R72, R159). -/
theorem CadenceKept.drawn (r : State) : CadenceKept r r.drawn := by
  obtain ⟨choice, hdrawn⟩ := r.drawn_eq
  rw [hdrawn]
  exact .of_view rfl

theorem CadenceKept.frameStart (s : State) : CadenceKept s s.frameStart := (CadenceKept.storeFrameStart s).trans (.drawn _)

theorem CadenceKept.atPowerOn (s : State) (levels : PowerInputs) (epoch choices : Nat) (q : List Instr) :
    CadenceKept s (State.atPowerOn levels epoch choices q) :=
  ⟨fun _ => ⟨rfl, rfl⟩, fun _ => .of_silenced rfl⟩

/-- A millisecond moves timers alone. -/
theorem CadenceKept.tick (s : State) : CadenceKept s s.tick := by
  have htrigger : ∀ mask, combinedTrigger s.tick mask = combinedTrigger s mask := fun mask => by
    rw [Bool.eq_iff_iff, combinedTrigger_iff, combinedTrigger_iff]
    simp [State.tick, State.port, State.store, State.clarity]
  refine ⟨fun h => ?_, fun h => h⟩
  unfold State.TriggerLaw at h ⊢
  rw [htrigger, htrigger]
  exact h

end Sys2Proof.Machine
end

section
/-! PROOF. Every step keeps the laws of the cadence generator, command by command (R155 to R159). -/

namespace Sys2Proof.Machine

/-! ## Every command -/

theorem unlessHeld_keepsCadence {f : State → State} {s t : State} (h : unlessHeld s f = .next t)
    (hf : CadenceKept s (f s)) : CadenceKept s t :=
  unlessHeld_keeps (P := CadenceKept s) (fun _ hu => hu.trans (.of_view rfl)) (fun _ => hf) h (.refl s)

theorem request_keepsCadence {f : State → Answer} {r : Instr} {kind tag : Byte} {s t : State}
    (h : request r kind tag f s = .next t) (hf : KeepsCadence f) : CadenceKept s t :=
  request_keeps (P := CadenceKept s) (fun _ _ hu => hu.trans (.of_view rfl)) (fun _ _ hu => hu.trans (.of_view rfl))
    (fun u hu => hu.trans (hf u)) h (.refl s)

/-- A command with a body, taken as a request. -/
theorem requestBody_keepsCadence {α : Type} {f : α → State → Answer} {b : Body α} {r : Instr} {kind tag : Byte} {s t : State}
    (h : request r kind tag (Body.run b f) s = .next t) (hf : ∀ x, KeepsCadence (f x)) : CadenceKept s t := by
  cases b with
  | badLength => exact request_keepsCadence h fun s => .refl s
  | fields x => exact request_keepsCadence h (hf x)

theorem exec_keepsCadence (i : Instr) {s t : State} (h : exec i s = .next t) : CadenceKept s t := by
  cases i with
  | powerOn levels => cases h; exact .atPowerOn ..
  | resetAssert => cases h; exact .of_view rfl
  | unknownRecordArrival c => cases h; exact .of_view rfl
  | carrierGain c => exact unlessHeld_keepsCadence (f := fun t => t.gainCarrier c) h .gainCarrier
  | carrierLoss c => exact unlessHeld_keepsCadence (f := fun t => t.loseCarrier c) h .loseCarrier
  | announceArrival c r k => exact unlessHeld_keepsCadence (f := fun t => t.announceArrives c r _) h (.announceArrives ..)
  | trainingSegmentArrival c r k =>
    exact unlessHeld_keepsCadence (f := fun t => t.trainSegment c r.index _) h (.trainSegment ..)
  | frameHeaderArrival c r k => exact unlessHeld_keepsCadence (f := fun t => t.headerArrives c r _) h (.headerArrives ..)
  | segmentArrival c i body k =>
    exact unlessHeld_keepsCadence (f := fun t => t.segmentArrives c i body _) h (.segmentArrives ..)
  | frameTrailerArrival c n k => exact unlessHeld_keepsCadence (f := fun t => t.trailerArrives c n _) h (.trailerArrives ..)
  | announceTimerExpiry c => exact unlessHeld_keepsCadence (f := fun t => t.announceExpires c) h .announceExpires
  | trainTimerExpiry c => exact unlessHeld_keepsCadence (f := fun t => t.trainExpires c) h .trainExpires
  | backChannelRecordSent c => exact unlessHeld_keepsCadence (f := fun t => t.backRecordSent c) h .backRecordSent
  | outputFrameStart => exact unlessHeld_keepsCadence h (.frameStart s)
  | displaySenseChange level =>
    exact unlessHeld_keepsCadence (f := fun t => { t with display := t.display.sense level }) h (.of_view rfl)
  | displaySenseTimerExpiry => exact unlessHeld_keepsCadence h (.of_rest (senseExpires_rest s))
  | holdTimerExpiry w => exact unlessHeld_keepsCadence (f := fun t => t.holdExpires w) h (.holdExpires w)
  | vehicleTimeoutExpiry => exact unlessHeld_keepsCadence h .vehicleTimeout
  | turnDwellExpiry => exact unlessHeld_keepsCadence h .turnDwellExpires
  | forceTimerExpiry => exact unlessHeld_keepsCadence h .forceTimerExpires
  | viewDwellTimerExpiry => exact unlessHeld_keepsCadence h .viewDwellExpires
  | onTimeExpiry ch =>
    exact unlessHeld_keepsCadence (f := fun t => t.setChannel ch (t.channel ch).onExpires) h (.onTimeExpires ch)
  | offTimeExpiry ch =>
    exact unlessHeld_keepsCadence (f := fun t => t.setChannel ch (t.channel ch).offExpires) h (.offTimeExpires ch)
  | byteGapTimerExpiry =>
    exact unlessHeld_keepsCadence (f := fun t => { t with control := t.control.gapExpires }) h (.of_view rfl)
  | controlFrameComplete b =>
    exact unlessHeld_keepsCadence (f := fun t => { t with control := t.control.completeWith b }) h (.of_view rfl)
  | frameSendEnd => exact unlessHeld_keepsCadence (f := fun t => { t with control := t.control.sendEnd }) h (.of_view rfl)
  | byteReceived b =>
    exact unlessHeld_keepsCadence (f := fun t => { t with control := t.control.receive b }) h (.of_view rfl)
  | unknownRequest kind tag => exact request_keepsCadence h fun s => .of_rest (unknownRequest_state s kind)
  | identify tag b => exact requestBody_keepsCadence h fun _ s => .refl s
  | status tag b => exact requestBody_keepsCadence h fun _ _ => .of_view rfl
  | setParametersLink tag b => exact requestBody_keepsCadence h fun _ _ => .of_view rfl
  | setParametersStore tag b => exact requestBody_keepsCadence h keepsCadence_store
  | setParametersTone tag b => exact requestBody_keepsCadence h fun f s => .of_rest (setParametersTone_rest s f)
  | setParametersToneLimits tag b => exact requestBody_keepsCadence h fun _ _ => .of_view rfl
  | setParametersClarity tag b => exact requestBody_keepsCadence h keepsCadence_clarity
  | setParametersClarityLimits tag b => exact requestBody_keepsCadence h fun _ _ => .of_view rfl
  | setParametersZone tag b => exact requestBody_keepsCadence h fun _ _ => .of_view rfl
  | setParametersSituation tag b => exact requestBody_keepsCadence h keepsCadence_situation
  | setParametersCadence tag b => exact requestBody_keepsCadence h keepsCadence_cadence
  | portEnable tag b => exact requestBody_keepsCadence h keepsCadence_portEnable
  | portDisable tag b => exact requestBody_keepsCadence h keepsCadence_portDisable
  | linkRestart tag b => exact requestBody_keepsCadence h keepsCadence_linkRestart
  | portPreferenceList tag b => exact requestBody_keepsCadence h keepsCadence_portPreference
  | windowSet tag b => exact requestBody_keepsCadence h fun f s => .of_rest (windowSet_rest s f)
  | windowDrop tag b => exact requestBody_keepsCadence h fun id s => .of_rest (windowDrop_rest s id)
  | seamSet tag b => exact requestBody_keepsCadence h fun f s => .of_rest (seamSet_rest s f)
  | gridBegin tag b => exact requestBody_keepsCadence h fun f s => .of_rest (gridBegin_rest s f)
  | gridNodes tag b => exact requestBody_keepsCadence h fun f s => .of_rest (gridNodes_rest s f)
  | gridEnd tag b => exact requestBody_keepsCadence h fun id s => .of_rest (gridEnd_rest s id)
  | gridDrop tag b => exact requestBody_keepsCadence h fun id s => .of_rest (gridDrop_rest s id)
  | shapeSet tag b => exact requestBody_keepsCadence h fun f s => .of_rest (shapeSet_rest s f)
  | shapeDrop tag b => exact requestBody_keepsCadence h fun id s => .of_rest (shapeDrop_rest s id)
  | setOverlayList tag b => exact requestBody_keepsCadence h fun f s => .of_rest (setOverlayList_rest s f)
  | viewSet tag b => exact requestBody_keepsCadence h fun f s => .of_rest (viewSet_rest s f)
  | paneSet tag b => exact requestBody_keepsCadence h fun f s => .of_rest (paneSet_rest s f)
  | paneDrop tag b => exact requestBody_keepsCadence h fun f s => .of_rest (paneDrop_rest s f)
  | viewMapSet tag b => exact requestBody_keepsCadence h fun f s => .of_rest (viewMapSet_rest s f)
  | applyTables tag b => exact requestBody_keepsCadence h fun x s => .of_rest (applyTables_rest s x)
  | vehicleState tag record => exact request_keepsCadence h (keepsCadence_vehicleState record)
  | forceView tag b => exact requestBody_keepsCadence h keepsCadence_forceView
  | releaseView tag b => exact requestBody_keepsCadence h keepsCadence_releaseView
  | silence tag b => exact requestBody_keepsCadence h keepsCadence_silence
  | readCamera tag b => exact requestBody_keepsCadence h fun camera s => .of_rest (readCamera_state s camera)
  | readMeter tag b => exact requestBody_keepsCadence h fun id s => .of_rest (readMeter_state s id)
  | readTable tag b => exact requestBody_keepsCadence h fun f s => .of_rest (readTable_state s f)
  | counterSelect tag b => exact requestBody_keepsCadence h fun f s => .of_rest (counterSelect_rest s f)
  | counterRead tag b => exact requestBody_keepsCadence h fun _ s => .refl s
  | modeConfig tag b => exact requestBody_keepsCadence h keepsCadence_modeConfig
  | modeRun tag b => exact requestBody_keepsCadence h keepsCadence_modeRun
  | modeStandby tag b => exact requestBody_keepsCadence h keepsCadence_modeStandby
  | restart tag b => exact requestBody_keepsCadence h keepsCadence_restart

/-- Every step, a command of the queue or one millisecond, keeps the laws. -/
theorem step_keepsCadence {s t : State} (h : step s = .next t) : CadenceKept s t := by
  unfold step at h
  split at h
  · cases h
    exact .tick s
  · next i rest _ =>
    have hqueue : CadenceKept s (s.withPending rest) := .of_view rfl
    exact hqueue.trans (exec_keepsCadence i h)

/-- Settles O14: the step by the trigger's share of `CadenceKept`, the meaning of the trigger by its four sources. -/
theorem stepKeepsTriggerLaw : Obligations.StepKeepsTriggerLaw :=
  ⟨fun _ _ hs h => (step_keepsCadence h).trigger hs, combinedTrigger_iff⟩

end Sys2Proof.Machine
end

section
/-! PROOF. The output pins, which every command drives by the state it leaves (R4, R6, R158, R179), and the buzzer's law. -/

namespace Sys2Proof.Machine

/-! ## The output pins (R4, R6, R158, R179) -/

theorem Port.releasing_iff (p : Port) :
    p.releasing = true ↔ p.backSending = some .release ∨ .release ∈ p.backWaiting := by
  simp [Port.releasing]

/-- The pins as a command drives them are those the law asks for. -/
theorem pinLaw_drivePins (s : State) : s.drivePins.PinLaw := by
  refine ⟨fun hheld => ⟨fun c => ?_, ?_⟩, fun hlive => ⟨fun c => ?_, ?_⟩⟩
  · rw [State.drivePins_held] at hheld
    rw [State.drivePins_power, hheld]
    rfl
  · rw [State.drivePins_held] at hheld
    simp [State.drivePins, hheld]
  · rw [State.drivePins_held] at hlive
    rw [State.drivePins_power, hlive]
    simp [Port.releasing_iff]
  · rw [State.drivePins_held] at hlive
    simp [State.drivePins, hlive]

/-- Every command, whichever it is, ends by driving the pins (log 21). -/
theorem exec_commits (i : Instr) (s : State) : ∃ u, exec i s = commit u := by
  cases i with
  | _ => exact ⟨_, rfl⟩

theorem exec_pinLaw (i : Instr) {s t : State} (h : exec i s = .next t) : t.PinLaw := by
  obtain ⟨u, hu⟩ := exec_commits i s
  cases hu.symm.trans h
  exact pinLaw_drivePins u

/-- A millisecond moves nothing the pins are driven by. -/
theorem State.PinLaw.tick {s : State} (h : s.PinLaw) : s.tick.PinLaw := by
  obtain ⟨hheld, hlive⟩ := h
  refine ⟨hheld, fun hs => ?_⟩
  obtain ⟨hpower, hbuzz⟩ := hlive hs
  refine ⟨fun c => (hpower c).trans ?_, hbuzz⟩
  simp [State.tick, State.port]

/-! ## The buzzer (R157, R158) -/

/-- With the pins by their law, the buzzer's law says no more than that a silenced BUZZ channel is DONE. -/
theorem State.PinLaw.buzzerLaw {s : State} (h : s.PinLaw) (hsilence : s.SilenceLaw) : s.BuzzerLaw := by
  obtain ⟨hheld, hlive⟩ := h
  refine ⟨fun hdriven => ?_, hsilence⟩
  cases hs : s.held with
  | true => simp [(hheld hs).2] at hdriven
  | false =>
    rw [(hlive hs).2] at hdriven
    split at hdriven
    · next hon => exact ⟨hon.1, hon.2, hsilence.silenced_eq_false (by simp [hon.2])⟩
    · exact absurd hdriven (by simp)

theorem State.BuzzerLaw.tick {s : State} (h : s.BuzzerLaw) : s.tick.BuzzerLaw := h

/-- Settles O8: a command drives the pins by the state it leaves, and keeps a silenced BUZZ channel DONE; a millisecond moves
neither pins nor channel states. -/
theorem stepKeepsOutputLaws : Obligations.StepKeepsOutputLaws := by
  refine ⟨fun s t hs h => ?_, fun s t hs h => ?_, fun i s t h => exec_pinLaw i h⟩
  · have hsilence : t.SilenceLaw := (step_keepsCadence h).silence hs.2
    unfold step at h
    split at h
    · cases h
      exact hs.tick
    · exact (exec_pinLaw _ h).buzzerLaw hsilence
  · unfold step at h
    split at h
    · cases h
      exact hs.tick
    · exact exec_pinLaw _ h

end Sys2Proof.Machine
end

section
/-! PROOF. SHAPE SET and SHAPE DROP by their checks (R147, R148). -/

namespace Sys2Proof.Machine

/-! ## Answers about a shape (R147) -/

/-- The answer about a shape just replaced names the new shape's points. -/
theorem shapeAnswer_setShape (st : Status) (k : Fin 64) (x : Option Shape) (s : State) : shapeAnswer st k (s.setShape k x)
    = ⟨st, .shape (shapePoints x) (s.shapes.replace k x).free, s.setShape k x⟩ := by
  have hk : (s.setShape k x).shape k = x := look_put_same ..
  unfold shapeAnswer
  rw [hk]
  rfl

section
variable {s : State} {r : Instr} (h : Takes s r) {kind tag : Byte} {f : State → Answer} {k : Fin 64}
include h

/-- A request that is answered about a shape and changes none. -/
theorem request_shapeAnswer {st : Status} (hf : ∀ c, f { s with control := c } = shapeAnswer st k { s with control := c }) :
    request r kind tag f s = .next (s.replied kind tag st (.shape (shapePoints (s.shape k)) s.shapes.free)).drivePins :=
  request_taken h (g := id) hf (fun _ => rfl) fun _ _ => rfl

/-- A request that replaces a shape. -/
theorem request_setShape {x : Option Shape} {st : Status} {data : ReplyData}
    (hf : ∀ c, f { s with control := c } = ⟨st, data, State.setShape { s with control := c } k x⟩) :
    request r kind tag f s
      = .next (State.drivePins { s.replied kind tag st data with shapes := s.shapes.replace k x }) :=
  request_taken h (g := fun t => t.setShape k x) hf (fun _ => rfl) fun _ _ => rfl

end

/-! ## The body's length (R147, R165) -/

/-- A body has the wrong length for its kind exactly where its points are not as many as counted, or width or glyph stands
with another kind or is missing with its own. -/
theorem shapeLengthOk_eq_false_iff {f : ShapeFields} : shapeLengthOk f = false ↔ f.kind ≠ none
    ∧ (f.points.length ≠ f.count ∨ ¬(f.width ≠ none ↔ f.kind = some .polyline)
      ∨ ¬(f.glyph ≠ none ↔ f.kind = some .icon)) := by
  rw [← Bool.not_eq_true]
  unfold shapeLengthOk
  cases f.kind with
  | none => simp
  | some kind =>
    cases kind with
    | polyline => simp [Option.isSome_iff_ne_none, and_assoc, imp_iff_not_or]
    | polygon => simp [and_assoc, imp_iff_not_or]
    | icon => simp [Option.isSome_iff_ne_none, and_assoc, imp_iff_not_or]

/-! ## The record (R147, check 1) -/

/-- A point count, a width or a glyph out of its kind's range, and an undefined kind, make no form. -/
theorem shapeFormOf?_eq_none {f : ShapeFields} (h : f.kind = none
    ∨ f.kind = some .polyline ∧ (f.count < 2 ∨ 16 < f.count ∨ ∃ w, f.width = some w ∧ (w = 0 ∨ 8 < w))
    ∨ f.kind = some .polygon ∧ (f.count < 3 ∨ 16 < f.count)
    ∨ f.kind = some .icon ∧ (f.count ≠ 1 ∨ ∃ g, f.glyph = some g ∧ 32 ≤ g)) : shapeFormOf? f = none := by
  unfold shapeFormOf?
  split
  · next w _ hkind hwidth =>
    refine if_neg ?_
    simp [hkind, hwidth] at h
    omega
  · next hkind =>
    refine if_neg ?_
    simp [hkind] at h
    omega
  · next g hkind hglyph =>
    split
    · next hcount =>
      rw [index?_eq_none.mpr]
      · rfl
      · simpa [hkind, hglyph, hcount] using h
    · rfl
  · rfl

/-- A point, an alpha or a condition out of range, or a condition named twice, makes no record. -/
theorem shapeOf?_eq_none_of_fields {f : ShapeFields} (h : (∃ p ∈ f.points, 1023 < p.x ∨ 599 < p.y) ∨ 16 < f.alpha
    ∨ none ∈ f.conditions ∨ ¬f.conditions.Nodup) : shapeOf? f = none := by
  unfold shapeOf?
  split
  · next form conditions _ hconditions =>
    have hmap := map_eq_of_mapM_eq_some hconditions
    rw [List.map_id] at hmap
    refine if_neg fun ⟨hpoints, halpha, hnodup⟩ => ?_
    obtain ⟨p, hp, hout⟩ | hout | hnone | hdouble := h
    · have hin := List.all_eq_true.mp hpoints p hp
      simp at hin
      omega
    · omega
    · simp [hmap] at hnone
    · exact hdouble (hmap ▸ hnodup.map (Option.some_injective _))
  · rfl

theorem shapeOf?_eq_none_of_form {f : ShapeFields} (h : shapeFormOf? f = none) : shapeOf? f = none := by
  unfold shapeOf?
  rw [h]

/-! ## SHAPE SET (R147) -/

theorem shapeSet_badLength {f : ShapeFields} (h : shapeLengthOk f = false) (s : State) :
    shapeSet f s = refuse .badLength s := by
  simp [shapeSet, h]

theorem shapeSet_of_le {f : ShapeFields} (hlength : shapeLengthOk f = true) (h : 64 ≤ f.id) (s : State) :
    shapeSet f s = refuse .badValue s := by
  unfold shapeSet
  rw [hlength, index?_eq_none.mpr h]
  rfl

/-- SHAPE SET of a shape by its record and the points that are free (R147). -/
theorem shapeSet_val {f : ShapeFields} {k : Fin 64} (hlength : shapeLengthOk f = true) (hid : f.id = k.val) (s : State) :
    shapeSet f s = match shapeOf? f with
      | none => shapeAnswer .badValue k s
      | some sh =>
        if s.shapes.free + shapePoints (s.shape k) < sh.points.length then shapeAnswer .noRoom k s
        else shapeAnswer .ok k (s.setShape k (some sh)) := by
  unfold shapeSet
  rw [hlength, hid, index?_val]
  rfl

/-! ## SHAPE DROP (R148) -/

theorem shapeDrop_of_le {id : Nat} (h : 64 ≤ id) (s : State) : shapeDrop id s = refuse .badValue s := by
  unfold shapeDrop
  rw [index?_eq_none.mpr h]

/-- A list of either copy names the shape (R148). -/
theorem shapeReferenced_iff {v : ViewTable} {k : Fin 64} :
    shapeReferenced v k = true ↔ ∃ l, k ∈ look v.live.lists l ∨ k ∈ look v.edit.lists l := by
  simp [shapeReferenced, Tables.namesShape, anyEntry_iff, exists_or]

section
variable {s : State} {k : Fin 64}

theorem shapeDrop_undefined (h : s.shape k = none) : shapeDrop k.val s = refuse .notFound s := by
  unfold shapeDrop
  rw [index?_val]
  simp [h]

/-- A shape dropped returns the points it held (R146). -/
theorem replace_none {sh : Shape} (h : s.shape k = some sh) : s.shapes.replace k none =
    { s.shapes with shapes := put s.shapes.shapes k none, free := s.shapes.free + sh.points.length } := by
  rw [State.shape] at h
  simp [ShapeStore.replace, h, shapePoints]

theorem shapeDrop_defined {sh : Shape} (h : s.shape k = some sh) : shapeDrop k.val s =
    if ∃ l, k ∈ look s.views.live.lists l ∨ k ∈ look s.views.edit.lists l then refuse .badState s
    else ⟨.ok, .freePoints (s.shapes.free + sh.points.length), s.setShape k none⟩ := by
  unfold shapeDrop
  rw [index?_val]
  dsimp only
  rw [h, if_neg (by simp)]
  refine if_congr shapeReferenced_iff rfl ?_
  dsimp only [State.setShape]
  rw [replace_none h]

end

/-- Settles O52, check by check: a failing one is answered about the shape as it is. -/
theorem shapeRequests : Obligations.ShapeRequests := by
  refine ⟨fun s tag id ht hid => request_refused ht fun c => shapeDrop_of_le hid _,
    fun s tag f k sh ht hlength hid hsh => ?_, fun s tag f ht => ?_, fun s tag k ht => ?_⟩
  · have hset := fun c : Control => shapeSet_val hlength hid { s with control := c }
    simp only [hsh] at hset
    dsimp only
    split
    · next hroom => exact request_shapeAnswer ht fun c => (hset c).trans (if_pos hroom)
    · next hroom =>
      exact request_setShape ht fun c => ((hset c).trans (if_neg hroom)).trans (shapeAnswer_setShape ..)
  · dsimp only
    rw [← shapeLengthOk_eq_false_iff, Bool.not_eq_false]
    refine ⟨fun hlength => request_refused ht fun c => shapeSet_badLength hlength _,
      fun hlength hid => request_refused ht fun c => shapeSet_of_le hlength hid _, fun k hlength hid hbad => ?_⟩
    have hnone : shapeOf? f = none := hbad.elim shapeOf?_eq_none_of_fields fun hform =>
      shapeOf?_eq_none_of_form (shapeFormOf?_eq_none hform)
    have hset := fun c : Control => shapeSet_val hlength hid { s with control := c }
    simp only [hnone] at hset
    exact request_shapeAnswer ht hset
  · split
    · next hshape => exact request_refused ht fun c => shapeDrop_undefined hshape
    · next sh hshape =>
      have hdrop := fun c : Control => shapeDrop_defined (s := { s with control := c }) hshape
      split
      · next hnamed => exact request_refused ht fun c => (hdrop c).trans (if_pos hnamed)
      · next hnamed =>
        replace hdrop := fun c => (hdrop c).trans (if_neg hnamed)
        have hexec := request_setShape ht (kind := 0x0D) (tag := tag) (f := shapeDrop k.val)
          (data := .freePoints (s.shapes.free + sh.points.length)) hdrop
        rw [replace_none hshape] at hexec
        exact hexec

end Sys2Proof.Machine
end

section
/-! PROOF. The commands of the cadence generator: phase timers (R156), SILENCE (R157), SET PARAMETERS of the cadence group (R154),
and the combined trigger taken by a channel (R155, R156). -/

namespace Sys2Proof.Machine

/-! ## One channel -/

namespace Channel

section
variable {ch : Channel}

/-! ### Phase timers (R156) -/

theorem onExpires_due (hon : ch.state = .on) (htimer : ch.timer = some 0) : ch.onExpires =
    if ch.trigger = false then ch.toIdle
    else if ch.burst = 0 ∨ ch.cycles < ch.burst then { ch with state := .off, timer := some ch.offTime }
    else { ch with state := .done, timer := none } := by
  have hcycles : ch.cyclesRemain = true ↔ ch.burst = 0 ∨ ch.cycles < ch.burst := by simp [cyclesRemain]
  unfold onExpires
  rw [if_pos ⟨hon, htimer⟩]
  exact if_congr (.of_eq (Bool.not_eq_true' _)) rfl (if_congr hcycles rfl rfl)

theorem onExpires_notDue (h : ¬(ch.state = .on ∧ ch.timer = some 0)) : ch.onExpires = ch := if_neg h

theorem offExpires_due (hoff : ch.state = .off) (htimer : ch.timer = some 0) :
    ch.offExpires = ch.startOn (min 15 (ch.cycles + 1)) := if_pos ⟨hoff, htimer⟩

theorem offExpires_notDue (h : ¬(ch.state = .off ∧ ch.timer = some 0)) : ch.offExpires = ch := if_neg h

/-! ### The combined trigger (R155, R156) -/

theorem retrigger_same : ch.retrigger ch.trigger = ch := if_pos rfl

/-- The event trigger becomes true. -/
theorem retrigger_true (h : ch.trigger = false) : ch.retrigger true =
    if ch.state = .idle then { ch with trigger := true }.startOn 1 else { ch with trigger := true } := by
  unfold retrigger
  rw [h, if_neg (by decide)]
  cases ch.state with
  | idle => rfl
  | _ => exact (if_neg nofun).symm

/-- The event trigger becomes false. -/
theorem retrigger_false (h : ch.trigger = true) : ch.retrigger false =
    if ch.state = .off ∨ ch.state = .done then { ch with trigger := false }.toIdle else { ch with trigger := false } := by
  unfold retrigger
  rw [h, if_neg (by decide)]
  cases ch.state with
  | off => exact (if_pos (.inl rfl)).symm
  | done => exact (if_pos (.inr rfl)).symm
  | _ => exact (if_neg (by decide)).symm

end

end Channel

/-! ## The settings of a request (R154) -/

/-- Multiples of 10 in 10 to 2550. -/
theorem clampCadenceTime_eq (t : Nat) : clampCadenceTime t = min 2550 (max 10 (t - t % 10)) := by
  unfold clampCadenceTime clampTo
  omega

/-- No value of the request was changed exactly where each stored one is the request's. -/
theorem cadenceChanged_eq_false_iff {id : ChannelId} {f : CadenceFields} {ch : Channel} :
    cadenceChanged id f = false ↔ (ch.withSettings id f).onTime = f.onTime ∧ (ch.withSettings id f).offTime = f.offTime
      ∧ (ch.withSettings id f).burst = f.burst ∧ (id = .buzz → (ch.withSettings id f).tone = f.tone) := by
  have hburst : min 15 f.burst = f.burst ↔ f.burst ≤ 15 := by omega
  have htone : (id = .buzz → (if id = .buzz then min 3 f.tone else ch.tone) = f.tone) ↔ (id = .buzz → f.tone ≤ 3) :=
    forall_congr' fun hid => by rw [if_pos hid]; omega
  simp [cadenceChanged, Channel.withSettings, hburst, htone, and_assoc]

theorem statusOf_eq_ite {b : Bool} {p : Prop} [Decidable p] (h : b = false ↔ p) :
    statusOf b = if p then .ok else .okClamped := by
  cases b with
  | false => exact (if_pos (h.mp rfl)).symm
  | true => exact (if_neg fun hp => Bool.false_ne_true (h.mpr hp).symm).symm

/-! ## Channels of a state -/

theorem State.setChannel_channel (s : State) (id : ChannelId) : s.setChannel id (s.channel id) = s := by
  cases id <;> rfl

theorem State.reform_channel (s : State) (id : ChannelId) :
    s.reform.channel id = (s.channel id).retrigger (combinedTrigger s (s.channel id).mask) := by
  cases id <;> rfl

section
variable {s : State} {id : ChannelId}

theorem exec_onTimeExpiry (hs : s.held = false) {ch : Channel} (h : (s.channel id).onExpires = ch) :
    exec (.onTimeExpiry id) s = .next (s.setChannel id ch).drivePins :=
  h ▸ unlessHeld_live hs fun t => t.setChannel id (t.channel id).onExpires

theorem exec_offTimeExpiry (hs : s.held = false) {ch : Channel} (h : (s.channel id).offExpires = ch) :
    exec (.offTimeExpiry id) s = .next (s.setChannel id ch).drivePins :=
  h ▸ unlessHeld_live hs fun t => t.setChannel id (t.channel id).offExpires

/-- An on-time expiry outside ON, or before the timer has run out, drives the pins alone (log 1). -/
theorem exec_onTimeExpiry_notDue (hs : s.held = false) (h : ¬((s.channel id).state = .on ∧ (s.channel id).timer = some 0)) :
    exec (.onTimeExpiry id) s = .next s.drivePins := by
  rw [exec_onTimeExpiry hs (Channel.onExpires_notDue h), State.setChannel_channel]

theorem exec_offTimeExpiry_notDue (hs : s.held = false)
    (h : ¬((s.channel id).state = .off ∧ (s.channel id).timer = some 0)) :
    exec (.offTimeExpiry id) s = .next s.drivePins := by
  rw [exec_offTimeExpiry hs (Channel.offExpires_notDue h), State.setChannel_channel]

/-- A request that replaces a channel. -/
theorem request_setChannel {r : Instr} (h : Takes s r) {kind tag : Byte} {f : State → Answer} {st : Status}
    {data : ReplyData} {ch : Channel}
    (hf : ∀ k, f { s with control := k } = ⟨st, data, State.setChannel { s with control := k } id ch⟩) :
    request r kind tag f s = .next ((s.replied kind tag st data).setChannel id ch).drivePins :=
  request_taken h (g := fun t => t.setChannel id ch) hf (fun _ => by cases id <;> rfl) fun _ _ => by cases id <;> rfl

end

/-! ## SET PARAMETERS of the cadence group (R154, R155, R170) -/

theorem setParametersCadence_undefined {f : CadenceFields} (h : f.channel = none) (s : State) :
    setParametersCadence f s = refuse .badValue s := by
  unfold setParametersCadence
  rw [h]

theorem setParametersCadence_val {f : CadenceFields} {id : ChannelId} (h : f.channel = some id) (s : State) :
    setParametersCadence f s =
      let ch := (s.channel id).withSettings id f
      ⟨statusOf (cadenceChanged id f), .cadence id ch.onTime ch.offTime ch.burst ch.mask ch.tone,
        s.setChannel id (ch.retrigger (combinedTrigger s f.mask))⟩ := by
  unfold setParametersCadence
  rw [h]
  rfl

/-- The request replaces the channel by the one with the new settings and the trigger of its new mask (R155). -/
theorem request_cadence {s : State} {tag : Byte} {f : CadenceFields} {id : ChannelId}
    (ht : Takes s (.setParametersCadence tag (.fields f))) (hid : f.channel = some id) :
    exec (.setParametersCadence tag (.fields f)) s = .next (State.drivePins
      (let ch := (s.channel id).withSettings id f
      (s.replied 0x03 tag (statusOf (cadenceChanged id f))
        (.cadence id ch.onTime ch.offTime ch.burst ch.mask ch.tone)).setChannel id
          (ch.retrigger (combinedTrigger s f.mask)))) := by
  refine request_setChannel ht fun k => ?_
  rw [Body.run, setParametersCadence_val hid]
  cases id <;> rfl

/-- Settles O53: the phase timers by state and timer, SILENCE and the group's settings on the channel they replace, and the
trigger's events by the state they find. -/
theorem cadenceCommands : Obligations.CadenceCommands := by
  refine ⟨fun s id hs htimer => ⟨exec_onTimeExpiry_notDue hs fun h => htimer h.2,
      exec_offTimeExpiry_notDue hs fun h => htimer h.2⟩,
    fun s id hs => ?_, fun s tag ht => ?_, fun s tag f ht => ⟨fun hnone => ?_, fun id hid => ?_⟩,
    fun ch => ⟨Channel.retrigger_same, Channel.retrigger_true, Channel.retrigger_false⟩,
    fun s id => ⟨s.reform_channel id, rfl, rfl⟩⟩
  · dsimp only
    exact fun htimer => ⟨fun hon => exec_onTimeExpiry hs (Channel.onExpires_due hon htimer),
      fun hoff => exec_offTimeExpiry hs (Channel.offExpires_due hoff htimer),
      fun hon => exec_onTimeExpiry_notDue hs fun h => hon h.1,
      fun hoff => exec_offTimeExpiry_notDue hs fun h => hoff h.1⟩
  · exact request_setChannel (id := .buzz) (f := silence ()) (ch := s.cadence.buzz.silence) ht fun k => rfl
  · exact request_refused ht fun k => setParametersCadence_undefined hnone _
  · have hexec := request_cadence ht hid
    rw [statusOf_eq_ite (cadenceChanged_eq_false_iff (ch := s.channel id))] at hexec
    simp only [← clampCadenceTime_eq]
    exact hexec

end Sys2Proof.Machine
end

section
/-! PROOF. The law of the queues (R164, R165, R167, R168, R179): what it reads of the control link, and which changes of the
link keep it. -/

namespace Sys2Proof.Machine

/-! ## The law on the control link -/

/-- The bounds of the request queue, the report queue and the reply list (R164, R165, R168). -/
structure Control.InBounds (k : Control) : Prop where
  requests : k.requests.length ≤ 4
  reports : k.reports.length ≤ 8
  full : k.replies.countP (fun r => r.status = .full) ≤ 4
  processor : k.replies.countP (fun r => r.status ≠ .full) ≤ 1

/-- Nothing waits while the line is idle (R167). -/
def Control.Settled (k : Control) : Prop := k.sending = none → k.replies = [] ∧ k.reports = []

theorem State.queueLaw_iff (s : State) : s.QueueLaw ↔ s.control.InBounds ∧ s.control.Settled
    ∧ (s.held = true → s.control.sending = none) :=
  ⟨fun ⟨hrequests, hreports, hfull, hprocessor, hsettled, hheld⟩ =>
      ⟨⟨hrequests, hreports, hfull, hprocessor⟩, hsettled, hheld⟩,
    fun ⟨⟨hrequests, hreports, hfull, hprocessor⟩, hsettled, hheld⟩ =>
      ⟨hrequests, hreports, hfull, hprocessor, hsettled, hheld⟩⟩

/-- What the bounds read. -/
def Control.lists (k : Control) : List Instr × List Report × List Reply := (k.requests, k.reports, k.replies)

theorem Control.InBounds.of_lists {k k' : Control} (h : k.InBounds) (hlists : k'.lists = k.lists) : k'.InBounds := by
  simp only [Control.lists, Prod.mk.injEq] at hlists
  obtain ⟨hrequests, hreports, hreplies⟩ := hlists
  exact ⟨hrequests ▸ h.requests, hreports ▸ h.reports, hreplies ▸ h.full, hreplies ▸ h.processor⟩

theorem Control.Settled.of_busy {k : Control} (h : k.sending ≠ none) : k.Settled := fun hidle => absurd hidle h

/-- Without a reply of the processor in the list, the processor is free (R165). -/
theorem Control.processorFree_iff (k : Control) :
    k.processorFree = true ↔ k.replies.countP (fun r => r.status ≠ .full) = 0 := by
  simp [Control.processorFree, List.countP_eq_zero]

/-! ## The transmitter (R167) -/

theorem Control.startNext_replies_sublist (k : Control) : k.startNext.replies.Sublist k.replies := by
  unfold Control.startNext
  split
  · next h => rw [h]; exact List.sublist_cons_self ..
  · exact List.Sublist.refl _
  · exact List.Sublist.refl _

/-- The line stays idle only where nothing waits. -/
theorem Control.startNext_settled (k : Control) : k.startNext.Settled := by
  unfold Control.startNext
  split
  · exact .of_busy nofun
  · exact .of_busy nofun
  · next hreply hreport =>
    intro hidle
    match hreplies : k.replies, hreports : k.reports with
    | [], [] => exact ⟨rfl, rfl⟩
    | [], r :: rs => exact absurd hreports (hreport r rs hidle hreplies)
    | r :: rs, _ => exact absurd hreplies (hreply r rs hidle)

theorem Control.startNext_busy {k : Control} (h : k.sending ≠ none) : k.startNext.sending ≠ none := by
  rwa [Control.startNext_sending h]

theorem Control.InBounds.startNext {k : Control} (h : k.InBounds) : k.startNext.InBounds where
  requests := k.startNext_requests ▸ h.requests
  reports := k.startNext_reports_length.trans h.reports
  full := (k.startNext_replies_sublist.countP_le).trans h.full
  processor := (k.startNext_replies_sublist.countP_le).trans h.processor

/-! ## Changes that keep the law -/

/-- The control link `k'` has lost requests and replies at most, its report queue has kept its bound, a frame is being sent
if one was, and nothing waits on an idle line if nothing did: what reports and counts do to it. -/
structure LineKept (k k' : Control) : Prop where
  requests : k'.requests.length ≤ k.requests.length
  reports : k.reports.length ≤ 8 → k'.reports.length ≤ 8
  replies : k'.replies.Sublist k.replies
  busy : k.sending ≠ none → k'.sending ≠ none
  settled : k.Settled → k'.Settled

namespace LineKept

theorem refl (k : Control) : LineKept k k := ⟨Nat.le_refl _, id, .refl _, id, id⟩

theorem trans {k k' k'' : Control} (a : LineKept k k') (b : LineKept k' k'') : LineKept k k'' :=
  ⟨b.requests.trans a.requests, b.reports ∘ a.reports, b.replies.trans a.replies, b.busy ∘ a.busy, b.settled ∘ a.settled⟩

/-- Receiver, counters and lost count are no part of the law. -/
theorem countEvents (k : Control) (e : StatEvent) (c : Option Cam) (n : Nat) : LineKept k (k.countEvents e c n) :=
  ⟨Nat.le_refl _, id, .refl _, id, id⟩

theorem queueReport (k : Control) (r : Report) : LineKept k (k.queueReport r) where
  requests := (k.queueReport_requests r).symm ▸ Nat.le_refl _
  reports h := Control.queueReport_length h r
  replies := by
    unfold Control.queueReport
    split
    · exact Control.startNext_replies_sublist _
    · exact .refl _
  busy h := by rwa [(Control.queueReport_kept h r).1]
  settled h := by
    unfold Control.queueReport
    split
    · exact Control.startNext_settled _
    · exact h

theorem queueAll (k : Control) (rs : List Report) : LineKept k (k.queueAll rs) := by
  induction rs generalizing k with
  | nil => exact refl k
  | cons r rs ih => exact (queueReport k r).trans (ih _)

/-- RESTART empties two queues (R171). -/
theorem restarted (k : Control) : LineKept k k.restarted where
  requests := Nat.zero_le _
  reports _ := Nat.zero_le _
  replies := .refl _
  busy h := h
  settled h hidle := ⟨(h hidle).1, rfl⟩

end LineKept

theorem Control.InBounds.kept {k k' : Control} (h : k.InBounds) (hkept : LineKept k k') : k'.InBounds where
  requests := hkept.requests.trans h.requests
  reports := hkept.reports h.reports
  full := hkept.replies.countP_le.trans h.full
  processor := hkept.replies.countP_le.trans h.processor

/-! ## Arrivals (R164) -/

/-- A FULL reply is made where less than four wait (R167). -/
theorem Control.InBounds.replyFull {k : Control} (h : k.InBounds) (kind tag : Byte) : (k.replyFull kind tag).InBounds := by
  unfold Control.replyFull
  split
  · exact h.kept (.countEvents ..)
  · next hfew =>
    refine Control.InBounds.startNext ⟨h.requests, h.reports, ?_, ?_⟩
    · rw [List.countP_append, List.countP_singleton]
      simp only [decide_true, if_true]
      omega
    · rw [List.countP_append, List.countP_singleton]
      simpa using h.processor

theorem Control.Settled.replyFull {k : Control} (h : k.Settled) (kind tag : Byte) : (k.replyFull kind tag).Settled := by
  unfold Control.replyFull
  split
  · exact h
  · exact Control.startNext_settled _

theorem Control.InBounds.arrive {k : Control} (h : k.InBounds) (r : Instr) (kind tag : Byte) :
    (k.arrive r kind tag).InBounds := by
  unfold Control.arrive
  split
  · next hroom =>
    exact ⟨by simpa using hroom, h.reports, h.full, h.processor⟩
  · exact h.replyFull kind tag

theorem Control.Settled.arrive {k : Control} (h : k.Settled) (r : Instr) (kind tag : Byte) :
    (k.arrive r kind tag).Settled := by
  unfold Control.arrive
  split
  · exact h
  · exact h.replyFull kind tag

end Sys2Proof.Machine
end

section
/-! PROOF. Every event of a camera link and of the situation selector keeps the queues: it reports and counts, and leaves
requests and replies (R8 to R27, R123, R126, R134 to R145, R168, R174). -/

namespace Sys2Proof.Machine

/-- PANE_ALT counted for the chosen alternates (R71). -/
theorem LineKept.countAllChosen (l : List (Option ChosenSource)) (k : Control) :
    LineKept k (l.foldl Control.countChosen k) := by
  induction l generalizing k with
  | nil => exact .refl k
  | cons x l ih =>
    refine .trans ?_ (ih _)
    unfold Control.countChosen
    split
    · exact .countEvents ..
    · exact .refl k

/-- What the law of the queues reads of a state. -/
def State.queues (s : State) : Bool × Control := (s.held, s.control)

/-- What an event other than RESET leaves: the held flag, and the control link but for reports and counts. -/
structure QueueKept (s t : State) : Prop where
  held : t.held = s.held
  line : LineKept s.control t.control

namespace QueueKept

theorem refl (s : State) : QueueKept s s := ⟨rfl, .refl _⟩

theorem trans {s t u : State} (a : QueueKept s t) (b : QueueKept t u) : QueueKept s u :=
  ⟨b.held.trans a.held, a.line.trans b.line⟩

theorem foldl {α : Type} {f : State → α → State} (h : ∀ t a, QueueKept t (f t a)) (l : List α) (s : State) :
    QueueKept s (l.foldl f s) := by
  induction l generalizing s with
  | nil => exact refl s
  | cons a l ih => exact (h s a).trans (ih (f s a))

/-- A change of the blocks beside the control link. -/
theorem of_queues {s t : State} (h : t.queues = s.queues) : QueueKept s t := by
  obtain ⟨hheld, hcontrol⟩ := Prod.mk.inj h
  exact ⟨hheld, hcontrol ▸ .refl _⟩

theorem of_reports {s t : State} {rs : List Report} (hheld : t.held = s.held)
    (hcontrol : t.control = s.control.queueAll rs) : QueueKept s t :=
  ⟨hheld, hcontrol ▸ .queueAll ..⟩

theorem countTimes (s : State) (e : StatEvent) (c : Cam) (n : Nat) : QueueKept s (s.countTimes e c n) :=
  ⟨rfl, .countEvents ..⟩

theorem count (s : State) (e : StatEvent) (c : Cam) : QueueKept s (s.count e c) := countTimes ..

theorem queueReport (s : State) (r : Report) : QueueKept s (s.queueReport r) := ⟨rfl, .queueReport ..⟩

section
variable {s : State} {c : Cam}

theorem setPort {p : Port} : QueueKept s (s.setPort c p) := of_queues rfl

theorem reform : QueueKept s s.reform := of_queues rfl

theorem refreshHazard : QueueKept s s.refreshHazard :=
  of_reports (linkOnly_refreshHazard s).held s.refreshHazard_control

theorem rederive : QueueKept s (s.rederive c) := of_reports (linkOnly_rederive s c).held (s.rederive_control c)

theorem judgeClarity (cl : Clarity) : QueueKept s (s.judgeClarity c cl) :=
  of_reports (linkOnly_judgeClarity s c cl).held (State.judgeClarity_control s c cl)

/-! ## Link state changes (R8, R12, R17) -/

theorem setLink (l : LinkState) (cause : LinkCause) : QueueKept s (s.setLink c l cause) :=
  of_reports (linkOnly_setLink s c l cause).held (s.setLink_control c l cause)

theorem goOffUnlessOff (cause : LinkCause) : QueueKept s (s.goOffUnlessOff c cause) := by
  unfold State.goOffUnlessOff State.goOff
  split
  · exact refl s
  · exact (trans (of_queues (by rfl)) (setLink (c := c) .off cause)).trans reform

theorem leaveOff : QueueKept s (s.leaveOff c) := by
  unfold State.leaveOff
  dsimp only
  split
  · split
    · exact setPort.trans (setLink ..)
    · exact setLink ..
  · exact refl s

theorem offer (m : CamMode) : QueueKept s (s.offer c m) := by
  rw [State.offer_eq]
  exact of_queues rfl

theorem beginSequence (m : CamMode) : QueueKept s (s.beginSequence c m) := by
  rw [State.beginSequence_eq]
  exact of_queues rfl

theorem enterRefused (cause : LinkCause) : QueueKept s (s.enterRefused c cause) := setPort.trans (setLink ..)

/-! ## Carrier, ANNOUNCE, training, preference (R9 to R16) -/

theorem gainCarrier : QueueKept s (s.gainCarrier c) := by
  unfold State.gainCarrier
  dsimp only
  split
  · exact setPort.trans (setLink ..)
  · exact setPort

theorem loseCarrier : QueueKept s (s.loseCarrier c) := by
  unfold State.loseCarrier
  dsimp only
  split
  case h_1 | h_2 => exact setPort.trans (setLink ..)
  case h_3 | h_4 => exact (setPort.trans (count ..)).trans (setLink ..)
  all_goals exact setPort

theorem announceArrives (r : AnnounceRecord) (good : Bool) : QueueKept s (s.announceArrives c r good) := by
  unfold State.announceArrives
  dsimp only
  split
  · unfold State.takeAnnounce
    dsimp only
    split
    · exact setPort.trans (enterRefused ..)
    · split
      · exact setPort.trans (beginSequence _)
      · exact (setPort.trans (beginSequence _)).trans (setLink ..)
  · exact refl s

theorem announceExpires : QueueKept s (s.announceExpires c) := by
  unfold State.announceExpires
  dsimp only
  split
  · split
    · exact setPort
    · exact setPort.trans (enterRefused ..)
  · exact refl s

theorem judgeAttempt : QueueKept s (s.judgeAttempt c) := by
  unfold State.judgeAttempt
  dsimp only
  split
  · exact trans (of_queues (by rfl)) (setLink (c := c) ..)
  · split
    · split
      · exact setPort.trans (count ..)
      · exact ((setPort.trans (count ..)).trans (offer ..)).trans setPort
    · exact (setPort.trans (count ..)).trans (enterRefused ..)

theorem trainSegment (i : Nat) (good : Bool) : QueueKept s (s.trainSegment c i good) := by
  unfold State.trainSegment
  dsimp only
  split
  · exact refl s
  · split
    · exact setPort
    · split
      · exact setPort.trans judgeAttempt
      · exact setPort

theorem trainExpires : QueueKept s (s.trainExpires c) := by
  unfold State.trainExpires
  dsimp only
  split
  · exact setPort.trans judgeAttempt
  · exact refl s

theorem backRecordSent : QueueKept s (s.backRecordSent c) := by
  unfold State.backRecordSent
  dsimp only
  split
  · exact refl s
  · exact setPort

theorem takePreference (ms : List CamMode) : QueueKept s (s.takePreference c ms) := by
  unfold State.takePreference
  dsimp only
  split
  · split
    · exact setPort.trans (enterRefused ..)
    · split
      · exact (setPort.trans (beginSequence _)).trans (setLink ..)
      · exact setPort.trans (beginSequence _)
  · exact setPort

/-! ## Frames (R18 to R23, R89) -/

theorem judgeFrame : QueueKept s (s.judgeFrame c) := by
  unfold State.judgeFrame
  dsimp only
  split
  · exact setPort
  · split
    · exact setPort
    · split
      · exact ((setPort.trans (count ..)).trans (beginSequence _)).trans (setLink ..)
      · exact setPort.trans (queueReport ..)

theorem frameClose : QueueKept s (s.frameClose c) := by
  have htoned : QueueKept s (s.toned c) := by
    refine ⟨(linkOnly_toneClose (s.frameEnds c) c).held, ?_⟩
    rw [State.toned_control]
    exact .countEvents ..
  obtain ⟨_, -, hstore⟩ := State.storeAndClarityClose_control (s := s.toned c) (c := c)
  have hclosed : QueueKept (s.toned c) (s.closed c) :=
    (of_reports (linkOnly_storeAndClarityClose ..).held hstore).trans
      (of_reports (linkOnly_zoneClose ..).held (State.zoneClose_control ..))
  rw [State.frameClose_eq]
  exact (htoned.trans hclosed).trans judgeFrame

theorem trailerArrives (n : Byte) (good : Bool) : QueueKept s (s.trailerArrives c n good) := by
  unfold State.trailerArrives
  dsimp only
  split
  · exact refl s
  · split
    · exact count ..
    · split
      · exact refl s
      · split
        · exact frameClose
        · exact (count ..).trans frameClose

theorem segmentArrives (i : Nat) (body : SegmentBody) (good : Bool) : QueueKept s (s.segmentArrives c i body good) := by
  unfold State.segmentArrives
  dsimp only
  split
  · exact refl s
  · split
    · exact count ..
    · exact refl s
    · split
      · exact count ..
      · have hwritten : QueueKept s (s.writeSegment c i body) := of_queues rfl
        exact hwritten.trans ((countTimes ..).trans setPort)

theorem applyChanges : QueueKept s (s.applyChanges c) := by
  have hchanged : QueueKept s (s.changed c) := of_queues rfl
  rw [State.applyChanges_eq]
  refine (hchanged.trans (.foldl (fun t k => ?_) allCams _)).trans refreshHazard
  split
  · exact judgeClarity _
  · exact refl t

theorem takeHeader (h : HeaderRecord) : QueueKept s (s.takeHeader c h) := by
  have hclose : QueueKept s (if (s.port c).phase = .opened then (s.count .frameTruncated c).frameClose c else s) := by
    split
    · exact (count ..).trans frameClose
    · exact refl s
  have hopen : ∀ (u : State) m, QueueKept u (u.openFrame c h m) := fun u m => by
    unfold State.openFrame
    dsimp only
    split
    · exact (count u .frameGap c).trans (of_queues (by rfl))
    · exact of_queues rfl
  have hignore : ∀ u : State, QueueKept u (u.ignoreFrame c) := fun u => (count ..).trans setPort
  unfold State.takeHeader
  dsimp only
  generalize (if (s.port c).phase = .opened then (s.count .frameTruncated c).frameClose c else s) = t at hclose ⊢
  split
  · exact hclose
  · refine hclose.trans ((applyChanges (c := c)).trans ?_)
    split
    · split
      · exact hopen ..
      · exact hignore _
    · exact hignore _

theorem headerArrives (h : HeaderRecord) (good : Bool) : QueueKept s (s.headerArrives c h good) := by
  unfold State.headerArrives
  split
  · exact refl s
  · split
    · exact takeHeader h
    · exact count ..

/-! ## The situation selector (R134 to R142) -/

theorem endForce (cause : ForceCause) : QueueKept s (s.endForce cause) := by
  unfold State.endForce
  split
  · exact refl s
  · exact trans (of_queues (by rfl)) (queueReport ..)

theorem rerank : QueueKept s s.rerank := of_reports (selectorOnly_rerank s).held (State.takeSituation_control ..)

theorem vehicleTimeout : QueueKept s s.vehicleTimeout := by
  unfold State.vehicleTimeout
  split
  · exact trans (of_queues (by rfl)) rerank
  · exact refl s

theorem turnDwellExpires : QueueKept s s.turnDwellExpires := by
  unfold State.turnDwellExpires
  split
  · exact trans (of_queues (by rfl)) rerank
  · exact refl s

theorem forceTimerExpires : QueueKept s s.forceTimerExpires := by
  unfold State.forceTimerExpires
  split
  · exact endForce _
  · exact refl s

theorem viewDwellExpires : QueueKept s s.viewDwellExpires := by
  unfold State.viewDwellExpires
  split
  · exact of_queues rfl
  · exact refl s

/-! ## Zones, display, output frame start (R72, R84, R126) -/

theorem holdExpires (w : WindowId) : QueueKept s (s.holdExpires w) := by
  unfold State.holdExpires
  split
  · split
    · exact trans (of_queues (by rfl)) refreshHazard
    · exact refl s
  · exact refl s

theorem senseExpires : QueueKept s s.senseExpires := by
  unfold State.senseExpires
  split
  · exact trans (of_queues (by rfl)) (queueReport ..)
  · exact refl s

theorem setChannel (id : ChannelId) (ch : Channel) : QueueKept s (s.setChannel id ch) := by
  cases id <;> exact of_queues rfl

theorem storeFrameStart : QueueKept s s.storeFrameStart :=
  of_reports (linkOnly_storeFrameStart s).held s.storeFrameStart_control

/-- What is drawn queues reports, and then the source choice counts PANE_ALT (R71). -/
theorem drawn (r : State) : QueueKept r r.drawn := by
  obtain ⟨choice, hdrawn⟩ := r.drawn_eq
  rw [hdrawn]
  exact ⟨rfl, .trans (.queueAll ..) (.countAllChosen ..)⟩

theorem frameStart : QueueKept s s.frameStart := storeFrameStart.trans (drawn _)

end

end QueueKept

end Sys2Proof.Machine
end

section
/-! PROOF. The effects of the requests keep the queues, and none answers FULL, which is the arrival's status alone
(R164 to R166). -/

namespace Sys2Proof.Machine

/-- A request's effect keeps the queues, and the status of its reply is not FULL. -/
structure Answered (s : State) (a : Answer) : Prop where
  status : a.status ≠ .full
  kept : QueueKept s a.state

/-- The effect of a request, on every state. -/
def AnswersInTurn (f : State → Answer) : Prop := ∀ s, Answered s (f s)

/-- A request that leaves the control link. -/
theorem Answered.inPlace {s t : State} {st : Status} {data : ReplyData} (hst : st ≠ .full) (h : t.queues = s.queues) :
    Answered s ⟨st, data, t⟩ :=
  ⟨hst, .of_queues h⟩

theorem statusOf_ne_full (clamped : Bool) : statusOf clamped ≠ .full := by cases clamped <;> nofun

theorem Answered.clamped {s t : State} {b : Bool} {data : ReplyData} (h : QueueKept s t) :
    Answered s ⟨statusOf b, data, t⟩ :=
  ⟨statusOf_ne_full b, h⟩

theorem AnswersInTurn.run {α : Type} {f : α → State → Answer} (h : ∀ x, AnswersInTurn (f x)) (b : Body α) :
    AnswersInTurn (Body.run b f) := by
  cases b with
  | badLength => exact fun _ => .inPlace nofun rfl
  | fields x => exact h x

/-! ## Requests of one block beside the control link -/

theorem answersInTurn_identify (x : Unit) : AnswersInTurn (identify x) := fun _ => .inPlace nofun rfl

theorem answersInTurn_counterRead (x : Unit) : AnswersInTurn (counterRead x) := fun _ => .inPlace nofun rfl

theorem answersInTurn_unknownRequest (kind : Byte) : AnswersInTurn (unknownRequest kind) := by
  intro s
  unfold unknownRequest
  repeat' split
  all_goals exact .inPlace nofun rfl

theorem answersInTurn_link (p : LinkParams) : AnswersInTurn (setParametersLink p) := fun _ => .clamped (.of_queues rfl)

theorem answersInTurn_toneLimits (p : ToneLimits) : AnswersInTurn (setParametersToneLimits p) :=
  fun _ => .clamped (.of_queues rfl)

theorem answersInTurn_clarityLimits (p : ClarityLimits) : AnswersInTurn (setParametersClarityLimits p) :=
  fun _ => .clamped (.of_queues rfl)

theorem answersInTurn_zone (p : ZoneParams) : AnswersInTurn (setParametersZone p) := fun _ => .clamped (.of_queues rfl)

theorem answersInTurn_tone (f : ToneFields) : AnswersInTurn (setParametersTone f) := by
  intro s
  unfold setParametersTone
  split
  · exact .inPlace nofun rfl
  · exact .clamped (.of_queues rfl)

theorem answersInTurn_clarity (f : ClarityFields) : AnswersInTurn (setParametersClarity f) := by
  intro s
  unfold setParametersClarity
  split
  · exact .inPlace nofun rfl
  · split
    · exact .inPlace nofun rfl
    · exact .clamped (.of_queues rfl)

theorem answersInTurn_cadence (f : CadenceFields) : AnswersInTurn (setParametersCadence f) := by
  intro s
  unfold setParametersCadence
  split
  · exact .inPlace nofun rfl
  · exact .clamped (.setChannel ..)

theorem answersInTurn_silence (x : Unit) : AnswersInTurn (silence x) := fun _ => .inPlace nofun rfl

theorem answersInTurn_seamSet (f : SeamFields) : AnswersInTurn (seamSet f) := by
  intro s
  unfold seamSet
  repeat' split
  all_goals exact .inPlace nofun rfl

theorem answersInTurn_windowSet (f : WindowFields) : AnswersInTurn (windowSet f) := by
  intro s
  unfold windowSet
  dsimp only
  repeat' split
  all_goals exact .inPlace nofun rfl

theorem answersInTurn_windowDrop (id : Nat) : AnswersInTurn (windowDrop id) := by
  intro s
  unfold windowDrop
  dsimp only
  repeat' split
  all_goals exact .inPlace nofun rfl

theorem answersInTurn_readMeter (id : Nat) : AnswersInTurn (readMeter id) := by
  intro s
  unfold readMeter
  split <;> exact .inPlace nofun rfl

theorem answersInTurn_readCamera (camera : Nat) : AnswersInTurn (readCamera camera) := by
  intro s
  unfold readCamera
  split <;> exact .inPlace nofun rfl

theorem answersInTurn_readTable (f : ReadTableFields) : AnswersInTurn (readTable f) := by
  intro s
  unfold readTable
  split <;> exact .inPlace nofun rfl

theorem answersInTurn_gridBegin (f : GridBeginFields) : AnswersInTurn (gridBegin f) := by
  intro s
  unfold gridBegin
  repeat' split
  all_goals exact .inPlace nofun rfl

theorem answersInTurn_gridNodes (f : GridNodesFields) : AnswersInTurn (gridNodes f) := by
  intro s
  unfold gridNodes
  repeat' split
  all_goals exact .inPlace nofun rfl

theorem answersInTurn_gridEnd (id : Nat) : AnswersInTurn (gridEnd id) := by
  intro s
  unfold gridEnd
  repeat' split
  all_goals exact .inPlace nofun rfl

theorem answersInTurn_gridDrop (id : Nat) : AnswersInTurn (gridDrop id) := by
  intro s
  unfold gridDrop
  repeat' split
  all_goals exact .inPlace nofun rfl

theorem answersInTurn_shapeSet (f : ShapeFields) : AnswersInTurn (shapeSet f) := by
  intro s
  unfold shapeSet
  repeat' split
  all_goals exact .inPlace nofun rfl

theorem answersInTurn_shapeDrop (id : Nat) : AnswersInTurn (shapeDrop id) := by
  intro s
  unfold shapeDrop
  repeat' split
  all_goals exact .inPlace nofun rfl

theorem answersInTurn_setOverlayList (f : OverlayListFields) : AnswersInTurn (setOverlayList f) := by
  intro s
  unfold setOverlayList
  repeat' split
  all_goals exact .inPlace nofun rfl

theorem answersInTurn_viewSet (f : ViewSetFields) : AnswersInTurn (viewSet f) := by
  intro s
  unfold viewSet
  split <;> exact .inPlace nofun rfl

theorem answersInTurn_paneSet (f : PaneSetFields) : AnswersInTurn (paneSet f) := by
  intro s
  unfold paneSet
  dsimp only
  repeat' split
  all_goals exact .inPlace nofun rfl

theorem answersInTurn_paneDrop (f : PaneDropFields) : AnswersInTurn (paneDrop f) := by
  intro s
  unfold paneDrop
  dsimp only
  repeat' split
  all_goals exact .inPlace nofun rfl

theorem answersInTurn_viewMapSet (pairs : List (Nat × Nat)) : AnswersInTurn (viewMapSet pairs) := by
  intro s
  unfold viewMapSet
  repeat' split
  all_goals exact .inPlace nofun rfl

theorem answersInTurn_applyTables (x : Unit) : AnswersInTurn (applyTables x) := by
  intro s
  unfold applyTables
  split <;> exact .inPlace nofun rfl

/-! ## Requests of the control link (R172, R175) -/

theorem answersInTurn_status (x : Unit) : AnswersInTurn (status x) :=
  fun _ => ⟨nofun, rfl, Nat.le_refl _, id, .refl _, id, id⟩

theorem answersInTurn_counterSelect (f : CounterFields) : AnswersInTurn (counterSelect f) := by
  intro s
  unfold counterSelect
  split
  · exact ⟨nofun, rfl, Nat.le_refl _, id, .refl _, id, id⟩
  · exact .inPlace nofun rfl

/-! ## Requests with reports -/

theorem answersInTurn_store (p : StoreParams) : AnswersInTurn (setParametersStore p) := fun s =>
  .clamped (.trans (.of_queues (by rfl)) (.foldl (fun _ _ => .rederive) allCams _))

theorem answersInTurn_situation (p : SituationParams) : AnswersInTurn (setParametersSituation p) := fun s =>
  .clamped (.trans (.of_queues (by rfl)) .rerank)

theorem answersInTurn_vehicleState (record : List Byte) : AnswersInTurn (vehicleState record) := by
  intro s
  unfold vehicleState
  split
  · exact .inPlace nofun rfl
  · exact .inPlace nofun rfl
  · exact .clamped (.trans (.of_queues (by rfl)) .rerank)

theorem answersInTurn_forceView (f : ForceFields) : AnswersInTurn (forceView f) := by
  intro s
  unfold forceView
  split
  · split
    · exact .inPlace nofun rfl
    · exact .clamped (.trans (.endForce .replaced) (.of_queues (by rfl)))
  · exact .inPlace nofun rfl

theorem answersInTurn_releaseView (x : Unit) : AnswersInTurn (releaseView x) := by
  intro s
  unfold releaseView
  split
  · exact ⟨nofun, .endForce _⟩
  · exact .inPlace nofun rfl

theorem answersInTurn_portEnable (port : Nat) : AnswersInTurn (portEnable port) := by
  intro s
  unfold portEnable
  split
  · exact .inPlace nofun rfl
  · exact ⟨nofun, (QueueKept.setPort.trans .leaveOff).trans .reform⟩

theorem answersInTurn_portDisable (port : Nat) : AnswersInTurn (portDisable port) := by
  intro s
  unfold portDisable
  split
  · exact .inPlace nofun rfl
  · exact ⟨nofun, ((QueueKept.setPort.trans (.goOffUnlessOff .disabled)).trans .refreshHazard).trans .reform⟩

theorem answersInTurn_linkRestart (port : Nat) : AnswersInTurn (linkRestart port) := by
  intro s
  unfold linkRestart
  split
  · exact .inPlace nofun rfl
  · split
    · exact ⟨nofun, QueueKept.setPort.trans (.setLink ..)⟩
    · exact .inPlace nofun rfl

theorem answersInTurn_portPreference (f : PreferenceFields) : AnswersInTurn (portPreference f) := by
  intro s
  unfold portPreference
  split
  · exact ⟨nofun, .takePreference _⟩
  · exact .inPlace nofun rfl

/-! ## MODE and RESTART (R171, R176 to R178, R180) -/

theorem QueueKept.leaveRun (s : State) (m : OpMode) (cause : LinkCause) : QueueKept s (s.leaveRun m cause) := by
  have hleft : QueueKept s { s with mode := m, cadence := s.cadence.leaveRun } := .of_queues rfl
  unfold State.leaveRun
  exact (hleft.trans (.foldl (fun _ _ => .goOffUnlessOff cause) allCams _)).trans .refreshHazard

theorem QueueKept.enterRun (s : State) : QueueKept s s.enterRun := by
  have hentered : QueueKept s { s with mode := .run } := .of_queues rfl
  unfold State.enterRun
  exact (hentered.trans (.foldl (fun _ _ => .leaveOff) allCams _)).trans .reform

theorem Answered.mode {s t : State} {st : Status} (hst : st ≠ .full) (h : QueueKept s t) : Answered s (modeAnswer st t) :=
  ⟨hst, h⟩

theorem answersInTurn_modeConfig (x : Unit) : AnswersInTurn (modeConfig x) := by
  intro s
  unfold modeConfig
  split
  · exact .inPlace nofun rfl
  · exact .mode nofun (.leaveRun ..)
  · exact .inPlace nofun rfl

theorem answersInTurn_modeRun (x : Unit) : AnswersInTurn (modeRun x) := by
  intro s
  unfold modeRun
  split
  · exact .inPlace nofun rfl
  all_goals
    split
    · exact .inPlace nofun rfl
    · exact .mode nofun (.enterRun s)

theorem answersInTurn_modeStandby (x : Unit) : AnswersInTurn (modeStandby x) := by
  intro s
  unfold modeStandby
  split
  · exact .inPlace nofun rfl
  · exact .mode nofun (.leaveRun ..)
  · exact .inPlace nofun rfl

theorem answersInTurn_restart (x : Unit) : AnswersInTurn (restart x) := by
  intro s
  refine ⟨nofun, ?_⟩
  have hcleared : QueueKept s { s with control := s.control.restarted, mode := .config, cadence := s.cadence.leaveRun } :=
    ⟨rfl, .restarted _⟩
  have hoff := hcleared.trans (.foldl (fun _ c => .goOffUnlessOff (c := c) .restarted) allCams _)
  unfold restart
  dsimp only
  generalize allCams.foldl _ _ = t at hoff ⊢
  exact (hoff.trans (.of_queues (by rfl))).trans .refreshHazard

end Sys2Proof.Machine
end

section
/-! PROOF. Every step keeps the law of the queues: a request taken or arriving, the receiver and the transmitter, RESET, and the
events that report and count (R163 to R168, R179). -/

namespace Sys2Proof.Machine

/-! ## Requests (R164, R165) -/

theorem QueueKept.queueLaw {s t : State} (h : QueueKept s t) (hs : s.QueueLaw) (hlive : s.held = false) : t.QueueLaw := by
  obtain ⟨hbounds, hsettled, -⟩ := s.queueLaw_iff.mp hs
  refine t.queueLaw_iff.mpr ⟨hbounds.kept h.line, h.line.settled hsettled, fun hheld => ?_⟩
  rw [h.held, hlive] at hheld
  exact absurd hheld Bool.false_ne_true

/-- A control link within the law, in a part that is not held. -/
theorem queueLaw_withControl {s : State} {k : Control} (hlive : s.held = false) (hbounds : k.InBounds)
    (hsettled : k.Settled) : State.QueueLaw { s with control := k } :=
  (State.queueLaw_iff _).mpr ⟨hbounds, hsettled, fun hheld => absurd (hlive.symm.trans hheld) Bool.false_ne_true⟩

/-- The reply of the processor is made while it has none in the list: its bound is kept, the line is busy (R165, R167). -/
theorem answerWith_queueLaw {s : State} (hlive : s.held = false) (hbounds : s.control.InBounds)
    (hfree : s.control.processorFree = true) {f : State → Answer} (hf : AnswersInTurn f) (kind tag : Byte) :
    (answerWith kind tag f s).QueueLaw := by
  unfold answerWith
  split
  · have hsent : Control.InBounds { s.control with sending := some (.reply ⟨replyKind kind, tag, .ok, .none⟩) } :=
      hbounds.of_lists rfl
    obtain ⟨-, hheld, hline⟩ :=
      hf { s with control := { s.control with sending := some (.reply ⟨replyKind kind, tag, .ok, .none⟩) } }
    exact queueLaw_withControl (hheld.trans hlive) ((hsent.kept hline).of_lists rfl) (.of_busy nofun)
  · next hbusy =>
    obtain ⟨hstatus, hheld, hline⟩ := hf s
    obtain ⟨hrequests, hreports, hfull, -⟩ := hbounds.kept hline
    have hnone := (Control.processorFree_iff _).mp hfree
    have hkept := hline.replies.countP_le (p := fun r => decide (r.status ≠ .full))
    refine queueLaw_withControl (hheld.trans hlive) ⟨hrequests, hreports, ?_, ?_⟩ (.of_busy (hline.busy hbusy))
    · simpa [List.countP_append, hstatus] using hfull
    · rw [List.countP_append, List.countP_singleton]
      simp only [ne_eq, hstatus, not_false_eq_true, decide_true, if_true]
      simp only [ne_eq] at hnone hkept
      omega

theorem serve_queueLaw {s : State} (hs : s.QueueLaw) (hlive : s.held = false) {f : State → Answer} (hf : AnswersInTurn f)
    (r : Instr) (kind tag : Byte) : (s.serve r kind tag f).QueueLaw := by
  obtain ⟨hbounds, hsettled, -⟩ := s.queueLaw_iff.mp hs
  unfold State.serve
  dsimp only
  have hk : Control.InBounds (if s.control.requests.head? = some r then s.control else s.control.arrive r kind tag)
      ∧ Control.Settled (if s.control.requests.head? = some r then s.control else s.control.arrive r kind tag) := by
    split
    · exact ⟨hbounds, hsettled⟩
    · exact ⟨hbounds.arrive r kind tag, hsettled.arrive r kind tag⟩
  generalize (if s.control.requests.head? = some r then s.control else s.control.arrive r kind tag) = k at hk ⊢
  obtain ⟨hkbounds, hksettled⟩ := hk
  split
  · next htake =>
    obtain ⟨hrequests, hreports, hfull, hprocessor⟩ := hkbounds
    have htail : k.requests.tail.length ≤ 4 := by rw [List.length_tail]; omega
    have hfree : k.processorFree = true := (Bool.and_eq_true_iff.mp htake).2
    exact answerWith_queueLaw (s := { s with control := { k with requests := k.requests.tail } }) hlive
      ⟨htail, hreports, hfull, hprocessor⟩ hfree hf kind tag
  · exact queueLaw_withControl hlive hkbounds hksettled

/-! ## Receiver and transmitter (R163, R164, R167) -/

/-- A change of the control link alone that keeps the law on it. -/
def Control.KeepsQueues (f : Control → Control) : Prop :=
  ∀ k, k.InBounds → k.Settled → (f k).InBounds ∧ (f k).Settled

theorem Control.keepsQueues_complete (high : Byte) (low : LineByte) : KeepsQueues fun k => k.complete high low := by
  intro k hbounds hsettled
  have hhunting : Control.InBounds { k with rx := .initial } := hbounds.of_lists rfl
  have hidle : Control.Settled { k with rx := .initial } := hsettled
  unfold Control.complete
  dsimp only
  split
  · exact ⟨hhunting.arrive .., hidle.arrive _ _ _⟩
  · exact ⟨hhunting.kept (.countEvents ..), hidle⟩

theorem Control.keepsQueues_completeWith (b : LineByte) : KeepsQueues fun k => k.completeWith b := by
  intro k hbounds hsettled
  dsimp only
  unfold Control.completeWith
  split
  · exact keepsQueues_complete _ b k hbounds hsettled
  · exact ⟨hbounds, hsettled⟩

theorem Control.keepsQueues_receive (b : LineByte) : KeepsQueues fun k => k.receive b := by
  intro k hbounds hsettled
  dsimp only
  unfold Control.receive
  split
  · exact keepsQueues_complete _ b k hbounds hsettled
  · exact ⟨hbounds.of_lists rfl, hsettled⟩

theorem Control.keepsQueues_gapExpires : KeepsQueues Control.gapExpires := by
  intro k hbounds hsettled
  unfold Control.gapExpires
  split
  · exact ⟨hbounds.of_lists rfl, hsettled⟩
  · exact ⟨hbounds, hsettled⟩

theorem Control.keepsQueues_sendEnd : KeepsQueues Control.sendEnd := by
  intro k hbounds hsettled
  unfold Control.sendEnd
  split
  · exact ⟨Control.InBounds.startNext (hbounds.of_lists rfl), Control.startNext_settled _⟩
  · exact ⟨hbounds, hsettled⟩

/-! ## Every command -/

theorem unlessHeld_queueLaw {f : State → State} {s t : State} (h : unlessHeld s f = .next t) (hs : s.QueueLaw)
    (hf : s.held = false → (f s).QueueLaw) : t.QueueLaw := by
  cases hheld : s.held with
  | false =>
    cases (unlessHeld_live hheld f).symm.trans h
    exact hf hheld
  | true =>
    unfold unlessHeld commit at h
    rw [if_pos hheld] at h
    cases h
    exact hs

theorem unlessHeld_keepsQueues {f : State → State} {s t : State} (h : unlessHeld s f = .next t) (hs : s.QueueLaw)
    (hf : QueueKept s (f s)) : t.QueueLaw :=
  unlessHeld_queueLaw h hs (hf.queueLaw hs)

theorem unlessHeld_control_queueLaw {f : Control → Control} {s t : State}
    (h : unlessHeld s (fun t => { t with control := f t.control }) = .next t) (hs : s.QueueLaw)
    (hf : Control.KeepsQueues f) : t.QueueLaw := by
  obtain ⟨hbounds, hsettled, -⟩ := s.queueLaw_iff.mp hs
  obtain ⟨hbounds', hsettled'⟩ := hf s.control hbounds hsettled
  exact unlessHeld_queueLaw h hs fun hlive => queueLaw_withControl hlive hbounds' hsettled'

theorem request_queueLaw {f : State → Answer} {r : Instr} {kind tag : Byte} {s t : State}
    (h : request r kind tag f s = .next t) (hs : s.QueueLaw) (hf : AnswersInTurn f) : t.QueueLaw :=
  unlessHeld_queueLaw (f := fun t => t.serve r kind tag f) h hs fun hlive => serve_queueLaw hs hlive hf r kind tag

theorem queueLaw_atPowerOn (levels : PowerInputs) (epoch choices : Nat) (q : List Instr) :
    (State.atPowerOn levels epoch choices q).QueueLaw :=
  (State.queueLaw_iff _).mpr ⟨⟨Nat.zero_le _, Nat.zero_le _, Nat.zero_le _, Nat.zero_le _⟩, fun _ => ⟨rfl, rfl⟩, nofun⟩

/-- A held part sends nothing, and nothing waits (R179). -/
theorem State.QueueLaw.hushed {s : State} (h : s.QueueLaw) :
    State.QueueLaw { s with held := true, control := s.control.hushed } := by
  obtain ⟨hbounds, -, -⟩ := s.queueLaw_iff.mp h
  exact (State.queueLaw_iff _).mpr
    ⟨⟨hbounds.requests, Nat.zero_le _, Nat.zero_le _, Nat.zero_le _⟩, fun _ => ⟨rfl, rfl⟩, fun _ => rfl⟩

theorem exec_queueLaw (i : Instr) {s t : State} (hs : s.QueueLaw) (h : exec i s = .next t) : t.QueueLaw := by
  cases i with
  | powerOn levels => cases h; exact queueLaw_atPowerOn ..
  | resetAssert => cases h; exact hs.hushed
  | unknownRecordArrival c => cases h; exact hs
  | carrierGain c => exact unlessHeld_keepsQueues (f := fun t => t.gainCarrier c) h hs .gainCarrier
  | carrierLoss c => exact unlessHeld_keepsQueues (f := fun t => t.loseCarrier c) h hs .loseCarrier
  | announceArrival c r k =>
    exact unlessHeld_keepsQueues (f := fun t => t.announceArrives c r _) h hs (.announceArrives ..)
  | trainingSegmentArrival c r k =>
    exact unlessHeld_keepsQueues (f := fun t => t.trainSegment c r.index _) h hs (.trainSegment ..)
  | frameHeaderArrival c r k => exact unlessHeld_keepsQueues (f := fun t => t.headerArrives c r _) h hs (.headerArrives ..)
  | segmentArrival c i body k =>
    exact unlessHeld_keepsQueues (f := fun t => t.segmentArrives c i body _) h hs (.segmentArrives ..)
  | frameTrailerArrival c n k =>
    exact unlessHeld_keepsQueues (f := fun t => t.trailerArrives c n _) h hs (.trailerArrives ..)
  | announceTimerExpiry c => exact unlessHeld_keepsQueues (f := fun t => t.announceExpires c) h hs .announceExpires
  | trainTimerExpiry c => exact unlessHeld_keepsQueues (f := fun t => t.trainExpires c) h hs .trainExpires
  | backChannelRecordSent c => exact unlessHeld_keepsQueues (f := fun t => t.backRecordSent c) h hs .backRecordSent
  | outputFrameStart => exact unlessHeld_keepsQueues h hs .frameStart
  | displaySenseChange level =>
    exact unlessHeld_keepsQueues (f := fun t => { t with display := t.display.sense level }) h hs (.of_queues rfl)
  | displaySenseTimerExpiry => exact unlessHeld_keepsQueues h hs .senseExpires
  | holdTimerExpiry w => exact unlessHeld_keepsQueues (f := fun t => t.holdExpires w) h hs (.holdExpires w)
  | vehicleTimeoutExpiry => exact unlessHeld_keepsQueues h hs .vehicleTimeout
  | turnDwellExpiry => exact unlessHeld_keepsQueues h hs .turnDwellExpires
  | forceTimerExpiry => exact unlessHeld_keepsQueues h hs .forceTimerExpires
  | viewDwellTimerExpiry => exact unlessHeld_keepsQueues h hs .viewDwellExpires
  | onTimeExpiry ch =>
    exact unlessHeld_keepsQueues (f := fun t => t.setChannel ch (t.channel ch).onExpires) h hs (.setChannel ..)
  | offTimeExpiry ch =>
    exact unlessHeld_keepsQueues (f := fun t => t.setChannel ch (t.channel ch).offExpires) h hs (.setChannel ..)
  | byteGapTimerExpiry => exact unlessHeld_control_queueLaw h hs Control.keepsQueues_gapExpires
  | controlFrameComplete b =>
    exact unlessHeld_control_queueLaw (f := fun k => k.completeWith b) h hs (Control.keepsQueues_completeWith b)
  | frameSendEnd => exact unlessHeld_control_queueLaw h hs Control.keepsQueues_sendEnd
  | byteReceived b => exact unlessHeld_control_queueLaw (f := fun k => k.receive b) h hs (Control.keepsQueues_receive b)
  | unknownRequest kind tag => exact request_queueLaw h hs (answersInTurn_unknownRequest kind)
  | identify tag b => exact request_queueLaw h hs (.run answersInTurn_identify b)
  | status tag b => exact request_queueLaw h hs (.run answersInTurn_status b)
  | setParametersLink tag b => exact request_queueLaw h hs (.run answersInTurn_link b)
  | setParametersStore tag b => exact request_queueLaw h hs (.run answersInTurn_store b)
  | setParametersTone tag b => exact request_queueLaw h hs (.run answersInTurn_tone b)
  | setParametersToneLimits tag b => exact request_queueLaw h hs (.run answersInTurn_toneLimits b)
  | setParametersClarity tag b => exact request_queueLaw h hs (.run answersInTurn_clarity b)
  | setParametersClarityLimits tag b => exact request_queueLaw h hs (.run answersInTurn_clarityLimits b)
  | setParametersZone tag b => exact request_queueLaw h hs (.run answersInTurn_zone b)
  | setParametersSituation tag b => exact request_queueLaw h hs (.run answersInTurn_situation b)
  | setParametersCadence tag b => exact request_queueLaw h hs (.run answersInTurn_cadence b)
  | portEnable tag b => exact request_queueLaw h hs (.run answersInTurn_portEnable b)
  | portDisable tag b => exact request_queueLaw h hs (.run answersInTurn_portDisable b)
  | linkRestart tag b => exact request_queueLaw h hs (.run answersInTurn_linkRestart b)
  | portPreferenceList tag b => exact request_queueLaw h hs (.run answersInTurn_portPreference b)
  | windowSet tag b => exact request_queueLaw h hs (.run answersInTurn_windowSet b)
  | windowDrop tag b => exact request_queueLaw h hs (.run answersInTurn_windowDrop b)
  | seamSet tag b => exact request_queueLaw h hs (.run answersInTurn_seamSet b)
  | gridBegin tag b => exact request_queueLaw h hs (.run answersInTurn_gridBegin b)
  | gridNodes tag b => exact request_queueLaw h hs (.run answersInTurn_gridNodes b)
  | gridEnd tag b => exact request_queueLaw h hs (.run answersInTurn_gridEnd b)
  | gridDrop tag b => exact request_queueLaw h hs (.run answersInTurn_gridDrop b)
  | shapeSet tag b => exact request_queueLaw h hs (.run answersInTurn_shapeSet b)
  | shapeDrop tag b => exact request_queueLaw h hs (.run answersInTurn_shapeDrop b)
  | setOverlayList tag b => exact request_queueLaw h hs (.run answersInTurn_setOverlayList b)
  | viewSet tag b => exact request_queueLaw h hs (.run answersInTurn_viewSet b)
  | paneSet tag b => exact request_queueLaw h hs (.run answersInTurn_paneSet b)
  | paneDrop tag b => exact request_queueLaw h hs (.run answersInTurn_paneDrop b)
  | viewMapSet tag b => exact request_queueLaw h hs (.run answersInTurn_viewMapSet b)
  | applyTables tag b => exact request_queueLaw h hs (.run answersInTurn_applyTables b)
  | vehicleState tag record => exact request_queueLaw h hs (answersInTurn_vehicleState record)
  | forceView tag b => exact request_queueLaw h hs (.run answersInTurn_forceView b)
  | releaseView tag b => exact request_queueLaw h hs (.run answersInTurn_releaseView b)
  | silence tag b => exact request_queueLaw h hs (.run answersInTurn_silence b)
  | readCamera tag b => exact request_queueLaw h hs (.run answersInTurn_readCamera b)
  | readMeter tag b => exact request_queueLaw h hs (.run answersInTurn_readMeter b)
  | readTable tag b => exact request_queueLaw h hs (.run answersInTurn_readTable b)
  | counterSelect tag b => exact request_queueLaw h hs (.run answersInTurn_counterSelect b)
  | counterRead tag b => exact request_queueLaw h hs (.run answersInTurn_counterRead b)
  | modeConfig tag b => exact request_queueLaw h hs (.run answersInTurn_modeConfig b)
  | modeRun tag b => exact request_queueLaw h hs (.run answersInTurn_modeRun b)
  | modeStandby tag b => exact request_queueLaw h hs (.run answersInTurn_modeStandby b)
  | restart tag b => exact request_queueLaw h hs (.run answersInTurn_restart b)

/-- Settles O6, over the commands: requests by their replies, the other events by their reports, and one millisecond, which
moves no queue. -/
theorem stepKeepsQueueLaw : Obligations.StepKeepsQueueLaw := by
  intro s t hs h
  unfold step at h
  split at h
  · cases h
    exact hs
  · next i rest _ => exact exec_queueLaw i (s := s.withPending rest) hs h

end Sys2Proof.Machine
end

section
/-! PROOF. SET PARAMETERS of the link group, the tone limits, the clarity limits and the zone group (R170). -/

namespace Sys2Proof.Machine

/-- A request that writes the parameters alone. -/
theorem request_setParams {s : State} {r : Instr} (h : Takes s r) {kind tag : Byte} {f : State → Answer} {st : Status}
    {data : ReplyData} {q : Params} (hf : ∀ k, f { s with control := k } = ⟨st, data, { s with params := q, control := k }⟩) :
    request r kind tag f s = .next (State.drivePins { s.replied kind tag st data with params := q }) :=
  request_taken h (g := fun t => { t with params := q }) hf (fun _ => rfl) fun _ _ => rfl

/-- Settles O28: each group's clamped values are the stored ones, and the status tells whether they are the request's. -/
theorem parametersAreClampedAndStored : Obligations.ParametersAreClampedAndStored := by
  refine fun s tag => ⟨fun p q ht hq => ?_, fun p q ht hq => ?_, fun p q ht hq => ?_, fun p q ht hq => ?_⟩
  · have hclamp : q = clampLink p := hq
    rw [hclamp, ← statusOf_ne]
    exact request_setParams ht fun k => rfl
  · have hclamp : q = clampToneLimits p := hq
    rw [hclamp, ← statusOf_ne]
    exact request_setParams ht fun k => rfl
  · have hclamp : q = clampClarityLimits p := hq
    rw [hclamp, ← statusOf_ne]
    exact request_setParams ht fun k => rfl
  · have hclamp : q = clampZone p := hq
    rw [hclamp, ← statusOf_ne]
    exact request_setParams ht fun k => rfl

end Sys2Proof.Machine
end

section
/-! PROOF. The requests that only read (R140, R172, R173, R175), STATUS and COUNTER SELECT. -/

namespace Sys2Proof.Machine

section
variable {s : State} {r : Instr} {kind tag : Byte} {f : State → Answer} {st : Status} {data : ReplyData}

/-- A request that only reads. -/
theorem request_reads (h : Takes s r) (hf : ∀ k, f { s with control := k } = ⟨st, data, { s with control := k }⟩) :
    request r kind tag f s = .next (s.replied kind tag st data).drivePins :=
  request_taken h (g := id) hf (fun _ => rfl) fun _ _ => rfl

/-- A request that writes the lost count and the counters; its data may read them. -/
theorem request_setCounts (h : Takes s r) {lost : Nat} {counters : Vector Counter 4}
    (hf : ∀ k, k.lost = s.control.lost → k.counters = s.control.counters → f { s with control := k }
      = ⟨st, data, { s with control := { k with lost := lost, counters := counters } }⟩) :
    request r kind tag f s = .next (State.drivePins
      { s with control := { s.control.replied kind tag st data with lost := lost, counters := counters } }) := by
  unfold request
  rw [unlessHeld_live h.live, State.serve_taken h]
  unfold answerWith Control.replied
  dsimp only
  split
  · have hsent := hf { s.control with
      requests := s.control.requests.tail, sending := some (.reply ⟨replyKind kind, tag, .ok, .none⟩) } rfl rfl
    simp only [hsent]
  · have hwaits := hf { s.control with requests := s.control.requests.tail } rfl rfl
    simp only [hwaits]

end

/-! ## The reply leaves the counts (R168, R174) -/

theorem Control.replied_lost (k : Control) (kind tag : Byte) (st : Status) (data : ReplyData) :
    (k.replied kind tag st data).lost = k.lost := by unfold Control.replied; split <;> rfl

theorem Control.replied_counters (k : Control) (kind tag : Byte) (st : Status) (data : ReplyData) :
    (k.replied kind tag st data).counters = k.counters := by unfold Control.replied; split <;> rfl

theorem Control.replied_counts (k : Control) (kind tag : Byte) (st : Status) (data : ReplyData) :
    { k.replied kind tag st data with lost := k.lost, counters := k.counters } = k.replied kind tag st data := by
  unfold Control.replied; split <;> rfl

/-! ## STATUS and COUNTER SELECT (R172, R175) -/

theorem exec_status {s : State} {tag : Byte} (h : Takes s (.status tag (.fields ()))) :
    exec (.status tag (.fields ())) s = .next (State.drivePins
      { s with control := { s.control.replied 0x02 tag .ok (.status s.statusShare) with lost := 0 } }) := by
  have hcounts := request_setCounts (kind := 0x02) (tag := tag) (f := status ()) (st := .ok) (data := .status s.statusShare)
    (lost := 0) (counters := s.control.counters) h fun k hlost hcounters => by
      rw [← hcounters]
      unfold status State.statusShare
      rw [← hlost]
  rw [← Control.replied_counters s.control 0x02 tag .ok (.status s.statusShare)] at hcounts
  exact hcounts

theorem counterSelect_val {f : CounterFields} {i : Fin 4} {e : StatEvent} (hcounter : f.counter = i.val)
    (hevent : eventOf? f.event = some e) (s : State) : counterSelect f s = ⟨.ok, .none,
      { s with control := { s.control with counters := put s.control.counters i ⟨e, f.mask, 0⟩ } }⟩ := by
  unfold counterSelect
  rw [hcounter, index?_val, hevent]

theorem exec_counterSelect {s : State} {tag : Byte} {f : CounterFields} (h : Takes s (.counterSelect tag (.fields f)))
    {i : Fin 4} {e : StatEvent} (hcounter : f.counter = i.val) (hevent : eventOf? f.event = some e) :
    exec (.counterSelect tag (.fields f)) s = .next (State.drivePins { s with
      control := { s.control.replied 0x1B tag .ok .none with counters := put s.control.counters i ⟨e, f.mask, 0⟩ } }) := by
  have hcounts := request_setCounts (kind := 0x1B) (tag := tag) (f := counterSelect f) (st := .ok) (data := .none)
    (lost := s.control.lost) (counters := put s.control.counters i ⟨e, f.mask, 0⟩) h fun k hlost hcounters => by
      rw [counterSelect_val hcounter hevent, ← hlost, ← hcounters]
  rw [← Control.replied_lost s.control 0x1B tag .ok .none] at hcounts
  exact hcounts

/-- The codes of R174 number the events from NONE on. -/
theorem eventOf?_eq_getElem? (n : Nat) : eventOf? n = [StatEvent.none, .segmentError, .frameGap, .frameTruncated, .linkLost,
    .retrain, .paneAlt, .controlDiscard, .reportLost][n]? := by
  match n with
  | 0 | 1 | 2 | 3 | 4 | 5 | 6 | 7 | 8 => rfl
  | n + 9 => rfl

theorem counterSelect_badValue {f : CounterFields} (h : 4 ≤ f.counter ∨ 9 ≤ f.event) (s : State) :
    counterSelect f s = refuse .badValue s := by
  unfold counterSelect
  split
  · next i e hcounter hevent =>
    obtain hle | hle := h
    · rw [index?_eq_none.mpr hle] at hcounter
      exact nomatch hcounter
    · rw [eventOf?_eq_getElem?, List.getElem?_eq_none hle] at hevent
      exact nomatch hevent
  · rfl

/-! ## READ CAMERA, READ METER and READ TABLE (R67, R98, R130, R173) -/

theorem readCamera_val (c : Cam) (s : State) : readCamera c.val s = ⟨.ok, .camera (s.cameraShare c), s⟩ := by
  unfold readCamera
  rw [index?_val]

theorem readCamera_of_le {camera : Nat} (h : 4 ≤ camera) (s : State) : readCamera camera s = refuse .badValue s := by
  unfold readCamera
  rw [index?_eq_none.mpr h]

theorem readMeter_val (w : WindowId) (s : State) : readMeter w.val s = ⟨.ok,
    .meter ⟨(s.window w).active, (s.window w).change, (s.window w).measuring, (s.window w).result, s.zoneShare w⟩, s⟩ := by
  unfold readMeter
  rw [index?_val]

theorem readMeter_of_le {id : Nat} (h : 16 ≤ id) (s : State) : readMeter id s = refuse .badValue s := by
  unfold readMeter
  rw [index?_eq_none.mpr h]

theorem State.zoneShare_of_watch {s : State} {w : WindowId} {d : WindowDef} {level : Nat} {mask : BitVec 8}
    (hactive : (s.window w).active = some d) (hrole : d.role = .watch level mask) : s.zoneShare w = (s.zone w).map fun z =>
      ⟨z.state, mask.getLsbD (situationCode s.selector.situation).val, z.count, z.hold, z.valid, z.exposure⟩ := by
  have harmed : (s.window w).armed s.selector.situation = mask.getLsbD (situationCode s.selector.situation).val := by
    simp [Window.armed, hactive, isArmed, hrole]
  unfold State.zoneShare
  rw [harmed, hactive]
  simp [WindowDef.isWatch, hrole]

theorem State.zoneShare_of_not_watch {s : State} {w : WindowId}
    (h : ∀ d level mask, (s.window w).active = some d → d.role ≠ .watch level mask) : s.zoneShare w = none := by
  unfold State.zoneShare
  refine if_neg fun hwatch => ?_
  obtain ⟨d, hactive, hd⟩ := (Option.any_eq_true ..).mp hwatch
  unfold WindowDef.isWatch at hd
  split at hd
  · next level mask hrole => exact h d level mask hactive hrole
  · exact nomatch hd

theorem readTable_some {f : ReadTableFields} {s : State} {x : TableShare} (h : readTableItem f s.views = some x) :
    readTable f s = ⟨.ok, .table (some x) s.views.applyPending, s⟩ := by
  unfold readTable
  rw [h]

theorem readTable_none {f : ReadTableFields} {s : State} (h : readTableItem f s.views = none) :
    readTable f s = ⟨.badValue, .table none s.views.applyPending, s⟩ := by
  unfold readTable
  rw [h]

theorem readTableItem_undefined {copy : Option TableCopy} {item : Option TableItem} (h : copy = none ∨ item = none)
    (v : ViewTable) : readTableItem ⟨copy, item⟩ v = none := by
  unfold readTableItem
  split
  · next hcopy hitem => exact (h.elim (fun hc => nomatch hc.symm.trans hcopy) fun hi => nomatch hi.symm.trans hitem)
  · next hcopy hitem => exact (h.elim (fun hc => nomatch hc.symm.trans hcopy) fun hi => nomatch hi.symm.trans hitem)
  · rfl

/-- Settles O57: STATUS and COUNTER SELECT on the counts they write, the other requests on the unchanged state. -/
theorem readingAndCounterRequests : Obligations.ReadingAndCounterRequests := by
  refine ⟨fun s tag => ⟨?_, ?_, ?_, ?_, ?_, ?_, ?_, ?_, ?_⟩, fun s tag f ht => ⟨?_, ?_⟩⟩
  · exact fun ht => request_reads ht fun k => rfl
  · exact fun ht => exec_status ht
  · intro c ht
    have hread := request_reads (kind := 0x18) (tag := tag) (f := readCamera c.val) (data := .camera (s.cameraShare c)) ht
      fun k => readCamera_val c _
    unfold State.cameraShare at hread
    simp only [staleOrEmpty_eq] at hread
    exact hread
  · exact fun n hn ht => request_refused ht fun k => readCamera_of_le hn _
  · intro w ht
    have hread := request_reads (kind := 0x19) (tag := tag) (f := readMeter w.val) (data := .meter ⟨(s.window w).active,
      (s.window w).change, (s.window w).measuring, (s.window w).result, s.zoneShare w⟩) ht fun k => readMeter_val w _
    refine hread.trans ?_
    split
    · next hactive => rw [State.zoneShare_of_watch hactive rfl]
    · next hother =>
      rw [State.zoneShare_of_not_watch]
      rintro ⟨x, y, z, u, v, r, role⟩ level mask hactive rfl
      exact hother _ _ _ _ _ _ _ _ hactive
  · exact fun n hn ht => request_refused ht fun k => readMeter_of_le hn _
  · intro copy item ht tables answer
    have hsome : ∀ x, tableItem? tables item = some x → answer .ok (some x) :=
      fun x hx => request_reads ht fun k => readTable_some (by cases copy <;> exact hx)
    have hnone : tableItem? tables item = none → answer .badValue none :=
      fun hx => request_reads ht fun k => readTable_none (by cases copy <;> exact hx)
    refine ⟨fun v hv => hsome _ ?_, fun hmap => hsome _ ?_, fun l hl => hsome _ ?_, fun n hn => hnone ?_⟩
    · rw [hv, tableItem?, index?_val, Option.map_some]
    · rw [hmap, tableItem?]
    · rw [hl, tableItem?, index?_val, Option.map_some]
    · obtain ⟨hitem, hle⟩ | ⟨hitem, hle⟩ := hn <;> rw [hitem, tableItem?, index?_eq_none.mpr hle, Option.map_none]
  · exact fun copy item hnone ht => request_reads ht fun k => readTable_none (readTableItem_undefined hnone _)
  · intro ht
    have hread := request_setCounts (kind := 0x1C) (tag := tag) (f := counterRead ()) (st := .ok)
      (data := .counters s.control.counters) (lost := s.control.lost) (counters := s.control.counters) ht
      fun k hlost hcounters => by rw [← hlost, ← hcounters]; rfl
    rw [Control.replied_counts] at hread
    exact hread
  · exact fun i e hcounter hevent => exec_counterSelect ht hcounter ((eventOf?_eq_getElem? _).trans hevent)
  · exact fun hbad => request_refused ht fun k => counterSelect_badValue hbad _

end Sys2Proof.Machine
end

section
/-! PROOF. Requests turned away: arrivals queued, answered FULL or not answered (R164, R167), BAD_KIND and BAD_LENGTH
(R165, R166). -/

namespace Sys2Proof.Machine

/-! ## Arrivals (R164) -/

theorem Control.arrive_room {k : Control} (h : k.requests.length < 4) (r : Instr) (kind tag : Byte) :
    k.arrive r kind tag = { k with requests := k.requests ++ [r] } := if_pos h

theorem Control.arrive_full {k : Control} (h : 4 ≤ k.requests.length) (r : Instr) (kind tag : Byte) :
    k.arrive r kind tag = k.replyFull kind tag := if_neg (Nat.not_lt.mpr h)

theorem Control.replyFull_drops {k : Control} (h : 4 ≤ k.replies.countP (fun q => q.status = .full)) (kind tag : Byte) :
    k.replyFull kind tag = k.countEvents .controlDiscard none 1 := if_pos h

theorem Control.replyFull_replies {k : Control} (h : k.replies.countP (fun q => q.status = .full) < 4) (kind tag : Byte) :
    k.replyFull kind tag = Control.startNext { k with replies := k.replies ++ [⟨replyKind kind, tag, .full, .none⟩] } :=
  if_neg (Nat.not_le.mpr h)

/-- A full queue is left as it is. -/
theorem Control.replyFull_requests (k : Control) (kind tag : Byte) : (k.replyFull kind tag).requests = k.requests := by
  unfold Control.replyFull
  split
  · rfl
  · exact Control.startNext_requests _

/-- A request that has arrived stands at the head of the queue where the queue was empty, or held it there. -/
theorem Control.arrive_head {k : Control} {r : Instr} {kind tag : Byte} (h : (k.arrive r kind tag).requests.head? = some r)
    (hhead : k.requests.head? ≠ some r) : k.requests = [] := by
  by_cases hroom : k.requests.length < 4
  · rw [Control.arrive_room hroom] at h
    match hq : k.requests with
    | [] => rfl
    | x :: xs => exact absurd (by simpa [hq] using h) hhead
  · rw [Control.arrive_full (Nat.not_lt.mp hroom), Control.replyFull_requests] at h
    exact absurd h hhead

/-! ## The command of a request that may not be taken (log 6) -/

/-- The commands of the request rows are requests of their KIND and TAG (R162, R169). -/
theorem exec_request {i : Instr} {kind tag : Byte} (h : requestOf? i = some (kind, tag)) :
    ∃ f, ∀ s, exec i s = request i kind tag f s := by
  cases i
  all_goals cases h
  all_goals exact ⟨_, fun _ => rfl⟩

section
variable {s : State} {i : Instr} {kind tag : Byte}

theorem exec_arrives (hi : requestOf? i = some (kind, tag)) (hlive : s.held = false)
    (hhead : s.control.requests.head? ≠ some i)
    (hwait : s.control.requests ≠ [] ∨ s.control.processorFree = false) :
    exec i s = .next (State.drivePins { s with control := s.control.arrive i kind tag }) := by
  obtain ⟨f, hf⟩ := exec_request hi
  have htake : (s.control.arrive i kind tag).mayTake i = false := by
    refine Bool.eq_false_iff.mpr fun htake => ?_
    obtain ⟨harrived, hfree⟩ := Bool.and_eq_true_iff.mp htake
    have hempty := Control.arrive_head (of_decide_eq_true harrived) hhead
    rw [Control.arrive_room (by rw [hempty]; decide)] at hfree
    exact hwait.elim (fun h => h hempty) fun h => Bool.false_ne_true (h.symm.trans hfree)
  rw [hf, request, unlessHeld_live hlive]
  unfold State.serve
  dsimp only
  rw [if_neg hhead, if_neg (Bool.eq_false_iff.mp htake)]

theorem exec_waits (hi : requestOf? i = some (kind, tag)) (hlive : s.held = false)
    (hhead : s.control.requests.head? = some i) (hbusy : s.control.processorFree = false) :
    exec i s = .next s.drivePins := by
  obtain ⟨f, hf⟩ := exec_request hi
  have htake : s.control.mayTake i = false := by simp [Control.mayTake, hbusy]
  rw [hf, request, unlessHeld_live hlive]
  unfold State.serve
  dsimp only
  rw [if_pos hhead, if_neg (Bool.eq_false_iff.mp htake)]

end

/-! ## BAD_KIND (R165, R166) -/

theorem unknownRequest_badKind {kind : Byte} (h : kind = 0 ∨ 0x1F ≤ kind.toNat) (s : State) :
    unknownRequest kind s = refuse .badKind s := by
  have hknown : ∀ k : Byte, k ≠ 0 → k.toNat < 0x1F → kind ≠ k := by
    rintro k h0 hk rfl
    exact h.elim h0 fun hle => by omega
  unfold unknownRequest
  rw [if_neg (not_or.mpr ⟨hknown 0x03 (by decide) (by decide), hknown 0x04 (by decide) (by decide)⟩),
    if_neg (hknown 0x1D (by decide) (by decide))]

/-- Settles O56: an arrival by the room in the queue and in the reply list, and refusals as requests that change nothing. -/
theorem requestsThatAreTurnedAway : Obligations.RequestsThatAreTurnedAway := by
  refine ⟨fun k r kind tag => ⟨?_, ?_, ?_, ?_⟩, fun s i kind tag hi hlive => ⟨exec_arrives hi hlive, exec_waits hi hlive⟩,
    fun s kind tag ht hkind => ?_, fun s tag i kind hmem ht => ?_⟩
  · exact fun hroom => Control.arrive_room hroom r kind tag
  · intro hfull hmany
    rw [Control.arrive_full hfull, Control.replyFull_drops hmany]
  · intro hfull hfew hbusy
    rw [Control.arrive_full hfull, Control.replyFull_replies hfew]
    exact Control.startNext_sending hbusy
  · intro hfull hfew hidle
    rw [Control.arrive_full hfull, Control.replyFull_replies hfew]
    unfold Control.startNext
    rw [hidle]
    cases k.replies with
    | nil => rfl
    | cons q qs => rfl
  · exact request_refused ht fun _ => unknownRequest_badKind hkind _
  · simp only [List.mem_cons, Prod.mk.injEq, List.not_mem_nil, or_false] at hmem
    obtain ⟨rfl, rfl⟩ | ⟨rfl, rfl⟩ | ⟨rfl, rfl⟩ | ⟨rfl, rfl⟩ | ⟨rfl, rfl⟩ | ⟨rfl, rfl⟩ | ⟨rfl, rfl⟩ | ⟨rfl, rfl⟩ | ⟨rfl, rfl⟩
      | ⟨rfl, rfl⟩ | ⟨rfl, rfl⟩ | ⟨rfl, rfl⟩ := hmem
    all_goals exact request_refused ht fun _ => rfl

end Sys2Proof.Machine
end

section
/-! PROOF. The receiver byte by byte, the check of a complete frame, the byte gap (R161 to R164) and the end of a frame that is
sent (R167). -/

namespace Sys2Proof.Machine

/-! ## A byte in each phase (R163) -/

namespace Receiver

section
variable {rx : Receiver} {b : LineByte}

theorem take_of_hunt (h : rx.phase = .hunt) : rx.take b =
    if b.value = 0xC3 then Receiver.initial.stored .length b.stop else rx := by
  unfold Receiver.take
  rw [h]

theorem take_of_length (h : rx.phase = .length) : rx.take b =
    if 240 < b.value.toNat then .initial else { rx.stored .kind b.stop with len := b.value.toNat } := by
  unfold Receiver.take
  rw [h]

theorem take_of_kind (h : rx.phase = .kind) : rx.take b = { rx.stored .tag b.stop with kind := b.value } := by
  unfold Receiver.take
  rw [h]

theorem take_of_tag (h : rx.phase = .tag) :
    rx.take b = { rx.stored (if rx.len = 0 then .check else .body) b.stop with tag := b.value } := by
  unfold Receiver.take
  rw [h]

theorem take_of_body (h : rx.phase = .body) : rx.take b =
    { rx.stored (if rx.body.length + 1 < rx.len then .body else .check) b.stop with body := rx.body ++ [b.value] } := by
  have hphase : (if rx.len ≤ (rx.body ++ [b.value]).length then RxPhase.check else .body)
      = if rx.body.length + 1 < rx.len then .body else .check := by
    rw [List.length_append, List.length_singleton]
    split
    · next hle => exact (if_neg (Nat.not_lt.mpr hle)).symm
    · next hlt => exact (if_pos (Nat.not_le.mp hlt)).symm
  unfold Receiver.take
  rw [h]
  dsimp only
  rw [hphase]

theorem take_of_check (h : rx.phase = .check) : rx.take b = { rx.stored .check b.stop with checkHigh := some b.value } := by
  unfold Receiver.take
  rw [h]

/-- A complete frame's check matches where every byte had its stop bit and the bytes agree (R161, R162). -/
theorem checkHolds_iff {high : Byte} : rx.checkHolds high b = true ↔ rx.damaged = false ∧ b.stop = true
    ∧ linkCheck (BitVec.ofNat 8 rx.len :: rx.kind :: rx.tag :: rx.body) = high ++ b.value := by
  simp [Receiver.checkHolds, and_assoc]

end

end Receiver

section
variable {k : Control} {b : LineByte}

/-- A byte that does not complete a frame acts on the receiver alone. -/
theorem Control.receive_take (h : k.rx.phase ≠ .check ∨ k.rx.checkHigh = none) :
    k.receive b = { k with rx := k.rx.take b } := by
  unfold Control.receive
  split
  · next hcheck hhigh => exact h.elim (fun hc => absurd hcheck hc) fun hn => nomatch hn.symm.trans hhigh
  · rfl

theorem Control.completeWith_nothing (h : k.rx.phase ≠ .check ∨ k.rx.checkHigh = none) : k.completeWith b = k := by
  unfold Control.completeWith
  split
  · next hcheck hhigh => exact h.elim (fun hc => absurd hcheck hc) fun hn => nomatch hn.symm.trans hhigh
  · rfl

theorem Control.receive_complete {high : Byte} (hcheck : k.rx.phase = .check) (hhigh : k.rx.checkHigh = some high) :
    k.receive b = k.complete high b := by
  unfold Control.receive
  rw [hcheck, hhigh]

theorem Control.completeWith_complete {high : Byte} (hcheck : k.rx.phase = .check) (hhigh : k.rx.checkHigh = some high) :
    k.completeWith b = k.complete high b := by
  unfold Control.completeWith
  rw [hcheck, hhigh]

theorem Control.complete_eq {high : Byte} : k.complete high b =
    if k.rx.damaged = false ∧ b.stop = true
      ∧ linkCheck (BitVec.ofNat 8 k.rx.len :: k.rx.kind :: k.rx.tag :: k.rx.body) = high ++ b.value
    then Control.arrive { k with rx := .initial } (readRequest k.rx.kind k.rx.tag k.rx.body) k.rx.kind k.rx.tag
    else Control.countEvents { k with rx := .initial } .controlDiscard none 1 :=
  if_congr Receiver.checkHolds_iff rfl rfl

end

theorem Control.sendEnd_busy {k : Control} (h : k.sending ≠ none) :
    k.sendEnd = Control.startNext { k with sending := none } :=
  if_pos (Option.isSome_iff_ne_none.mpr h)

/-! ## The commands -/

section
variable {s : State}

theorem exec_byteReceived (hs : s.held = false) (b : LineByte) :
    exec (.byteReceived b) s = .next (State.drivePins { s with control := s.control.receive b }) :=
  unlessHeld_live hs fun t => { t with control := t.control.receive b }

theorem exec_controlFrameComplete (hs : s.held = false) (b : LineByte) :
    exec (.controlFrameComplete b) s = .next (State.drivePins { s with control := s.control.completeWith b }) :=
  unlessHeld_live hs fun t => { t with control := t.control.completeWith b }

theorem exec_byteGapTimerExpiry (hs : s.held = false) :
    exec .byteGapTimerExpiry s = .next (State.drivePins { s with control := s.control.gapExpires }) :=
  unlessHeld_live hs fun t => { t with control := t.control.gapExpires }

theorem exec_frameSendEnd (hs : s.held = false) :
    exec .frameSendEnd s = .next (State.drivePins { s with control := s.control.sendEnd }) :=
  unlessHeld_live hs fun t => { t with control := t.control.sendEnd }

/-- A byte that the receiver takes, by what it leaves of the receiver. -/
theorem exec_byteReceived_take (hs : s.held = false) {b : LineByte} {rx : Receiver}
    (h : s.control.rx.phase ≠ .check ∨ s.control.rx.checkHigh = none) (hrx : s.control.rx.take b = rx) :
    exec (.byteReceived b) s = .next (State.drivePins { s with control := { s.control with rx := rx } }) := by
  rw [exec_byteReceived hs, Control.receive_take h, hrx]

end

/-- Settles O55: a byte by the receiver's phase, the completing byte by its check, the gap and the end of a frame. -/
theorem receiverAndTransmitterEvents : Obligations.ReceiverAndTransmitterEvents := by
  refine ⟨fun s b stop hs => ⟨?_, ?_, ?_, ?_, ?_, ?_⟩, fun s hs hbusy => ?_⟩
  · intro hhunt hsync
    exact exec_byteReceived_take hs (.inl (by rw [hhunt]; decide)) ((Receiver.take_of_hunt hhunt).trans (if_neg hsync))
  · intro hhunt
    exact exec_byteReceived_take hs (.inl (by rw [hhunt]; decide)) ((Receiver.take_of_hunt hhunt).trans (if_pos rfl))
  · intro rx becomes damaged
    refine ⟨fun hlength hle => ?_, fun hlength hlt => ?_, fun hkind => ?_, fun htag => ?_, fun hbody => ?_,
      fun hcheck hhigh => ?_, fun hcheck hhigh => ?_, fun hwait => ?_⟩
    · exact exec_byteReceived_take hs (.inl (by rw [hlength]; decide))
        ((Receiver.take_of_length hlength).trans (if_neg (Nat.not_lt.mpr hle)))
    · exact exec_byteReceived_take hs (.inl (by rw [hlength]; decide))
        ((Receiver.take_of_length hlength).trans (if_pos hlt))
    · exact exec_byteReceived_take hs (.inl (by rw [hkind]; decide)) (Receiver.take_of_kind hkind)
    · exact exec_byteReceived_take hs (.inl (by rw [htag]; decide)) (Receiver.take_of_tag htag)
    · exact exec_byteReceived_take hs (.inl (by rw [hbody]; decide)) (Receiver.take_of_body hbody)
    · exact exec_byteReceived_take hs (.inr hhigh) ((Receiver.take_of_check hcheck).trans (by rw [← hcheck]; rfl))
    · obtain ⟨high, hhigh⟩ := Option.ne_none_iff_exists'.mp hhigh
      rw [exec_byteReceived hs, exec_controlFrameComplete hs, Control.receive_complete hcheck hhigh,
        Control.completeWith_complete hcheck hhigh]
    · rw [exec_controlFrameComplete hs, Control.completeWith_nothing hwait]
  · intro high hcheck hhigh
    rw [exec_controlFrameComplete hs, Control.completeWith_complete hcheck hhigh, Control.complete_eq]
    rfl
  · intro hgap
    rw [exec_byteGapTimerExpiry hs, Control.gapExpires, if_pos hgap]
    rfl
  · intro hgap
    rw [exec_byteGapTimerExpiry hs, Control.gapExpires, if_neg hgap]
  · rw [exec_frameSendEnd hs, Control.sendEnd_busy hbusy]
    generalize s.control = k
    obtain ⟨rate, rx, requests, replies, sending, reports, lost, counters⟩ := k
    match replies, reports with
    | _ :: _, _ => rfl
    | [], _ :: _ => rfl
    | [], [] => rfl

end Sys2Proof.Machine
end

section
/-! PROOF. A frame received byte by byte (R161 to R164): its header, its body, its check. -/

namespace Sys2Proof.Machine

/-- The receiver with KIND, TAG and some bytes of the body stored: it waits for the next byte of the body, and after the last
for the check (R163). -/
def Receiver.within (len : Nat) (kind tag : Byte) (body : List Byte) (damaged : Bool) : Receiver where
  phase := if body.length < len then .body else .check
  len := len
  kind := kind
  tag := tag
  body := body
  checkHigh := none
  gap := some 10
  damaged := damaged

section
variable {k : Control} {len : Nat} {kind tag : Byte} {body : List Byte} {damaged : Bool}

theorem Control.receive_rx {rx : Receiver} (h : rx.phase ≠ .check ∨ rx.checkHigh = none) (b : LineByte) :
    Control.receive { k with rx := rx } b = { k with rx := rx.take b } :=
  Control.receive_take (k := { k with rx := rx }) h

theorem Receiver.take_within (h : body.length < len) (b : LineByte) :
    (within len kind tag body damaged).take b = within len kind tag (body ++ [b.value]) (damaged || !b.stop) := by
  have hlength : (body ++ [b.value]).length = body.length + 1 := List.length_append
  rw [take_of_body (rx := within len kind tag body damaged) (if_pos h)]
  unfold within
  rw [hlength]
  rfl

/-- SYNC, LENGTH, KIND and TAG (R162). -/
theorem Control.receive_header {n : Byte} (h : n.toNat ≤ 240) (s0 s1 s2 s3 : Bool) :
    [⟨0xC3, s0⟩, ⟨n, s1⟩, ⟨kind, s2⟩, ⟨tag, s3⟩].foldl Control.receive { k with rx := .initial }
      = { k with rx := .within n.toNat kind tag [] (!s0 || !s1 || !s2 || !s3) } := by
  have hsync : Receiver.initial.take ⟨0xC3, s0⟩ = ⟨.length, 0, 0, 0, [], none, some 10, !s0⟩ := rfl
  have hlength : Receiver.take ⟨.length, 0, 0, 0, [], none, some 10, !s0⟩ ⟨n, s1⟩
      = ⟨.kind, n.toNat, 0, 0, [], none, some 10, !s0 || !s1⟩ :=
    (Receiver.take_of_length rfl).trans (if_neg (Nat.not_lt.mpr h))
  have htag : Receiver.take ⟨.tag, n.toNat, kind, 0, [], none, some 10, !s0 || !s1 || !s2⟩ ⟨tag, s3⟩
      = .within n.toNat kind tag [] (!s0 || !s1 || !s2 || !s3) := by
    rw [Receiver.take_of_tag rfl]
    unfold Receiver.within
    by_cases hn : n.toNat = 0
    · simp [hn, Receiver.stored]
    · simp [hn, Nat.pos_of_ne_zero hn, Receiver.stored]
  rw [List.foldl_cons, Control.receive_rx (.inr rfl), hsync, List.foldl_cons, Control.receive_rx (.inr rfl), hlength,
    List.foldl_cons, Control.receive_rx (.inr rfl), Receiver.take_of_kind rfl, List.foldl_cons,
    Control.receive_rx (.inr rfl)]
  exact congrArg (fun rx => { k with rx := rx }) htag

/-- The body, byte by byte. -/
theorem Control.receive_body {bytes : List Byte} {stops : List Bool} (hstops : stops.length = bytes.length)
    (hlen : body.length + bytes.length = len) :
    (List.zipWith LineByte.mk bytes stops).foldl Control.receive { k with rx := .within len kind tag body damaged }
      = { k with rx := .within len kind tag (body ++ bytes) (damaged || stops.any (! ·)) } := by
  induction bytes generalizing body stops damaged with
  | nil =>
    rw [List.length_nil, List.length_eq_zero_iff] at hstops
    simp [hstops]
  | cons b bytes ih =>
    cases stops with
    | nil => exact nomatch hstops
    | cons stop stops =>
      rw [List.length_cons] at hlen
      have hnext := ih (body := body ++ [b]) (stops := stops) (damaged := damaged || !stop) (Nat.succ.inj hstops)
        (by rw [List.length_append, List.length_singleton]; omega)
      rw [List.zipWith_cons_cons, List.foldl_cons, Control.receive_rx (.inr rfl), Receiver.take_within (by omega), hnext]
      simp [Bool.or_assoc]

/-- The two check bytes complete the frame (R162 to R164). -/
theorem Control.receive_check (hlen : body.length = len) (high low : Byte) (s4 s5 : Bool) :
    [⟨high, s4⟩, ⟨low, s5⟩].foldl Control.receive { k with rx := .within len kind tag body damaged }
      = if (damaged || !s4) = false ∧ s5 = true ∧ linkCheck (BitVec.ofNat 8 len :: kind :: tag :: body) = high ++ low
        then Control.arrive { k with rx := .initial } (readRequest kind tag body) kind tag
        else Control.countEvents { k with rx := .initial } .controlDiscard none 1 := by
  have hphase : (Receiver.within len kind tag body damaged).phase = .check := if_neg (by omega)
  rw [List.foldl_cons, Control.receive_rx (.inr rfl), Receiver.take_of_check hphase, List.foldl_cons, List.foldl_nil,
    Control.receive_complete (high := high) rfl rfl, Control.complete_eq]
  rfl

end

/-! ## The whole frame -/

theorem extractLsb'_append_bytes (c : BitVec 16) : c.extractLsb' 8 8 ++ c.extractLsb' 0 8 = c := by
  rw [BitVec.extractLsb'_append_extractLsb'_eq_extractLsb' (start₁ := 0) (start₂ := 8) rfl]
  exact BitVec.extractLsb'_eq_self

/-- The stop bits of a frame: those of SYNC, LENGTH, KIND and TAG, of the body, and of the check. -/
theorem exists_stops {n : Nat} {stops : List Bool} (h : stops.length = n + 6) : ∃ s0 s1 s2 s3 mid s4 s5,
    stops = s0 :: s1 :: s2 :: s3 :: (mid ++ [s4, s5]) ∧ mid.length = n := by
  match stops, h with
  | s0 :: s1 :: s2 :: s3 :: rest, h =>
    simp only [List.length_cons] at h
    obtain ⟨s4, s5, hlast⟩ := List.length_eq_two.mp (show (rest.drop n).length = 2 by rw [List.length_drop]; omega)
    refine ⟨s0, s1, s2, s3, rest.take n, s4, s5, ?_, by rw [List.length_take]; omega⟩
    rw [← hlast, List.take_append_drop]

theorem Control.receive_frame {k : Control} {kind tag : Byte} {body : List Byte} {stops : List Bool} (hrx : k.rx = .initial)
    (hbody : body.length ≤ 240) (hstops : stops.length = (frameBytes kind tag body).length) :
    (List.zipWith LineByte.mk (frameBytes kind tag body) stops).foldl Control.receive k
      = if ∀ stop ∈ stops, stop = true then k.arrive (readRequest kind tag body) kind tag
        else k.countEvents .controlDiscard none 1 := by
  rw [frameBytes_length] at hstops
  obtain ⟨s0, s1, s2, s3, mid, s4, s5, rfl, hmid⟩ := exists_stops hstops
  have hlen : (BitVec.ofNat 8 body.length).toNat = body.length := by
    rw [BitVec.toNat_ofNat]
    omega
  have hk : { k with rx := .initial } = k := by rw [← hrx]
  generalize hcheck : linkCheck (BitVec.ofNat 8 body.length :: kind :: tag :: body) = check
  have hbytes : List.zipWith LineByte.mk (frameBytes kind tag body) (s0 :: s1 :: s2 :: s3 :: (mid ++ [s4, s5]))
      = [⟨0xC3, s0⟩, ⟨BitVec.ofNat 8 body.length, s1⟩, ⟨kind, s2⟩, ⟨tag, s3⟩] ++ (List.zipWith LineByte.mk body mid
        ++ [⟨check.extractLsb' 8 8, s4⟩, ⟨check.extractLsb' 0 8, s5⟩]) := by
    simp [frameBytes, hcheck, List.zipWith_append hmid.symm]
  have hstop : ((!s0 || !s1 || !s2 || !s3) || mid.any (! ·) || !s4) = false ∧ s5 = true
      ↔ ∀ stop ∈ s0 :: s1 :: s2 :: s3 :: (mid ++ [s4, s5]), stop = true := by
    simp [and_assoc, or_imp, forall_and]
  have hfolded := Control.receive_header (k := k) (kind := kind) (tag := tag)
    (n := BitVec.ofNat 8 body.length) (by omega) s0 s1 s2 s3
  rw [hk, hlen] at hfolded
  rw [hbytes, List.foldl_append, hfolded, List.foldl_append, Control.receive_body hmid (by simp),
    List.nil_append, Control.receive_check rfl, hcheck, extractLsb'_append_bytes, hk]
  refine if_congr ?_ rfl rfl
  rw [← hstop]
  simp only [and_true]

end Sys2Proof.Machine
end

section
/-! PROOF. Selectors and fields of the bodies read (R46, R165, R169, R170, R176), and the frames that are sent
(R162, R166, R168). -/

namespace Sys2Proof.Machine

/-! ## Numbers of one and of two bytes (R162) -/

theorem oneByte_toNat {n : Nat} (h : n ≤ 255) : (oneByte n).toNat = n := by
  rw [oneByte, BitVec.toNat_ofNat]
  omega

/-- A number of two bytes comes back as it went. -/
theorem two_highFirst {n : Nat} (h : n ≤ 65535) : two (oneByte (n / 256)) (oneByte n) = n := by
  have hbytes : highFirst 2 n = [oneByte (n / 256), oneByte n] := by simp [highFirst]
  rw [two, ← hbytes, ofHighFirst_highFirst (by omega)]

theorem readZoneParams_badLength {body : List Byte} (h : body.length ≠ 4) : readZoneParams body = .badLength := by
  unfold readZoneParams
  split
  · exact absurd rfl h
  · rfl

/-- The zone group as stored is read as it is (R170). -/
theorem readZoneParams_bytes {p : ZoneParams} (hstep : p.actStep ≤ 255) (hframes : p.actFrames ≤ 255)
    (hhold : p.actHold ≤ 65535) : readZoneParams (ReplyData.zone p).bytes = .fields p := by
  have hbytes : (ReplyData.zone p).bytes
      = [oneByte p.actStep, oneByte p.actFrames, oneByte (p.actHold / 256), oneByte p.actHold] := by
    simp [ReplyData.bytes, highFirst]
  rw [hbytes, readZoneParams, oneByte_toNat hstep, oneByte_toNat hframes, two_highFirst hhold]

/-! ## Frames that are sent -/

/-- A frame around a body whose bytes under the check are `covered` (R162). -/
theorem frameBytes_eq {kind tag : Byte} {body covered : List Byte}
    (h : BitVec.ofNat 8 body.length :: kind :: tag :: body = covered) : frameBytes kind tag body
      = 0xC3 :: covered ++ [(linkCheck covered).extractLsb' 8 8, (linkCheck covered).extractLsb' 0 8] := by
  rw [← h]
  rfl

/-- Settles O54: a frame by its header, body and check; the selectors by their codes; the fields and the frames sent by their
bytes. -/
theorem framesArriveAsRequests : Obligations.FramesArriveAsRequests := by
  refine ⟨fun k kind tag body stops => Control.receive_frame, fun tag code body => ⟨?_, ?_⟩,
    fun tag a b h1 h0 id u1 u0 v1 v0 void p => ⟨?_, fun body hlen => ?_, ?_, readZoneParams_bytes⟩,
    fun tag share => rfl, fun tag present counter => ⟨frameBytes_eq rfl, frameBytes_eq ?_⟩⟩
  · have hgroup : readRequest 0x03 tag (code :: body) = parametersRequest tag (readParameters (code :: body)) := rfl
    rw [hgroup, readParameters]
    match code.toNat with
    | 0 | 1 | 2 | 3 | 4 | 5 | 6 | 7 | 8 => rfl
    | _ + 9 => rfl
  · have hmode : readRequest 0x1D tag [code] = modeRequest tag (readMode [code]) := rfl
    rw [hmode, readMode]
    match code.toNat with
    | 0 | 1 | 2 => rfl
    | _ + 3 => rfl
  · rw [← two_eq]
    rfl
  · have hzone : readRequest 0x03 tag (6 :: body) = .setParametersZone tag (readZoneParams body) := rfl
    rw [hzone, readZoneParams_badLength hlen]
  · rw [← two_eq]
    rfl
  · rw [← highFirst_two]
    rfl

end Sys2Proof.Machine
end
